-- ==== Sys2Proof/Word.lean ====
section
/-! DEFINITION. The unit the link carries: a byte, and the body of a frame or record as a list of bytes (R184, R188). -/

namespace Sys2Proof

/-- One byte of the serial link (R184: every eighth rising edge of the clock completes a byte). -/
abbrev Byte := BitVec 8

/-- The body of a command frame, reply record or notice record, first byte first (R188, R195). -/
abbrev Body := List Byte

/-- A raw count of the 12-bit converter, 0 to 4095 (R35). -/
abbrev RawCount := BitVec 12

end Sys2Proof
end

