-- ==== Sys2Proof/Config.lean ====
section
/-! DEFINITION. What one die or one implementation fixes, and the values the spec leaves free. None has a body: nothing in Lean can evaluate one, so a claim proved of the model holds whatever they are. -/

namespace Sys2Proof

/-- The die serial of GET_IDENT: 64 bits, fixed in each die (R200). -/
opaque Config.dieSerial : BitVec 64

/-- The stream of free values (log entry 4): the value drawn when `State.free` draws have been made before.
It decides the orders the spec leaves open: R69 (log entry 6), R177 (log entry 5), R27 (log entry 7). -/
opaque Config.freeNat : Nat → Nat

/-- Whether the Laser Drive Unit clears Ioff and the clamp mark when a FAILED write leaves no bank active:
R73 ('When the active bank changes') and R197 can be read either way (log entry 9). -/
opaque Config.failedWriteClearsTrim : Bool

end Sys2Proof
end

