-- ==== Sys2Proof/Machine/Names.lean ====
section
/-! DEFINITION. The spec's fixed sets of names, each an inductive type in the order its owning chapter first gives, and the byte value R188 gives each name: its position in that list, counting from 0. -/

namespace Sys2Proof

/-- The value at a position of a list of names (R188, read backwards): none where the byte names nothing. -/
def nameAt {α : Type} (names : List α) (code : Nat) : Option α := names[code]?

/-- The six modes (R2). -/
inductive Mode where
  | configure | standby | read | record | selftest | fault
  deriving DecidableEq, Repr

def Mode.all : List Mode := [.configure, .standby, .read, .record, .selftest, .fault]

/-- R188: the position of the mode in R2's list. -/
def Mode.code : Mode → Nat
  | .configure => 0 | .standby => 1 | .read => 2 | .record => 3 | .selftest => 4 | .fault => 5

/-- R53: the modes in which every laser level current is 0. -/
def Mode.laserOff : Mode → Bool
  | .configure | .standby | .fault => true
  | .read | .record | .selftest => false

/-- R131, R136: the modes in which the arm latch may be set and a head may take the gate. -/
def Mode.mayWrite : Mode → Bool
  | .record | .selftest => true
  | .configure | .standby | .read | .fault => false

/-- A recordable surface, 0 or 1 (00_scope.md, Block addresses and surfaces). -/
inductive Surface where
  | zero | one
  deriving DecidableEq, Repr

def Surface.all : List Surface := [.zero, .one]

def Surface.code : Surface → Nat
  | .zero => 0 | .one => 1

/-- Tracker states (R19). -/
inductive TrackerState where
  | lost | acquiring | locked
  deriving DecidableEq, Repr

def TrackerState.code : TrackerState → Nat
  | .lost => 0 | .acquiring => 1 | .locked => 2

/-- The kind of a boundary event (R27). -/
inductive BoundaryKind where
  | valid | coasted
  deriving DecidableEq, Repr

/-- The eight monitor channels, in the order of R35 and R46. -/
inductive Channel where
  | fmon | rsum | rtop | rbot | temp | vld | terr | aux
  deriving DecidableEq, Repr

def Channel.all : List Channel := [.fmon, .rsum, .rtop, .rbot, .temp, .vld, .terr, .aux]

/-- The channel's place in R35's table: its byte value and its place in a table of eight. -/
def Channel.index : Channel → Fin 8
  | .fmon => 0 | .rsum => 1 | .rtop => 2 | .rbot => 3 | .temp => 4 | .vld => 5 | .terr => 6 | .aux => 7

/-- Scan states (R34). -/
inductive ScanState where
  | stopped | running | stopping
  deriving DecidableEq, Repr

def ScanState.code : ScanState → Nat
  | .stopped => 0 | .running => 1 | .stopping => 2

/-- The sign of an offset (R34, R40). -/
inductive Sign where
  | plus | minus
  deriving DecidableEq, Repr

def Sign.all : List Sign := [.plus, .minus]

/-- The four judgements of a corrected value against a window (R42). -/
inductive Judgement where
  | disabled | high | low | inside
  deriving DecidableEq, Repr

/-- R42: a value is out of window when its judgement is HIGH or LOW. -/
def Judgement.out : Judgement → Bool
  | .high | .low => true
  | .disabled | .inside => false

/-- The four laser levels (R51). -/
inductive Level where
  | read | peak | bias | cool
  deriving DecidableEq, Repr

def Level.code : Level → Nat
  | .read => 0 | .peak => 1 | .bias => 2 | .cool => 3

/-- Media types of the disc record (R74, R75). -/
inductive Media where
  | writeOnce | rewritable
  deriving DecidableEq, Repr

def Media.all : List Media := [.writeOnce, .rewritable]

def Media.code : Media → Nat
  | .writeOnce => 0 | .rewritable => 1

/-- States of a calibration record (R79). -/
inductive CalState where
  | empty | trial | valid | stale
  deriving DecidableEq, Repr

def CalState.code : CalState → Nat
  | .empty => 0 | .trial => 1 | .valid => 2 | .stale => 3

/-- Source of a calibration record (R79). -/
inductive CalSource where
  | trial | host
  deriving DecidableEq, Repr

def CalSource.code : CalSource → Nat
  | .trial => 0 | .host => 1

/-- Speed classes (R114). -/
inductive Speed where
  | s1 | s2 | s3 | s4
  deriving DecidableEq, Repr

def Speed.all : List Speed := [.s1, .s2, .s3, .s4]

def Speed.index : Speed → Fin 4
  | .s1 => 0 | .s2 => 1 | .s3 => 2 | .s4 => 3

/-- Mark classes (R117, R121). -/
inductive MarkClass where
  | m2 | m3 | m4 | m5p
  deriving DecidableEq, Repr

def MarkClass.all : List MarkClass := [.m2, .m3, .m4, .m5p]

def MarkClass.index : MarkClass → Fin 4
  | .m2 => 0 | .m3 => 1 | .m4 => 2 | .m5p => 3

/-- A run of the channel stream is a mark or a space (R121). -/
inductive RunKind where
  | mark | space
  deriving DecidableEq, Repr

/-- Sub-states of a trial (R100). -/
inductive SubState where
  | writeWait | writing | readWait | measuring
  deriving DecidableEq, Repr

def SubState.code : SubState → Nat
  | .writeWait => 0 | .writing => 1 | .readWait => 2 | .measuring => 3

/-- The abort mark of a trial (R110). -/
inductive AbortMark where
  | inhibit | mode
  deriving DecidableEq, Repr

def AbortMark.code : AbortMark → Nat
  | .inhibit => 0 | .mode => 1

/-- Outcomes of a trial (R108, R195). -/
inductive TrialOutcome where
  | set | weakSignal | notReached | overshot | startNotFound | aborted
  deriving DecidableEq, Repr

def TrialOutcome.code : TrialOutcome → Nat
  | .set => 0 | .weakSignal => 1 | .notReached => 2 | .overshot => 3 | .startNotFound => 4 | .aborted => 5

/-- Reasons of an aborted trial (R108, R195). -/
inductive TrialReason where
  | command | tracking | position | supply | fault | inhibit | mode
  deriving DecidableEq, Repr

def TrialReason.code : TrialReason → Nat
  | .command => 0 | .tracking => 1 | .position => 2 | .supply => 3 | .fault => 4 | .inhibit => 5 | .mode => 6

/-- R110: the reason with which a mark ends a trial. -/
def AbortMark.reason : AbortMark → TrialReason
  | .inhibit => .inhibit
  | .mode => .mode

/-- The link of a segment (R130, R133). -/
inductive SegLink where
  | fresh | append
  deriving DecidableEq, Repr

def SegLink.all : List SegLink := [.fresh, .append]

def SegLink.code : SegLink → Nat
  | .fresh => 0 | .append => 1

/-- States of a segment (R130). -/
inductive SegState where
  | queued | waiting | writing | suspending | suspended | halted
  deriving DecidableEq, Repr

def SegState.code : SegState → Nat
  | .queued => 0 | .waiting => 1 | .writing => 2 | .suspending => 3 | .suspended => 4 | .halted => 5

/-- R145: the head is writing its next block while it is WRITING or SUSPENDING. -/
def SegState.writes : SegState → Bool
  | .writing | .suspending => true
  | .queued | .waiting | .suspended | .halted => false

/-- Why a segment is SUSPENDING, SUSPENDED or HALTED, in the order of R130. -/
inductive SegReason where
  | command | inhibit | mode | startNotFound | position | underrun | noCalibration | noStrategy
  | tracking | supply | fault | aborted
  deriving DecidableEq, Repr

def SegReason.code : SegReason → Nat
  | .command => 0 | .inhibit => 1 | .mode => 2 | .startNotFound => 3 | .position => 4 | .underrun => 5
  | .noCalibration => 6 | .noStrategy => 7 | .tracking => 8 | .supply => 9 | .fault => 10 | .aborted => 11

/-- The gate's states (R129, R135). -/
inductive GateState where
  | idle | waiting | opened
  deriving DecidableEq, Repr

def GateState.code : GateState → Nat
  | .idle => 0 | .waiting => 1 | .opened => 2

/-- Who holds the gate; no user is `none` (R129, R135). -/
inductive GateUser where
  | segment | trial
  deriving DecidableEq, Repr

/-- R129's list 'absent, SEGMENT or TRIAL' (log entry 11). -/
def GateUser.code : Option GateUser → Nat
  | none => 0 | some .segment => 1 | some .trial => 2

/-- The side of a protection map (R158). -/
inductive Side where
  | inner | outer
  deriving DecidableEq, Repr

def Side.all : List Side := [.inner, .outer]

def Side.code : Side → Nat
  | .inner => 0 | .outer => 1

/-- Lock modes of the Protection Unit, weakest first (R158, R163). -/
inductive Lock where
  | opened | line | session | power
  deriving DecidableEq, Repr

def Lock.all : List Lock := [.opened, .line, .session, .power]

/-- The lock mode's byte value, which is also its rank in strength (R163). -/
def Lock.code : Lock → Nat
  | .opened => 0 | .line => 1 | .session => 2 | .power => 3

/-- The level of the record-inhibit line (R158). -/
inductive Inhibit where
  | asserted | released
  deriving DecidableEq, Repr

def Inhibit.code : Inhibit → Nat
  | .asserted => 0 | .released => 1

/-- A window sense: "currently in" or "currently out" (R171). -/
inductive WindowSense where
  | inside | outside
  deriving DecidableEq, Repr

def WindowSense.code : WindowSense → Nat
  | .inside => 0 | .outside => 1

/-- The sense an EVENT_RAISED notice may carry (R173, R181). -/
inductive EventSense where
  | window (s : WindowSense)
  | inhibit (s : Inhibit)
  deriving DecidableEq, Repr

def EventSense.code : EventSense → Nat
  | .window s => s.code
  | .inhibit s => s.code

/-- The eighteen events, in the order of R172. -/
inductive Event where
  | winFmon | winRsum | winRtop | winRbot | winTemp | winVld | winTerr | winAux
  | positionLost | positionJump | currentLimit | apcLimit | rpcLimit | calStale
  | inhibitChanged | linkError | noticeOverflow | faultEntered
  deriving DecidableEq, Repr

def Event.all : List Event :=
  [.winFmon, .winRsum, .winRtop, .winRbot, .winTemp, .winVld, .winTerr, .winAux,
   .positionLost, .positionJump, .currentLimit, .apcLimit, .rpcLimit, .calStale,
   .inhibitChanged, .linkError, .noticeOverflow, .faultEntered]

def Event.code : Event → Nat
  | .winFmon => 0 | .winRsum => 1 | .winRtop => 2 | .winRbot => 3 | .winTemp => 4 | .winVld => 5
  | .winTerr => 6 | .winAux => 7 | .positionLost => 8 | .positionJump => 9 | .currentLimit => 10
  | .apcLimit => 11 | .rpcLimit => 12 | .calStale => 13 | .inhibitChanged => 14 | .linkError => 15
  | .noticeOverflow => 16 | .faultEntered => 17

/-- The window event of a channel (R43, R172). -/
def Channel.event : Channel → Event
  | .fmon => .winFmon | .rsum => .winRsum | .rtop => .winRtop | .rbot => .winRbot
  | .temp => .winTemp | .vld => .winVld | .terr => .winTerr | .aux => .winAux

/-- The channel whose window sense an event reports, for the eight window events (R172). -/
def Event.channel : Event → Option Channel
  | .winFmon => some .fmon | .winRsum => some .rsum | .winRtop => some .rtop | .winRbot => some .rbot
  | .winTemp => some .temp | .winVld => some .vld | .winTerr => some .terr | .winAux => some .aux
  | .positionLost | .positionJump | .currentLimit | .apcLimit | .rpcLimit | .calStale
  | .inhibitChanged | .linkError | .noticeOverflow | .faultEntered => none

/-- Status codes of a reply, in the order of R191. -/
inductive Status where
  | ok | pending | unknownKind | badLength | badValue | wrongMode | busy | full | notArmed | isProtected
  | inhibited | locked | noCalibration | noStrategy | scanRequired | testAreaFull | nothingPending | storeLocked
  deriving DecidableEq, Repr

/-- R191: the byte value of a status is its position in the table, counting from 0. -/
def Status.code : Status → Nat
  | .ok => 0 | .pending => 1 | .unknownKind => 2 | .badLength => 3 | .badValue => 4 | .wrongMode => 5
  | .busy => 6 | .full => 7 | .notArmed => 8 | .isProtected => 9 | .inhibited => 10 | .locked => 11
  | .noCalibration => 12 | .noStrategy => 13 | .scanRequired => 14 | .testAreaFull => 15
  | .nothingPending => 16 | .storeLocked => 17

/-- The three banks of the Characterization Store (R196). -/
inductive BankNo where
  | b0 | b1 | b2
  deriving DecidableEq, Repr

def BankNo.all : List BankNo := [.b0, .b1, .b2]

def BankNo.code : BankNo → Nat
  | .b0 => 0 | .b1 => 1 | .b2 => 2

/-- The outcome BANK_WRITTEN carries (R197). -/
inductive BankOutcome where
  | written | failed | locked
  deriving DecidableEq, Repr

def BankOutcome.code : BankOutcome → Nat
  | .written => 0 | .failed => 1 | .locked => 2

/-- The selector of a read window (R184, R195). -/
inductive ReadSelector where
  | reply | notice
  deriving DecidableEq, Repr

/-- The receive state of the link (R183). HEADER, COMMAND and READING stand only inside a window, and a
window is one step (log entry 3). -/
inductive Receive where
  | idle | header | command
  | reading (selector : ReadSelector)
  | blocked
  deriving DecidableEq, Repr

end Sys2Proof
end

