-- ==== Sys2Proof/Machine/Tables.lean ====
section
/-! DEFINITION. Tables with a fixed set of keys: two surfaces, three banks, four speed or mark classes, eight channels or zones, eighteen events. Each is a structure of named entries with one read and one write. -/

namespace Sys2Proof

/-- One entry for each surface. -/
structure Two (α : Type) where
  t0 : α
  t1 : α
  deriving DecidableEq, Repr

def Two.get {α : Type} (t : Two α) : Surface → α
  | .zero => t.t0
  | .one => t.t1

def Two.put {α : Type} (t : Two α) (i : Surface) (x : α) : Two α :=
  match i with
  | .zero => { t with t0 := x }
  | .one => { t with t1 := x }

def Two.fill {α : Type} (x : α) : Two α := ⟨x, x⟩

/-- One entry for each bank. -/
structure Three (α : Type) where
  t0 : α
  t1 : α
  t2 : α
  deriving DecidableEq, Repr

def Three.get {α : Type} (t : Three α) : BankNo → α
  | .b0 => t.t0
  | .b1 => t.t1
  | .b2 => t.t2

def Three.put {α : Type} (t : Three α) (i : BankNo) (x : α) : Three α :=
  match i with
  | .b0 => { t with t0 := x }
  | .b1 => { t with t1 := x }
  | .b2 => { t with t2 := x }

def Three.fill {α : Type} (x : α) : Three α := ⟨x, x, x⟩

/-- One entry for each of four classes. -/
structure Four (α : Type) where
  t0 : α
  t1 : α
  t2 : α
  t3 : α
  deriving DecidableEq, Repr

def Four.get {α : Type} (t : Four α) : Fin 4 → α
  | 0 => t.t0
  | 1 => t.t1
  | 2 => t.t2
  | 3 => t.t3

def Four.put {α : Type} (t : Four α) (i : Fin 4) (x : α) : Four α :=
  match i with
  | 0 => { t with t0 := x }
  | 1 => { t with t1 := x }
  | 2 => { t with t2 := x }
  | 3 => { t with t3 := x }

def Four.fill {α : Type} (x : α) : Four α := ⟨x, x, x, x⟩

def Four.toList {α : Type} (t : Four α) : List α := [t.t0, t.t1, t.t2, t.t3]

def Four.map {α β : Type} (f : α → β) (t : Four α) : Four β := ⟨f t.t0, f t.t1, f t.t2, f t.t3⟩

/-- One entry for each of eight channels or zones. -/
structure Eight (α : Type) where
  t0 : α
  t1 : α
  t2 : α
  t3 : α
  t4 : α
  t5 : α
  t6 : α
  t7 : α
  deriving DecidableEq, Repr

def Eight.get {α : Type} (t : Eight α) : Fin 8 → α
  | 0 => t.t0
  | 1 => t.t1
  | 2 => t.t2
  | 3 => t.t3
  | 4 => t.t4
  | 5 => t.t5
  | 6 => t.t6
  | 7 => t.t7

def Eight.put {α : Type} (t : Eight α) (i : Fin 8) (x : α) : Eight α :=
  match i with
  | 0 => { t with t0 := x }
  | 1 => { t with t1 := x }
  | 2 => { t with t2 := x }
  | 3 => { t with t3 := x }
  | 4 => { t with t4 := x }
  | 5 => { t with t5 := x }
  | 6 => { t with t6 := x }
  | 7 => { t with t7 := x }

def Eight.fill {α : Type} (x : α) : Eight α := ⟨x, x, x, x, x, x, x, x⟩

def Eight.toList {α : Type} (t : Eight α) : List α := [t.t0, t.t1, t.t2, t.t3, t.t4, t.t5, t.t6, t.t7]

def Eight.map {α β : Type} (f : α → β) (t : Eight α) : Eight β :=
  ⟨f t.t0, f t.t1, f t.t2, f t.t3, f t.t4, f t.t5, f t.t6, f t.t7⟩

/-- One entry for each of the eighteen events. -/
structure PerEvent (α : Type) where
  winFmon : α
  winRsum : α
  winRtop : α
  winRbot : α
  winTemp : α
  winVld : α
  winTerr : α
  winAux : α
  positionLost : α
  positionJump : α
  currentLimit : α
  apcLimit : α
  rpcLimit : α
  calStale : α
  inhibitChanged : α
  linkError : α
  noticeOverflow : α
  faultEntered : α
  deriving DecidableEq, Repr

def PerEvent.get {α : Type} (t : PerEvent α) : Event → α
  | .winFmon => t.winFmon
  | .winRsum => t.winRsum
  | .winRtop => t.winRtop
  | .winRbot => t.winRbot
  | .winTemp => t.winTemp
  | .winVld => t.winVld
  | .winTerr => t.winTerr
  | .winAux => t.winAux
  | .positionLost => t.positionLost
  | .positionJump => t.positionJump
  | .currentLimit => t.currentLimit
  | .apcLimit => t.apcLimit
  | .rpcLimit => t.rpcLimit
  | .calStale => t.calStale
  | .inhibitChanged => t.inhibitChanged
  | .linkError => t.linkError
  | .noticeOverflow => t.noticeOverflow
  | .faultEntered => t.faultEntered

def PerEvent.put {α : Type} (t : PerEvent α) (e : Event) (x : α) : PerEvent α :=
  match e with
  | .winFmon => { t with winFmon := x }
  | .winRsum => { t with winRsum := x }
  | .winRtop => { t with winRtop := x }
  | .winRbot => { t with winRbot := x }
  | .winTemp => { t with winTemp := x }
  | .winVld => { t with winVld := x }
  | .winTerr => { t with winTerr := x }
  | .winAux => { t with winAux := x }
  | .positionLost => { t with positionLost := x }
  | .positionJump => { t with positionJump := x }
  | .currentLimit => { t with currentLimit := x }
  | .apcLimit => { t with apcLimit := x }
  | .rpcLimit => { t with rpcLimit := x }
  | .calStale => { t with calStale := x }
  | .inhibitChanged => { t with inhibitChanged := x }
  | .linkError => { t with linkError := x }
  | .noticeOverflow => { t with noticeOverflow := x }
  | .faultEntered => { t with faultEntered := x }

def PerEvent.fill {α : Type} (x : α) : PerEvent α :=
  ⟨x, x, x, x, x, x, x, x, x, x, x, x, x, x, x, x, x, x⟩

/-- The entries in the order of R172, in which GET_EVENTS reports them. -/
def PerEvent.toList {α : Type} (t : PerEvent α) : List α := Event.all.map t.get

end Sys2Proof
end

