-- ==== Sys2Proof/Machine/Records.lean ====
section
/-! DEFINITION. The records the blocks hold and exchange: characterizations, calibration records, trial contexts, strategy entries and trains, segments, notices and replies. Plain data, with the spec's own field names. -/

namespace Sys2Proof

/-- A characterization record of a bank: the eight fields of chapter 12 (R196). -/
structure CharRecord where
  ith0 : Nat
  eta0 : Nat
  t0 : Int
  kI : Nat
  kEta : Nat
  imax : Nat
  fmonGain : Nat
  maxRead : Nat
  deriving DecidableEq, Repr

/-- The levels of the input lines at the end of a reset (R168, R183; log entry 2). -/
structure ResetLines where
  inhibit : Inhibit
  encoderReady : Bool
  selectLow : Bool
  deriving DecidableEq, Repr

/-- A run of the channel stream or of the trial pattern, `length` channel-bit times long (R121, R127). -/
structure Run where
  kind : RunKind
  length : Nat
  deriving DecidableEq, Repr

namespace Machine

/-- A bank of the Characterization Store (R196). -/
structure Bank where
  record : CharRecord
  valid : Bool
  locked : Bool
  deriving DecidableEq, Repr

/-- The active bank with the copy CS keeps of its record: the active characterization (R196). -/
structure ActiveBank where
  bank : BankNo
  record : CharRecord
  deriving DecidableEq, Repr

/-- The store state (R196). A write in progress holds the record that is being written (R197). -/
inductive StoreState where
  | idle
  | writing (bank : BankNo) (record : CharRecord)
  | locking (bank : BankNo)
  deriving DecidableEq, Repr

/-- An offset of a channel (R34, R40). -/
structure Offset where
  sign : Sign
  magnitude : Nat
  deriving DecidableEq, Repr

/-- A window of a channel (R34, R42). -/
structure Window where
  low : Nat
  high : Nat
  enabled : Bool
  deriving DecidableEq, Repr

/-- A write power set (R61). -/
structure PowerSet where
  peak : Nat
  bias : Nat
  cool : Nat
  deriving DecidableEq, Repr

/-- What LDU holds of one level: power P, current I, output code and limited flag (R51). -/
structure LevelState where
  power : Nat
  current : Nat
  code : Nat
  limited : Bool
  deriving DecidableEq, Repr

/-- The four levels (R51). -/
structure Levels where
  read : LevelState
  peak : LevelState
  bias : LevelState
  cool : LevelState
  deriving DecidableEq, Repr

/-- The disc record (R74, R75); `dual` says that the disc has two surfaces. -/
structure Disc where
  media : Media
  dual : Bool
  blocks : Nat
  deriving DecidableEq, Repr

/-- The fields of a calibration record that is not EMPTY (R79). -/
structure CalFields where
  peak : Nat
  bias : Nat
  cool : Nat
  target : Int
  calTemp : Int
  source : CalSource
  deriving DecidableEq, Repr

/-- A calibration record (R79): an EMPTY record holds no meaningful field apart from its state, so it has none. -/
structure CalRecord where
  state : CalState
  fields : Option CalFields
  deriving DecidableEq, Repr

/-- The key of a calibration record (R79). -/
structure CalKey where
  surface : Surface
  speed : Speed
  zone : Fin 8
  deriving DecidableEq, Repr

/-- A test area (R93). -/
structure TestArea where
  first : Nat
  length : Nat
  next : Nat
  deriving DecidableEq, Repr

/-- The result of a step of a trial (R99, R105). -/
inductive StepResult where
  | unmeasured
  | invalid
  | beta (value : Int)
  deriving DecidableEq, Repr

/-- A sum of corrected values and their number. -/
structure Tally where
  sum : Nat
  count : Nat
  deriving DecidableEq, Repr

/-- What the trial context gathers for one step (R99, R104). -/
structure TrialStep where
  rtop : Tally
  rbot : Tally
  rsum : Tally
  result : StepResult
  deriving DecidableEq, Repr

/-- The trial context (R99). `steps` holds one entry for each step, in the order of the steps. The abort mark of R110
is kept as its two causes, so that an exit that is withdrawn leaves the mark as if MODE had never been set (log entry
10). -/
structure Trial where
  key : CalKey
  start : Nat
  step : Nat
  target : Int
  bias : Nat
  cool : Nat
  first : Nat
  saved : CalRecord
  sub : SubState
  index : Nat
  wait : Nat
  steps : List TrialStep
  inhibitMark : Bool
  modeMark : Bool
  deriving DecidableEq, Repr

/-- R110: the abort mark: MODE stands in place of INHIBIT while both are set. -/
def Trial.mark (t : Trial) : Option AbortMark :=
  if t.modeMark then some .mode else if t.inhibitMark then some .inhibit else none

/-- A LOADED strategy entry, in sixteenths of T (R114, R117). -/
structure StrategyEntry where
  leadDelay : Int
  leadWidth : Int
  midWidth : Int
  tailWidth : Int
  coolWidth : Int
  deriving DecidableEq, Repr

/-- A train in progress (R114): class, layout length, the instant its window begins, the instant the train
itself began, and the entry it began with (R128). -/
structure Train where
  cls : MarkClass
  length : Nat
  window : Nat
  start : Nat
  entry : StrategyEntry
  deriving DecidableEq, Repr

/-- A run in its place on the disc: it begins at instant `start` (R121). -/
structure PlacedRun where
  kind : RunKind
  length : Nat
  start : Nat
  deriving DecidableEq, Repr

/-- A segment record (R130). `start` and `count` give the end; the next block is start + blocks done. -/
structure Segment where
  tag : Nat
  surface : Surface
  link : SegLink
  start : Nat
  count : Nat
  done : Nat
  state : SegState
  reason : Option SegReason
  damaged : Option Nat
  largest : Nat
  limitMark : Bool
  deriving DecidableEq, Repr

/-- R130: end = start + count - 1. -/
def Segment.last (g : Segment) : Nat := g.start + g.count - 1

/-- R130: next block is start + blocks done at every moment. -/
def Segment.next (g : Segment) : Nat := g.start + g.done

/-- R130: the remaining count is count - blocks done. -/
def Segment.remaining (g : Segment) : Nat := g.count - g.done

/-- A protection map (R158). -/
structure ProtMap where
  code : Nat
  side : Side
  complement : Bool
  deriving DecidableEq, Repr

/-- R158: a cleared map. -/
def ProtMap.cleared : ProtMap := { code := 0, side := .inner, complement := false }

/-- A protected range (R159): absent where none is computed, empty, or a run of blocks. -/
inductive ProtRange where
  | absent
  | empty
  | run (first last : Nat)
  deriving DecidableEq, Repr

/-- The fields of CAL_DONE (R108). -/
structure CalDone where
  key : CalKey
  outcome : TrialOutcome
  reason : Option TrialReason
  fitted : Option Nat
  target : Int
  bias : Nat
  cool : Nat
  first : Nat
  written : Nat
  steps : List (Nat × StepResult)
  deriving DecidableEq, Repr

/-- The nine kinds of notice with their fields (R181). -/
inductive Notice where
  | modeChanged (source target : Mode)
  | segmentDone (tag done last correction largest : Nat)
  | segmentSuspended (tag next remaining : Nat) (reason : SegReason)
  | segmentHalted (tag : Nat) (reason : SegReason) (done : Nat) (damaged : Option Nat)
  | segmentRefused (tag : Nat)
  | queueFlushed (count : Nat)
  | calDone (fields : CalDone)
  | eventRaised (event : Event) (sense : Option EventSense)
  | bankWritten (bank : BankNo) (outcome : BankOutcome)
  deriving DecidableEq, Repr

/-- Who generated a notice within a step. Notices of one poster keep their order; notices of different posters join
in either order unless the one handling follows the other (R173, R177; log entry 5). Each event is a poster of its own, and the
notices of one SET_MASK, which R174 puts in the order of the entries, are one poster. -/
inductive Poster where
  | mc | wgc | tcu | cs
  | event (e : Event)
  | setMask
  deriving DecidableEq, Repr

/-- A notice generated in the step being run: its poster, and the posters whose handlings had been taken when it was
generated, so that it joins the queue after theirs (R177). -/
structure Posted where
  poster : Poster
  after : List Poster
  notice : Notice
  deriving DecidableEq, Repr

/-- The report of a lost position (R28): of a loss, the surface and the current address that PT held; of a jump, the
held surface and predicted address, and the surface and address of the arrival that caused it. -/
inductive PositionReport where
  | loss (surface : Surface) (current : Nat)
  | jump (held : Surface) (predicted : Nat) (surface : Surface) (address : Nat)
  deriving DecidableEq, Repr

/-- A reply record (R187, R191): kind echo, status, clamped flag and body. The discard count belongs to the slot. -/
structure Reply where
  kind : Byte
  status : Status
  clamped : Bool
  body : Body
  deriving DecidableEq, Repr

/-- The reply slot (R183). AWAITING stands only while the owner forms its reply, inside one step (log entry 3). -/
inductive Slot where
  | empty
  | awaiting
  | full (reply : Reply)
  deriving DecidableEq, Repr

end Machine

end Sys2Proof
end

