-- ==== Sys2Proof/Syntax.lean ====
section
/-! DEFINITION. The commands: one constructor for each row of spec/opcode_table.json, with the row's operands. The operand of a command frame is its body as received; Machine/Operands.lean reads its fields (R188). -/

namespace Sys2Proof

/-- One command or event of the part. The comment on a constructor cites the rule of its row. -/
inductive Instr where
  /-- R4: target, then optionally start, surface and interval. -/
  | requestMode (body : Body)
  /-- R16: segment depth. -/
  | setPool (body : Body)
  /-- R36: a list of channels. -/
  | setScan (body : Body)
  /-- R37: no fields. -/
  | startScan (body : Body)
  /-- R39: no fields. -/
  | stopScan (body : Body)
  /-- R40: channel, sign, magnitude. -/
  | setOffset (body : Body)
  /-- R42: channel, low, high, enable. -/
  | setWindow (body : Body)
  /-- R46: no fields. -/
  | getSamples (body : Body)
  /-- R70: surface, power. -/
  | setReadPower (body : Body)
  /-- R67: enable. -/
  | setApc (body : Body)
  /-- R71: no fields. -/
  | getLaser (body : Body)
  /-- R75: media, surfaces, blocks. -/
  | setDisc (body : Body)
  /-- R77: surface, eight starts. -/
  | setZones (body : Body)
  /-- R78: no fields. -/
  | discUnload (body : Body)
  /-- R80: surface, speed class, zone, peak, bias, cool, asym_target. -/
  | putCal (body : Body)
  /-- R81: surface, speed class, zone. -/
  | invalidateCal (body : Body)
  /-- R82: surface, speed class, optionally zone. -/
  | getCal (body : Body)
  /-- R90: span. -/
  | setStaleSpan (body : Body)
  /-- R94: surface, first, length. -/
  | setTestArea (body : Body)
  /-- R97: surface, zone, steps, start, step, optionally target, bias, cool. -/
  | calibrate (body : Body)
  /-- R111: no fields. -/
  | abortCal (body : Body)
  /-- R96: no fields. -/
  | getTrial (body : Body)
  /-- R115: speed class. -/
  | setSpeed (body : Body)
  /-- R117: speed class, mark class, five signed fields. -/
  | putStrategy (body : Body)
  /-- R119: optionally a speed class. -/
  | getStrategy (body : Body)
  /-- R131: no fields. -/
  | arm (body : Body)
  /-- R131: no fields. -/
  | disarm (body : Body)
  /-- R134: tag, surface, link, count, optionally start. -/
  | segment (body : Body)
  /-- R143: no fields. -/
  | pause (body : Body)
  /-- R147: no fields. -/
  | resume (body : Body)
  /-- R149: no fields. -/
  | abortSegment (body : Body)
  /-- R152: enable, deadband, step. -/
  | setRpc (body : Body)
  /-- R157: a number of boundaries. -/
  | setWaitLimit (body : Body)
  /-- R157: no fields. -/
  | getQueue (body : Body)
  /-- R161: surface, size code, side, complement. -/
  | setProtect (body : Body)
  /-- R163: lock mode. -/
  | setLock (body : Body)
  /-- R169: no fields. -/
  | getProtect (body : Body)
  /-- R174: a list of events with settings. -/
  | setMask (body : Body)
  /-- R175: a list of events. -/
  | clearEvents (body : Body)
  /-- R176: no fields. -/
  | getEvents (body : Body)
  /-- R192: no fields. -/
  | getStatus (body : Body)
  /-- R193: no fields. -/
  | resetEnable (body : Body)
  /-- R193: no fields. -/
  | resetDevice (body : Body)
  /-- R197: bank, eight fields. -/
  | writeBank (body : Body)
  /-- R198: bank. -/
  | lockBank (body : Body)
  /-- R199: bank. -/
  | selectBank (body : Body)
  /-- R200: no fields. -/
  | getIdent (body : Body)
  /-- R187: a frame whose kind byte names no command. -/
  | unknownKindFrame (kind : Byte) (body : Body)
  /-- R185: a window of complete bytes and `extra` clock edges beyond them. -/
  | badlyFramedFrame (bytes : List Byte) (extra : Fin 8)
  /-- R186: a well-formed frame that finds the reply slot FULL or AWAITING. -/
  | discardedFrame (kind : Byte) (body : Body)
  /-- R189: a REPLY window with this many clock edges after the selector byte. -/
  | replyWindow (edges : Nat)
  /-- R190: a NOTICE window with this many clock edges after the selector byte. -/
  | noticeWindow (edges : Nat)
  /-- R184: select rises on a window left open across a reset. -/
  | blockedWindowEnd
  /-- R17: power-on reset, with the line levels at its end. -/
  | powerOnReset (lines : ResetLines)
  /-- R17: the reset line, with the line levels at its end. -/
  | resetLine (lines : ResetLines)
  /-- R20, R21: a position record on the port. -/
  | positionRecord (valid : Bool) (surface : Surface) (address : Nat)
  /-- R31: the self-test generator's interval expires. -/
  | generatedArrival
  /-- R41: the conversion in flight completes with this raw count. -/
  | conversionComplete (raw : RawCount)
  /-- R166: the record-inhibit line changes to this level. -/
  | inhibitLineChange (level : Inhibit)
  /-- R125: the encoder-ready line changes to this level (true is high). -/
  | encoderReadyChange (ready : Bool)
  /-- R121: WSG takes a run of the channel stream. -/
  | channelRun (run : Run)
  /-- R197: the bank write completes, with the record that reads back. -/
  | storeWriteComplete (readBack : CharRecord)
  /-- R198: the bank lock completes; whether the lock mark reads back set. -/
  | storeLockComplete (markSet : Bool)
  /-- R127: WSG lays out the next run of the trial pattern. -/
  | trialPatternRun
  deriving DecidableEq, Repr

end Sys2Proof
end

