-- ==== Sys2Proof/Decode.lean ====
section
/-! DEFINITION. The commands that words of bits spell. spec/opcode_table.json gives none of its rows any bits: a command frame is a sequence of bytes of any length up to 64 (R195), read in Machine/LinkCommands.lean, and an event is no word at all. -/

namespace Sys2Proof

/-- The command that a word spells by the table's bits: no row has bits, so no word spells one. -/
def decodeTableWord (_nbits _w : Nat) : Option Instr := none

end Sys2Proof
end

