-- ==== Sys2Proof/Machine/Arith.lean ====
section
/-! DEFINITION. The manual's arithmetic: rounding with halves away from zero, and clamping (R1). -/

namespace Sys2Proof

/-- R1: the exact quotient a / b rounded to the nearest integer, halves away from zero, for b above 0. -/
def divRound (a b : Int) : Int :=
  if 0 ≤ a then (2 * a + b) / (2 * b) else -((2 * (-a) + b) / (2 * b))

/-- R1 for quantities that are never negative. -/
def divRoundNat (a b : Nat) : Nat := (2 * a + b) / (2 * b)

/-- R1: a value below the range becomes its lowest value, one above it the highest. -/
def clampInt (lo hi x : Int) : Int := max lo (min hi x)

/-- R1's clamp for quantities that are never negative. -/
def clampNat (lo hi x : Nat) : Nat := max lo (min hi x)

/-- A range test of the checks of a command's fields, both ends included. -/
def inRange (lo hi x : Nat) : Bool := decide (lo ≤ x) && decide (x ≤ hi)

/-- The same for a signed field. -/
def inRangeInt (lo hi x : Int) : Bool := decide (lo ≤ x) && decide (x ≤ hi)

end Sys2Proof
end

