-- ==== Sys2Proof/Machine/Blocks.lean ====
section
/-! DEFINITION. The state of each of the twelve blocks and of the lines, with the values the spec gives each after a reset. -/

namespace Sys2Proof.Machine

/-- Mode Controller (R2). The notice depth is 40 minus the segment depth and is not stored. -/
structure Mc where
  mode : Mode
  request : Option Mode
  segDepth : Nat
  deriving DecidableEq, Repr

/-- R2: after every reset. -/
def Mc.afterReset : Mc := { mode := .configure, request := none, segDepth := 12 }

/-- R2, R15: the notice depth is 40 minus the segment depth. -/
def Mc.noticeDepth (m : Mc) : Nat := 40 - m.segDepth

/-- Position Tracker (R19). -/
structure Pt where
  state : TrackerState
  surface : Surface
  current : Nat
  predicted : Nat
  coast : Nat
  candSurface : Surface
  candAddress : Nat
  genRunning : Bool
  genSurface : Surface
  genNext : Nat
  genInterval : Nat
  deriving DecidableEq, Repr

/-- R19: after every reset. -/
def Pt.afterReset : Pt :=
  { state := .lost, surface := .zero, current := 0, predicted := 0, coast := 0, candSurface := .zero,
    candAddress := 0, genRunning := false, genSurface := .zero, genNext := 0, genInterval := 1000 }

/-- Monitor Converter (R34). `measured` is T as the last TEMP completion since the reset left it (R45). -/
structure Mon where
  scanList : List Channel
  scanState : ScanState
  position : Nat
  offsets : Eight Offset
  windows : Eight Window
  latest : Eight Nat
  counts : Eight Nat
  measured : Option Int
  deriving DecidableEq, Repr

/-- R34: after every reset. -/
def Mon.afterReset : Mon :=
  { scanList := [], scanState := .stopped, position := 0,
    offsets := Eight.fill { sign := .plus, magnitude := 0 },
    windows := Eight.fill { low := 0, high := 4095, enabled := false },
    latest := Eight.fill 0, counts := Eight.fill 0, measured := none }

/-- R39: the channel of the conversion in flight, or none in STOPPED. -/
def Mon.inFlight (m : Mon) : Option Channel :=
  if m.scanState = .stopped then none else m.scanList[m.position]?

/-- R131, R97: the scan is RUNNING (R36: not in STOPPING) and its list holds the channels. -/
def Mon.serves (m : Mon) (needed : List Channel) : Bool :=
  decide (m.scanState = .running) && needed.all (fun c => m.scanList.contains c)

/-- Laser Drive Unit (R51). -/
structure Ldu where
  readPower : Two Nat
  apcOn : Bool
  ioff : Int
  clampMark : Bool
  writeSet : Option PowerSet
  levels : Levels
  driven : Level
  deriving DecidableEq, Repr

/-- A level whose current is 0, with its power as it stands (R53, R56). -/
def LevelState.dark (power : Nat) : LevelState := { power := power, current := 0, code := 0, limited := false }

/-- R51: after every reset, before a bank is taken into use. -/
def Ldu.afterReset : Ldu :=
  { readPower := Two.fill 500, apcOn := true, ioff := 0, clampMark := false, writeSet := none,
    levels := { read := LevelState.dark 500, peak := LevelState.dark 0, bias := LevelState.dark 0,
                cool := LevelState.dark 0 },
    driven := .read }

/-- Calibration Table (R74). -/
structure Ct where
  disc : Option Disc
  zones : Two (Option (Eight Nat))
  records : Two (Four (Eight CalRecord))
  staleSpan : Nat
  deriving DecidableEq, Repr

/-- R79: an EMPTY record. -/
def CalRecord.blank : CalRecord := { state := .empty, fields := none }

/-- R74: the 32 records of a surface, all EMPTY. -/
def Ct.blankRecords : Four (Eight CalRecord) := Four.fill (Eight.fill CalRecord.blank)

/-- R74: after every reset. -/
def Ct.afterReset : Ct :=
  { disc := none, zones := Two.fill none, records := Two.fill Ct.blankRecords, staleSpan := 150 }

/-- Trial Calibration Unit (R93). -/
structure Tcu where
  areas : Two (Option TestArea)
  trial : Option Trial
  deriving DecidableEq, Repr

/-- R93: after every reset. -/
def Tcu.afterReset : Tcu := { areas := Two.fill none, trial := none }

/-- Write Strategy Generator (R114). `now` counts sixteenths of T since the gate opened; `run` is the run on
the disc and `ahead` the run received one run ahead of its place (R121; log entry 8). -/
structure Wsg where
  speed : Speed
  entries : Four (Four (Option StrategyEntry))
  train : Option Train
  pattern : Option Nat
  now : Nat
  run : Option PlacedRun
  ahead : Option Run
  deriving DecidableEq, Repr

/-- R114, R120: all sixteen entries EMPTY. -/
def Wsg.blankEntries : Four (Four (Option StrategyEntry)) := Four.fill (Four.fill none)

/-- R114: after every reset. -/
def Wsg.afterReset : Wsg :=
  { speed := .s1, entries := Wsg.blankEntries, train := none, pattern := none, now := 0, run := none, ahead := none }

/-- Write Gate Controller (R129). -/
structure Wgc where
  queue : List Segment
  gate : GateState
  user : Option GateUser
  arm : Bool
  exitMark : Bool
  append : Option (Surface × Nat)
  correction : Nat
  wRef : Option Nat
  returns : Tally
  wait : Nat
  rpcOn : Bool
  deadband : Nat
  rpcStep : Nat
  waitLimit : Nat
  deriving DecidableEq, Repr

/-- R129: after every reset. -/
def Wgc.afterReset : Wgc :=
  { queue := [], gate := .idle, user := none, arm := false, exitMark := false, append := none,
    correction := 1000, wRef := none, returns := { sum := 0, count := 0 }, wait := 0,
    rpcOn := true, deadband := 20, rpcStep := 5, waitLimit := 4096 }

/-- Protection Unit (R158). -/
structure Pu where
  maps : Two ProtMap
  lock : Lock
  sense : Inhibit
  deriving DecidableEq, Repr

/-- R168: after a power-on reset or the reset line, with the line at this level. -/
def Pu.afterReset (line : Inhibit) : Pu := { maps := Two.fill ProtMap.cleared, lock := .opened, sense := line }

/-- Event Unit (R171). A mask that is true is UNMASKED. `outbox` holds the notices generated in the step being
run, until they join the queue at its end; it is empty between steps (log entry 5). -/
structure Eu where
  latches : PerEvent Bool
  unmasked : PerEvent Bool
  senses : Eight WindowSense
  inhibitSense : Inhibit
  notices : List Notice
  dropped : Nat
  outbox : List Posted
  deriving DecidableEq, Repr

/-- R171: after every reset, with the line at this level. -/
def Eu.afterReset (line : Inhibit) : Eu :=
  { latches := PerEvent.fill false, unmasked := PerEvent.fill false, senses := Eight.fill .inside,
    inhibitSense := line, notices := [], dropped := 0, outbox := [] }

/-- Command Link (R183). `dataOut` is what data out carried in the last window (R184, R189, R190). -/
structure Cl where
  slot : Slot
  discard : Nat
  resetEnable : Bool
  receive : Receive
  dataOut : List Byte
  deriving DecidableEq, Repr

/-- R183: after every reset; BLOCKED while select is low at its end. -/
def Cl.afterReset (selectLow : Bool) : Cl :=
  { slot := .empty, discard := 0, resetEnable := false, receive := if selectLow then .blocked else .idle,
    dataOut := [] }

/-- Characterization Store (R196). -/
structure Cs where
  banks : Three Bank
  active : Option ActiveBank
  store : StoreState
  deriving DecidableEq, Repr

/-- R196: a bank that has never been written is not valid and not locked; its fields are named by log entry 1. -/
def Bank.neverWritten : Bank :=
  { record := { ith0 := 0, eta0 := 0, t0 := 0, kI := 0, kEta := 0, imax := 0, fmonGain := 0, maxRead := 0 },
    valid := false, locked := false }

/-- The input lines whose level the part reads again after it last changed: record inhibit and encoder ready. -/
structure Lines where
  inhibit : Inhibit
  encoderReady : Bool
  deriving DecidableEq, Repr

end Sys2Proof.Machine
end

