-- ==== Sys2Proof/Machine/State.lean ====
section
/-! DEFINITION. The machine's state: the twelve blocks, the lines, the count of free values drawn and the queue of commands; the reasons a step can stop; the state after reset. -/

namespace Sys2Proof.Machine

/-- Nothing in the spec stops the part with a fault: every command and event has an effect, a refusal status or no
effect in every state (FAULT is a mode, R12). The type is closed and empty, so no step can end in one. -/
inductive Fault where
  deriving DecidableEq, Repr

/-- The reasons for which the model gives a command no meaning. -/
inductive Refusal where
  /-- Raised by Machine/Dispatch.lean alone, for a command without a meaning. Safe: the model stops where the part goes on. -/
  | notModelled (mnemonic : String)
  deriving DecidableEq, Repr

/-- The state of the part, block by block in the order of the block diagram (00_scope.md), with the queue of
commands that wait, first in, first out. -/
structure State where
  mc : Mc
  pt : Pt
  mon : Mon
  ldu : Ldu
  ct : Ct
  tcu : Tcu
  wsg : Wsg
  wgc : Wgc
  pu : Pu
  eu : Eu
  cl : Cl
  cs : Cs
  lines : Lines
  free : Nat
  pending : List Instr
  deriving DecidableEq, Repr

/-- The part right after a power-on reset, every bank never written (R196), the line levels those of log entry 2. -/
def State.reset : State :=
  { mc := Mc.afterReset
    pt := Pt.afterReset
    mon := Mon.afterReset
    ldu := Ldu.afterReset
    ct := Ct.afterReset
    tcu := Tcu.afterReset
    wsg := Wsg.afterReset
    wgc := Wgc.afterReset
    pu := Pu.afterReset .released
    eu := Eu.afterReset .released
    cl := Cl.afterReset false
    cs := { banks := Three.fill Bank.neverWritten, active := none, store := .idle }
    lines := { inhibit := .released, encoderReady := false }
    free := 0
    pending := [] }

end Sys2Proof.Machine
end

