-- ==== Sys2Proof/Machine/Ops.lean ====
section
/-! DEFINITION. The named operations over the state: one write for each block, the reads that several blocks make (temperature, disc, active bank, records), and the drawing of a free value. -/

namespace Sys2Proof.Machine

def State.setMc (s : State) (x : Mc) : State := { s with mc := x }
def State.setPt (s : State) (x : Pt) : State := { s with pt := x }
def State.setMon (s : State) (x : Mon) : State := { s with mon := x }
def State.setLdu (s : State) (x : Ldu) : State := { s with ldu := x }
def State.setCt (s : State) (x : Ct) : State := { s with ct := x }
def State.setTcu (s : State) (x : Tcu) : State := { s with tcu := x }
def State.setWsg (s : State) (x : Wsg) : State := { s with wsg := x }
def State.setWgc (s : State) (x : Wgc) : State := { s with wgc := x }
def State.setPu (s : State) (x : Pu) : State := { s with pu := x }
def State.setEu (s : State) (x : Eu) : State := { s with eu := x }
def State.setCl (s : State) (x : Cl) : State := { s with cl := x }
def State.setCs (s : State) (x : Cs) : State := { s with cs := x }
def State.setLines (s : State) (x : Lines) : State := { s with lines := x }
def State.setFree (s : State) (x : Nat) : State := { s with free := x }
def State.setPending (s : State) (x : List Instr) : State := { s with pending := x }

/-- The active characterization, absent while no bank is active (R56, R196). -/
def Cs.characterization (c : Cs) : Option CharRecord := c.active.map ActiveBank.record

/-- R5: a valid active bank exists. -/
def Cs.activeValid (c : Cs) : Bool :=
  match c.active with
  | none => false
  | some a => (c.banks.get a.bank).valid

/-- R45: T is the value of the last TEMP completion; before the first one after a reset it is T0 of the active
bank, and 250 while no bank is active. -/
def State.temperature (s : State) : Int :=
  match s.mon.measured with
  | some t => t
  | none => match s.cs.characterization with
    | some r => r.t0
    | none => 250

/-- The surface_blocks of the set disc, 0 while no disc is set (R74). -/
def Ct.blocks (c : Ct) : Nat :=
  match c.disc with
  | none => 0
  | some d => d.blocks

/-- R20, R80: whether the surface is one the set disc has. -/
def Ct.hasSurface (c : Ct) (f : Surface) : Bool :=
  match c.disc with
  | none => false
  | some d => match f with
    | .zero => true
    | .one => d.dual

/-- A calibration record by its key (R79). -/
def Ct.record (c : Ct) (k : CalKey) : CalRecord := ((c.records.get k.surface).get k.speed.index).get k.zone

/-- Replaces one calibration record (R79). -/
def Ct.putRecord (c : Ct) (k : CalKey) (r : CalRecord) : Ct :=
  let bySpeed := c.records.get k.surface
  { c with records := c.records.put k.surface (bySpeed.put k.speed.index ((bySpeed.get k.speed.index).put k.zone r)) }

/-- R79: a record is usable when its state is VALID or STALE; its fields are then those it holds. -/
def CalRecord.usable (r : CalRecord) : Option CalFields :=
  match r.state with
  | .valid | .stale => r.fields
  | .empty | .trial => none

/-- R19: the successor of an address on a surface of this many blocks. -/
def successor (blocks a : Nat) : Nat := if a < blocks - 1 then a + 1 else 0

/-- R118: the strategy set of a speed class is complete when all four of its entries are LOADED. -/
def Wsg.complete (w : Wsg) (v : Speed) : Bool := (w.entries.get v.index).toList.all Option.isSome

/-- The head of the segment queue. -/
def Wgc.head (w : Wgc) : Option Segment := w.queue.head?

/-- Changes the head of the segment queue and no other segment. -/
def Wgc.mapHead (w : Wgc) (f : Segment → Segment) : Wgc :=
  match w.queue with
  | [] => w
  | g :: rest => { w with queue := f g :: rest }

/-- R145: whether the head is WRITING or SUSPENDING. -/
def Wgc.headWrites (w : Wgc) : Bool :=
  match w.queue with
  | [] => false
  | g :: _ => g.state.writes

/-- R8: no segment is WRITING or SUSPENDING and no trial calibration is in flight. -/
def State.stopped (s : State) : Bool :=
  s.wgc.queue.all (fun g => !g.state.writes) && s.tcu.trial.isNone

/-- Draws the next free value (log entry 4). -/
def State.draw (s : State) : Nat × State := (Config.freeNat s.free, s.setFree (s.free + 1))

end Sys2Proof.Machine
end

