-- ==== Sys2Proof/Machine/Flags.lean ====
section
/-! DEFINITION. The Event Unit's shared operations: triggers, latches and senses, the generation of notices, their joining of the queue at the end of a step, drops, and the attention line (R172 to R180). -/

namespace Sys2Proof.Machine

/-- R173: the sense an EVENT_RAISED of this event carries. -/
def Eu.senseOf (u : Eu) (e : Event) : Option EventSense :=
  match e.channel with
  | some c => some (.window (u.senses.get c.index))
  | none => if e = .inhibitChanged then some (.inhibit u.inhibitSense) else none

/-- A notice is generated in the step being run (R177). -/
def Eu.post (u : Eu) (p : Poster) (n : Notice) : Eu := { u with outbox := u.outbox ++ [{ poster := p, after := [], notice := n }] }

/-- R173: a trigger sets a clear latch and, if the event is UNMASKED, generates one EVENT_RAISED. -/
def Eu.trigger (u : Eu) (e : Event) : Eu :=
  if u.latches.get e then u
  else
    let v := { u with latches := u.latches.put e true }
    if u.unmasked.get e then v.post (.event e) (.eventRaised e (v.senseOf e)) else v

/-- R172: EU takes a window judgement of a channel; a move from IN to OUT triggers the channel's event. -/
def Eu.judged (u : Eu) (c : Channel) (j : Judgement) : Eu :=
  let was := u.senses.get c.index
  let now : WindowSense := if j.out then .outside else .inside
  let v := { u with senses := u.senses.put c.index now }
  if was = .inside ∧ now = .outside then v.trigger c.event else v

/-- R178: the dropped count rises by one and stays at 255 once there. -/
def Eu.countDrop (u : Eu) : Eu := { u with dropped := min 255 (u.dropped + 1) }

/-- R178: a notice is dropped; NOTICE_OVERFLOW is triggered, and its own EVENT_RAISED meets the same full queue. -/
def Eu.drop (u : Eu) : Eu :=
  let v := u.countDrop
  if v.latches.get .noticeOverflow then v
  else
    let w := { v with latches := v.latches.put .noticeOverflow true }
    if v.unmasked.get .noticeOverflow then w.countDrop else w

/-- R177, R178: a notice joins the tail of the queue if there is room, and is dropped if not. -/
def Eu.join (u : Eu) (depth : Nat) (n : Notice) : Eu :=
  if u.notices.length < depth then { u with notices := u.notices ++ [n] } else u.drop

/-- R177: a notice joins after those that its own poster generated before it, and after those whose handlings its
own follows. -/
def Posted.waitsFor (x y : Posted) : Bool := decide (y.poster = x.poster) || x.after.contains y.poster

/-- The places of the notices that none before them holds back, `before` being those ahead of the list. -/
def readyPlaces (before : List Posted) : List Posted → List Nat
  | [] => []
  | x :: rest =>
    let later := readyPlaces (before ++ [x]) rest
    if before.any x.waitsFor then later else before.length :: later

/-- The notice at a place of the outbox joins the queue. -/
def Eu.release (u : Eu) (depth i : Nat) : Eu :=
  match u.outbox[i]? with
  | none => u
  | some x => ({ u with outbox := u.outbox.eraseIdx i }).join depth x.notice

/-- The generated notices join the queue, one at a time: a free value decides which comes next wherever more than one
is held back by none (R177; log entry 5). -/
def Eu.drain : Nat → Nat → Eu → Nat → Eu × Nat
  | 0, _, u, free => (u, free)
  | k + 1, depth, u, free =>
    match readyPlaces [] u.outbox with
    | [] => (u, free)
    | [i] => Eu.drain k depth (u.release depth i) free
    | i :: j :: rest =>
      let all := i :: j :: rest
      Eu.drain k depth (u.release depth (all.getD (Config.freeNat free % all.length) i)) (free + 1)

/-- The notices generated since the outbox held n of them join after those of these posters. -/
def Eu.hold (u : Eu) (n : Nat) (ps : List Poster) : Eu :=
  { u with outbox := u.outbox.take n ++ (u.outbox.drop n).map (fun x => { x with after := ps ++ x.after }) }

/-- R180: the attention line is asserted exactly while the notice queue holds at least one notice. -/
def State.attention (s : State) : Bool := !s.eu.notices.isEmpty

/-- A block generates a notice. -/
def post (p : Poster) (n : Notice) (s : State) : State := s.setEu (s.eu.post p n)

/-- A block triggers an event. -/
def trigger (e : Event) (s : State) : State := s.setEu (s.eu.trigger e)

/-- R177: a handling that follows those of these posters within one step, such as WGC's at the release of the gate
after TCU's end of a trial (R107): its notices join after theirs. -/
def following (ps : List Poster) (f : State → State) (s : State) : State :=
  let t := f s
  t.setEu (t.eu.hold s.eu.outbox.length ps)

/-- What the other blocks may have generated before the report to MC that lets a pending exit complete: the notices of
TCU and WGC, and the events of the record that ended the writing (R8, R30, R151, R172). -/
def reportPosters : List Poster := [.tcu, .wgc, .event .rpcLimit, .event .positionLost, .event .positionJump]

/-- The end of a step: the notices it generated join the queue. -/
def finish (s : State) : State :=
  let r := Eu.drain s.eu.outbox.length s.mc.noticeDepth s.eu s.free
  (s.setEu r.1).setFree r.2

end Sys2Proof.Machine
end

