-- ==== Sys2Proof/Machine/Laser.lean ====
section
/-! DEFINITION. The Laser Drive Unit: threshold and slope, power to current and code, the computation of the four levels, write power sets, APC, and a change of bank (R51 to R73). The meanings of its commands are in Machine/LaserCommands.lean. -/

namespace Sys2Proof.Machine

/-- R55: the threshold at temperature t. -/
def threshold (r : CharRecord) (t : Int) : Int :=
  clampInt 0 r.imax (r.ith0 + divRound (r.kI * (t - r.t0)) 10)

/-- R55: the slope at temperature t. -/
def slope (r : CharRecord) (t : Int) : Int :=
  clampInt 100 4000 (r.eta0 - divRound (r.kEta * (t - r.t0)) 10)

/-- R59: the output code of a current. -/
def codeOf (current : Nat) : Nat := min 4095 (divRoundNat current 50)

/-- R57: the current of a power above 0, before its clamp. -/
def unclampedCurrent (r : CharRecord) (t ioff : Int) (power : Nat) : Int :=
  threshold r t + ioff + divRound (power * 1000) (slope r t)

/-- R57, R58, R59: one level from its power. -/
def computeLevel (r : CharRecord) (t ioff : Int) (power : Nat) : LevelState :=
  if power = 0 then LevelState.dark 0
  else
    let sum := unclampedCurrent r t ioff power
    let current := (clampInt 0 r.imax sum).toNat
    { power := power, current := current, code := codeOf current, limited := decide ((r.imax : Int) < sum) }

/-- R51: a write power set that is absent counts as powers of 0. -/
def powersOf (w : Option PowerSet) : PowerSet := w.getD { peak := 0, bias := 0, cool := 0 }

/-- R53 to R59: the four levels from their inputs as they stand. In the modes with the laser off, and while no bank
is active, every current is 0; in SELFTEST every level takes the READ level's current, code and flag (R54). -/
def computeLevels (mode : Mode) (char : Option CharRecord) (t ioff : Int) (readPower : Nat)
    (writeSet : Option PowerSet) : Levels :=
  let w := powersOf writeSet
  let dark : Levels :=
    { read := LevelState.dark readPower, peak := LevelState.dark w.peak, bias := LevelState.dark w.bias,
      cool := LevelState.dark w.cool }
  match char with
  | none => dark
  | some r =>
    if mode.laserOff then dark
    else
      let read := computeLevel r t ioff readPower
      if mode = .selftest then
        { read := read, peak := { read with power := w.peak }, bias := { read with power := w.bias },
          cool := { read with power := w.cool } }
      else
        { read := read, peak := computeLevel r t ioff w.peak, bias := computeLevel r t ioff w.bias,
          cool := computeLevel r t ioff w.cool }

/-- R58: whether a computation sets a level's limited flag while it was clear. In SELFTEST no clamp of PEAK, BIAS or
COOL counts, since their own powers play no part (R54). -/
def newlyLimited (mode : Mode) (old new : Levels) : Bool :=
  (new.read.limited && !old.read.limited) ||
    (decide (mode ≠ .selftest) &&
      ((new.peak.limited && !old.peak.limited) || (new.bias.limited && !old.bias.limited) ||
        (new.cool.limited && !old.cool.limited)))

/-- The levels as R62 computes them from the state as it stands. -/
def State.levelsNow (s : State) : Levels :=
  computeLevels s.mc.mode s.cs.characterization s.temperature s.ldu.ioff (s.ldu.readPower.get s.pt.surface)
    s.ldu.writeSet

/-- R62: LDU computes all four levels afresh; R58: CURRENT_LIMIT is latched at an entry into the limited condition. -/
def recompute (s : State) : State :=
  let new := s.levelsNow
  (s.setLdu { s.ldu with levels := new }).setEu
    (if newlyLimited s.mc.mode s.ldu.levels new then s.eu.trigger .currentLimit else s.eu)

/-- R61: the holder of the gate hands LDU a write power set; LDU takes it and recomputes. A CURRENT_LIMIT joins after
what WGC generated before it handed the set, such as the SEGMENT_DONE of R142 (R177). -/
def handPowers (w : PowerSet) (s : State) : State :=
  following [.wgc, .event .rpcLimit] recompute (s.setLdu { s.ldu with writeSet := some w })

/-- The code on the laser current outputs: that of the driven level (R51, R52). -/
def Ldu.outputCode (l : Ldu) : Nat :=
  match l.driven with
  | .read => l.levels.read.code
  | .peak => l.levels.peak.code
  | .bias => l.levels.bias.code
  | .cool => l.levels.cool.code

/-- R64: whether an FMON completion taken now makes an APC update. -/
def apcUpdates (s : State) : Bool :=
  s.ldu.apcOn && s.cs.characterization.isSome && !s.mc.mode.laserOff && decide (s.wgc.gate ≠ .opened)

/-- R65: the amount by which Ioff falls for an FMON value. -/
def apcFall (r : CharRecord) (t : Int) (readPower value : Nat) : Int :=
  let expected := divRoundNat (readPower * r.fmonGain) 1000
  divRound (((value : Int) - expected) * 1000000) (r.fmonGain * slope r t * 4)

/-- R65, R66: one APC update from a corrected FMON value. Without an active bank there is none (R56). -/
def apcUpdate (value : Nat) (s : State) : State :=
  match s.cs.characterization with
  | none => s
  | some r =>
    let wanted := s.ldu.ioff - apcFall r s.temperature (s.ldu.readPower.get s.pt.surface) value
    let kept := clampInt (-20000) 20000 wanted
    let clamped := decide (kept ≠ wanted)
    recompute
      ((s.setLdu { s.ldu with ioff := kept, clampMark := clamped }).setEu
        (if clamped && !s.ldu.clampMark then s.eu.trigger .apcLimit else s.eu))

/-- R73: LDU takes a change of bank: Ioff 0, clamp mark clear, read powers held to max_read, levels recomputed. -/
def bankChange (s : State) : State :=
  match s.cs.characterization with
  | none => recompute s
  | some r =>
    recompute
      (s.setLdu { s.ldu with
        ioff := 0, clampMark := false,
        readPower := { t0 := min s.ldu.readPower.t0 r.maxRead, t1 := min s.ldu.readPower.t1 r.maxRead } })

/-- R72: LDU's reaction to a completed change of mode. -/
def lduModeReaction (s : State) : State :=
  recompute (if s.mc.mode.laserOff then s.setLdu { s.ldu with writeSet := none, driven := .read } else s)

end Sys2Proof.Machine
end

