-- ==== Sys2Proof/Machine/Strategy.lean ====
section
/-! DEFINITION. The Write Strategy Generator: mark classes, the pulse train of a mark, the level selected at an instant, the stream and the trial pattern as they pass, and the opening and closing of the gate as WSG and LDU take it (R121 to R128, R52). Instants are sixteenths of T since the gate opened (log entry 8). -/

namespace Sys2Proof.Machine

/-- R121: the class of a mark of length n. -/
def markClass (n : Nat) : MarkClass :=
  if n ≤ 2 then .m2 else if n = 3 then .m3 else if n = 4 then .m4 else .m5p

/-- R121: the length used in the layout; a mark of length 1 is laid out as one of length 2. -/
def layoutLength (n : Nat) : Nat := max 2 n

/-- R122: an instant x of a mark's window (x may be negative) lies in its lead pulse. -/
def inLead (e : StrategyEntry) (x : Int) : Bool :=
  decide (e.leadDelay ≤ x) && decide (x < e.leadDelay + e.leadWidth)

/-- R122: x lies in middle pulse k, which is there for k from 2 to n - 2: from 16k to 16k + mid_width. -/
def inMiddle (e : StrategyEntry) (n : Nat) (x : Int) : Bool :=
  (List.range (n - 1)).any (fun k =>
    decide (2 ≤ k) && decide (k + 2 ≤ n) && decide (16 * (k : Int) ≤ x) && decide (x < 16 * (k : Int) + e.midWidth))

/-- R122: a mark has a tail pulse when its layout length is 3 or more and tail_width is above 0. -/
def hasTail (e : StrategyEntry) (n : Nat) : Bool := decide (3 ≤ n) && decide (0 < e.tailWidth)

/-- R122: x lies in the tail pulse. -/
def inTail (e : StrategyEntry) (n : Nat) (x : Int) : Bool :=
  hasTail e n && decide (16 * ((n : Int) - 1) ≤ x) && decide (x < 16 * ((n : Int) - 1) + e.tailWidth)

/-- R122: the end of the last pulse, which is the tail pulse where there is one, otherwise the last middle pulse
where there is one, otherwise the lead pulse. -/
def lastPulseEnd (e : StrategyEntry) (n : Nat) : Int :=
  if hasTail e n then 16 * ((n : Int) - 1) + e.tailWidth
  else if 4 ≤ n then 16 * ((n : Int) - 2) + e.midWidth
  else e.leadDelay + e.leadWidth

/-- R122, R123: the level a mark of layout length n gives at instant x of its window. -/
def trainLevel (e : StrategyEntry) (n : Nat) (x : Int) : Level :=
  if inLead e x || inMiddle e n x || inTail e n x then .peak
  else if lastPulseEnd e n ≤ x ∧ x < lastPulseEnd e n + e.coolWidth then .cool
  else .bias

/-- R123: the level WSG selects now: as the train in progress gives it, and BIAS before the first train. -/
def Wsg.select (w : Wsg) : Level :=
  match w.train with
  | none => .bias
  | some t => trainLevel t.entry t.length ((w.now : Int) - t.window)

/-- The entry of the current speed class for a mark of length n (R121, R128). -/
def Wsg.entryFor (w : Wsg) (n : Nat) : Option StrategyEntry :=
  (w.entries.get w.speed.index).get (markClass n).index

/-- The instant at which a run ends. -/
def PlacedRun.finish (r : PlacedRun) : Nat := r.start + 16 * r.length

/-- R123: the train of a mark of length n whose window begins at `window` starts at the earlier of its window's
beginning and d, but no earlier than `notBefore` (R124, R127). -/
def Wsg.startTrain (w : Wsg) (n window notBefore : Nat) : Wsg :=
  match w.entryFor n with
  | none => w
  | some e =>
    { w with train := some {
        cls := markClass n, length := layoutLength n, window := window,
        start := max notBefore ((window : Int) + min 0 e.leadDelay).toNat, entry := e } }

/-- Whether the train in progress is that of the mark whose window begins at this instant. -/
def Wsg.trainAt (w : Wsg) (window : Nat) : Bool :=
  match w.train with
  | none => false
  | some t => decide (t.window = window)

/-- R123: the train of the mark ahead starts before its window when d is negative; it starts as soon as its train
start has come, the line being high (`live`) for a segment. Where that instant already lies in the past, because
PUT_STRATEGY has made d more negative (R128) or the line has only just risen (R125), the rules do not say when the train
starts: it starts at the next sixteenth or row at which WSG judges it, the rise itself among them (the model's choice,
log entry 21). -/
def Wsg.startAhead (w : Wsg) (live : Bool) : Wsg :=
  match w.run, w.ahead with
  | some r, some a =>
    match w.entryFor a.length with
    | none => w
    | some e =>
      if live = true ∧ a.kind = .mark ∧ w.trainAt r.finish = false ∧ (r.finish : Int) + min 0 e.leadDelay ≤ w.now then
        w.startTrain a.length r.finish w.now
      else w
  | _, _ => w

/-- The trial pattern: sixteen runs, mark and space of 2 to 9 T in turn (R127). -/
def patternRun (i : Nat) : Run :=
  { kind := if i % 2 = 0 then .mark else .space, length := 2 + (i % 16) / 2 }

/-- The run in progress passes to its end and the run ahead takes its place on the disc. Under a low line the run
that begins is taken as a space (R125). In the trial pattern the next run is then ahead (R127). -/
def Wsg.passRun (w : Wsg) (live : Bool) : Wsg :=
  match w.run, w.ahead with
  | some r, some a =>
    let kind : RunKind := if live then a.kind else .space
    let begun := { w with
      now := max w.now r.finish
      run := some { kind := kind, length := a.length, start := r.finish }
      pattern := w.pattern.map (fun i => (i + 1) % 16)
      ahead := w.pattern.map (fun i => patternRun (i + 2)) }
    let laid :=
      if kind = .mark ∧ w.trainAt r.finish = false then begun.startTrain a.length r.finish w.now else begun
    laid.startAhead live
  | _, _ => w

/-- The gate opens for a segment: the stream begins at this instant, with no train in progress (R124). -/
def Wsg.begin (w : Wsg) : Wsg :=
  { w with train := none, pattern := none, now := 0, run := none, ahead := none }

/-- The gate opens for a trial, or a trial block begins: the pattern restarts with run 1 at this instant, and a
train of the block before is cut (R127). -/
def Wsg.beginPattern (w : Wsg) : Wsg :=
  let first := patternRun 0
  ({ w with
      train := none, pattern := some 0, now := 0
      run := some { kind := first.kind, length := first.length, start := 0 }
      ahead := some (patternRun 1) }).startTrain first.length 0 0

/-- R126: the gate leaves OPEN: the train in progress is cut, and it and the pattern position become absent. -/
def Wsg.stop (w : Wsg) : Wsg :=
  { w with train := none, pattern := none, now := 0, run := none, ahead := none }

/-- R121: WSG takes a run of the channel stream, one run ahead of its place on the disc. The first run after the
opening is laid out at once (R124). When a run is already held ahead, the run in progress has passed. -/
def Wsg.takeRun (w : Wsg) (live : Bool) (a : Run) : Wsg :=
  if a.length = 0 then w
  else
    match w.run, w.ahead with
    | none, _ =>
      let placed := { w with
        run := some { kind := if live then a.kind else .space, length := a.length, start := w.now } }
      if live = true ∧ a.kind = .mark then placed.startTrain a.length w.now w.now else placed
    | some _, none => ({ w with ahead := some a }).startAhead live
    | some _, some _ => ({ (w.passRun live) with ahead := some a }).startAhead live

/-- One sixteenth of T passes on the channel clock. At the end of a run the run ahead begins; where none has been
taken there is no stream, and so no channel clock (7.2). -/
def Wsg.tick (w : Wsg) (live : Bool) : Wsg :=
  match w.run with
  | none => w
  | some r =>
    if w.now + 1 < r.finish then ({ w with now := w.now + 1 }).startAhead live
    else match w.ahead with
      | none => w
      | some _ => ({ w with now := w.now + 1 }).passRun live

/-- R125: the encoder-ready line falls while the gate is OPEN for a segment: the train is cut, no COOL gap is
added, and the run in progress is taken as a space until it ends. -/
def Wsg.readyFell (w : Wsg) : Wsg :=
  { w with train := none, run := w.run.map (fun r => { r with kind := .space }) }

/-- Whether WSG lays out what it takes: always in the trial pattern, which ignores the ready line, and while that
line is high for a segment (R125, R127). -/
def State.streamLive (s : State) : Bool := s.wsg.pattern.isSome || s.lines.encoderReady

/-- R52: the driven level: READ while the gate is not OPEN, and the level WSG selects while it is. -/
def State.drivenNow (s : State) : Level := if s.wgc.gate = .opened then s.wsg.select else .read

/-- WSG's stream changes, and the driven level follows its selection (R52). -/
def setStream (w : Wsg) (s : State) : State :=
  let t := s.setWsg w
  t.setLdu { t.ldu with driven := t.drivenNow }

/-- The gate becomes OPEN for a user; WSG begins at this instant and LDU drives what it selects (R52, R124, R127). -/
def openGate (u : GateUser) (s : State) : State :=
  let w := match u with
    | .segment => s.wsg.begin
    | .trial => s.wsg.beginPattern
  setStream w (s.setWgc { s.wgc with gate := .opened, user := some u })

/-- The gate becomes IDLE or WAITING. WSG stops laying out and LDU drives READ from that moment (R52, R126). -/
def shutGate (waitingFor : Option GateUser) (s : State) : State :=
  let t := s.setWgc { s.wgc with
    gate := if waitingFor.isSome then .waiting else .idle, user := waitingFor }
  (t.setWsg t.wsg.stop).setLdu { t.ldu with driven := .read }

/-- One sixteenth of T passes: only while the gate is OPEN does anything depend on it (log entry 8). -/
def tick (s : State) : State :=
  if s.wgc.gate = .opened then setStream (s.wsg.tick s.streamLive) s else s

end Sys2Proof.Machine
end

