-- ==== Sys2Proof/Machine/Calibration.lean ====
section
/-! DEFINITION. The Calibration Table's shared operations: zones and centres, the answer to a power request with its interpolation across radius, the trial's begin, set and restore requests, and staleness (R76, R83 to R87, R89). -/

namespace Sys2Proof.Machine

/-- R75: the default start of zone z: z × (surface_blocks / 8, truncated). -/
def defaultStarts (blocks : Nat) : Eight Nat :=
  let w := blocks / 8
  ⟨0, w, 2 * w, 3 * w, 4 * w, 5 * w, 6 * w, 7 * w⟩

/-- R76: the end of a zone is the start of the next, and surface_blocks for zone 7. -/
def zoneEnd (starts : Eight Nat) (blocks : Nat) (z : Fin 8) : Nat :=
  if h : z.val + 1 < 8 then starts.get ⟨z.val + 1, h⟩ else blocks

/-- R76: the centre of zone z is (start + end) / 2, rounded. -/
def zoneCentre (starts : Eight Nat) (blocks : Nat) (z : Fin 8) : Nat :=
  divRoundNat (starts.get z + zoneEnd starts blocks z) 2

/-- R76: the zone of a block is the zone whose start is at most the block and whose end is above it: the last zone
whose start is at most the block, since the starts ascend. -/
def zoneOf (starts : Eight Nat) (a : Nat) : Fin 8 :=
  (([7, 6, 5, 4, 3, 2, 1] : List (Fin 8)).find? (fun z => decide (starts.get z ≤ a))).getD 0

/-- R85: the neighbour zone of a block: below when the block lies below its zone's centre, above otherwise. -/
def neighbour (z : Fin 8) (below : Bool) : Option (Fin 8) :=
  if below then
    if h : 0 < z.val then some ⟨z.val - 1, by omega⟩ else none
  else if h : z.val + 1 < 8 then some ⟨z.val + 1, h⟩ else none

/-- R86: the peak on the line between two centres. -/
def interpolate (cLo pLo cHi pHi a : Nat) : Nat :=
  ((pLo : Int) + divRound (((pHi : Int) - pLo) * ((a : Int) - cLo)) ((cHi : Int) - cLo)).toNat

/-- The answer to a power request (R84). -/
structure Power where
  peak : Nat
  bias : Nat
  cool : Nat
  zone : Fin 8
  state : CalState
  deriving DecidableEq, Repr

/-- R84, R85, R86: the answer to a power request for block a of a surface at a speed class; none is 'no power'. -/
def Ct.powerFor (c : Ct) (v : Speed) (f : Surface) (a : Nat) : Option Power :=
  match c.zones.get f with
  | none => none
  | some starts =>
    let z := zoneOf starts a
    let own := c.record { surface := f, speed := v, zone := z }
    match own.usable with
    | none => none
    | some r =>
      let mid := zoneCentre starts c.blocks z
      let below := decide (a < mid)
      let peak :=
        match neighbour z below with
        | none => r.peak
        | some y =>
          match (c.record { surface := f, speed := v, zone := y }).usable with
          | none => r.peak
          | some q =>
            let other := zoneCentre starts c.blocks y
            if below then interpolate other q.peak mid r.peak a else interpolate mid r.peak other q.peak a
      some { peak := peak, bias := r.bias, cool := r.cool, zone := z, state := own.state }

/-- R153: P_eff = P(a) × c / 1000, rounded, then held to at most 80,000. -/
def effectivePeak (peak correction : Nat) : Nat := min 80000 (divRoundNat (peak * correction) 1000)

/-- R87, R98: a power by its ratio in per-mille of a peak. -/
def byRatio (peak ratio : Nat) : Nat := divRoundNat (peak * ratio) 1000

/-- R153: the write power set of a block from the answer and the running correction. -/
def Power.writeSet (p : Power) (correction : Nat) : PowerSet :=
  let e := effectivePeak p.peak correction
  { peak := e, bias := byRatio e p.bias, cool := byRatio e p.cool }

/-- R84: the power request of the Write Gate Controller for a block, at the current speed class. -/
def State.power (s : State) (f : Surface) (a : Nat) : Option Power := s.ct.powerFor s.wsg.speed f a

/-- R83: the begin request: the record's state becomes TRIAL and its fields are kept. -/
def Ct.beginTrial (c : Ct) (k : CalKey) : Ct := c.putRecord k { (c.record k) with state := .trial }

/-- R83: the set request: four fields, cal_temp T, source TRIAL, state VALID. -/
def Ct.setTrial (c : Ct) (k : CalKey) (peak bias cool : Nat) (target temperature : Int) : Ct :=
  c.putRecord k
    { state := .valid
      fields := some { peak := clampNat 1000 80000 peak, bias := bias, cool := cool, target := target,
                       calTemp := temperature, source := .trial } }

/-- R83: the restore request: the saved fields and state are put back whole. -/
def Ct.restoreTrial (c : Ct) (k : CalKey) (saved : CalRecord) : Ct := c.putRecord k saved

/-- R89: a VALID record whose cal_temp differs from T by more than the stale span is to become STALE. -/
def CalRecord.goesStale (r : CalRecord) (temperature : Int) (span : Nat) : Bool :=
  match r.state, r.fields with
  | .valid, some f => decide ((span : Int) < (f.calTemp - temperature).natAbs)
  | _, _ => false

/-- R89: one record as the judgement leaves it. -/
def CalRecord.judged (r : CalRecord) (temperature : Int) (span : Nat) : CalRecord :=
  if r.goesStale temperature span then { r with state := .stale } else r

/-- All 64 records. -/
def Ct.allRecords (c : Ct) : List CalRecord :=
  (c.records.t0.toList ++ c.records.t1.toList).flatMap Eight.toList

/-- R89: CT judges every VALID record at a TEMP completion; CAL_STALE is latched once when one or more change. -/
def judgeStale (s : State) : State :=
  let judge (r : CalRecord) := r.judged s.temperature s.ct.staleSpan
  let table (t : Four (Eight CalRecord)) := t.map (fun z => z.map judge)
  let t := s.setCt { s.ct with records := { t0 := table s.ct.records.t0, t1 := table s.ct.records.t1 } }
  t.setEu
    (if s.ct.allRecords.any (fun r => r.goesStale s.temperature s.ct.staleSpan) then s.eu.trigger .calStale else s.eu)

end Sys2Proof.Machine
end

