-- ==== Sys2Proof/Machine/Protection.lean ====
section
/-! DEFINITION. The Protection Unit's shared operations: the protected range of a map, the query of a run of blocks, and the lock (R159, R160, R162, R164). -/

namespace Sys2Proof.Machine

/-- R159: the length a size code gives on a surface of this many blocks, truncated. -/
def protLength (code blocks : Nat) : Nat :=
  match code with
  | 0 => 0
  | 1 => blocks / 64
  | 2 => blocks / 32
  | 3 => blocks / 16
  | 4 => blocks / 8
  | 5 => blocks / 4
  | 6 => blocks / 2
  | _ => blocks

/-- R159: the protected range of a map on a surface of this many blocks. -/
def ProtMap.rangeOn (m : ProtMap) (blocks : Nat) : ProtRange :=
  let length := protLength m.code blocks
  if m.complement then
    if length = blocks then .empty
    else match m.side with
      | .inner => .run length (blocks - 1)
      | .outer => .run 0 (blocks - length - 1)
  else
    if length = 0 then .empty
    else match m.side with
      | .inner => .run 0 (length - 1)
      | .outer => .run (blocks - length) (blocks - 1)

/-- R159: a range is computed only while a disc is set and the surface is one the disc has. -/
def State.protRange (s : State) (f : Surface) : ProtRange :=
  if s.ct.hasSurface f then (s.pu.maps.get f).rangeOn s.ct.blocks else .absent

/-- R160: PROTECTED when the range is not empty and the run shares at least one block with it. -/
def ProtRange.meets (r : ProtRange) (first last : Nat) : Bool :=
  match r with
  | .absent => false
  | .empty => false
  | .run lo hi => decide (first ≤ hi) && decide (lo ≤ last)

/-- R160: the protection query for blocks first to last of a surface. -/
def State.runProtected (s : State) (f : Surface) (first last : Nat) : Bool := (s.protRange f).meets first last

/-- R162: whether the lock mode permits a map change. -/
def Pu.permitsChange (p : Pu) : Bool :=
  match p.lock with
  | .opened => true
  | .line => decide (p.sense = .released)
  | .session => false
  | .power => false

/-- R164: DISC_UNLOAD acts on PU by the lock mode in force. -/
def Pu.unload (p : Pu) : Pu :=
  match p.lock with
  | .opened => { p with maps := Two.fill ProtMap.cleared }
  | .line => { p with maps := Two.fill ProtMap.cleared }
  | .session => { p with maps := Two.fill ProtMap.cleared, lock := .opened }
  | .power => p

end Sys2Proof.Machine
end

