-- ==== Sys2Proof/Machine/Segments.lean ====
section
/-! DEFINITION. The Write Gate Controller's shared operations: suspension and halting of the head, a new head, waiting, opening, the end of a block, continuation, the running correction, and WGC's reactions to the other blocks' reports (R132, R135 to R156). -/

namespace Sys2Proof.Machine

/-- The head is stopped cleanly: SUSPENDED with the reason, and SEGMENT_SUSPENDED is generated (R141). -/
def suspendHead (why : SegReason) (s : State) : State :=
  match s.wgc.queue with
  | [] => s
  | g :: _ =>
    post .wgc (.segmentSuspended g.tag g.next g.remaining why)
      (s.setWgc (s.wgc.mapHead (fun h => { h with state := .suspended, reason := some why })))

/-- The head enters HALTED with the reason and, when a block was cut, the damaged block; the arm latch is cleared
and SEGMENT_HALTED is generated (R132, R138, R141, R145). -/
def haltHead (why : SegReason) (damaged : Option Nat) (s : State) : State :=
  match s.wgc.queue with
  | [] => s
  | g :: _ =>
    let w := s.wgc.mapHead (fun h => { h with state := .halted, reason := some why, damaged := damaged })
    post .wgc (.segmentHalted g.tag why g.done damaged) (s.setWgc { w with arm := false })

/-- The head leaves the queue. -/
def dropHead (s : State) : State := s.setWgc { s.wgc with queue := s.wgc.queue.tail }

/-- R145: the values gathered for a block that is cut are discarded. -/
def clearReturns (s : State) : State := s.setWgc { s.wgc with returns := { sum := 0, count := 0 } }

/-- R145: an immediate cause stops a head that is WRITING or SUSPENDING: the gate becomes IDLE at once and the
block in progress is damaged. -/
def haltAtOnce (why : SegReason) (s : State) : State :=
  match s.wgc.queue with
  | [] => s
  | g :: _ => if g.state.writes then haltHead why (some g.next) (clearReturns (shutGate none s)) else s

/-- R136, R137, R154: a new head proceeds. With an exit pending it becomes SUSPENDED; while the gate is held, or in
a mode without writing, it stays QUEUED; with its blocks protected it is removed and the next segment proceeds;
otherwise it takes the gate and enters WAITING. The count bounds how many heads can be removed. -/
def proceed : Nat → State → State
  | 0, s => s
  | k + 1, s =>
    match s.wgc.queue with
    | [] => s
    | g :: _ =>
      if g.state ≠ .queued then s
      else if s.wgc.exitMark then suspendHead .mode s
      else if s.wgc.gate ≠ .idle ∨ s.mc.mode.mayWrite = false then s
      else if s.runProtected g.surface g.next g.last then
        proceed k (post .wgc (.segmentRefused g.tag) (dropHead s))
      else
        let t := shutGate (some .segment) s
        t.setWgc { t.wgc.mapHead (fun h => { h with state := .waiting }) with wait := 0 }

/-- R136: the queue's head, if it is QUEUED, proceeds as a new head. -/
def newHead (s : State) : State := proceed s.wgc.queue.length s

/-- R138: a boundary that is not the opening boundary raises the wait counter; past the wait limit the segment
halts with START_NOT_FOUND. -/
def waitOn (s : State) : State :=
  let n := s.wgc.wait + 1
  let t := s.setWgc { s.wgc with wait := n }
  if s.wgc.waitLimit < n then haltHead .startNotFound none (shutGate none t) else t

/-- R139: a segment is judged at its opening boundary, and the gate opens when all four conditions hold. -/
def openSegment (g : Segment) (s : State) : State :=
  if s.pu.sense = .asserted then suspendHead .inhibit (shutGate none s)
  else if s.lines.encoderReady = false then haltHead .underrun none (shutGate none s)
  else match s.power g.surface g.next with
    | none => haltHead .noCalibration none (shutGate none s)
    | some p =>
      if s.wsg.complete s.wsg.speed = false then haltHead .noStrategy none (shutGate none s)
      else
        let w := { s.wgc with
          correction := 1000, wRef := none, returns := { sum := 0, count := 0 }, wait := 0 }
        openGate .segment
          (handPowers (p.writeSet 1000)
            (s.setWgc (w.mapHead (fun h => { h with state := .writing }))))

/-- R150: the write return level of a block: the mean, rounded; none where nothing was gathered or it is 0. -/
def returnLevel (t : Tally) : Option Nat :=
  if t.count = 0 then none
  else
    let w := divRoundNat t.sum t.count
    if w = 0 then none else some w

/-- R151: the deviation d of a return level from the reference. -/
def deviation (w ref : Nat) : Int := divRound (1000 * ((w : Int) - ref)) ref

/-- R151, step 3: c before its clamp. -/
def steppedCorrection (c deadband step : Nat) (d : Int) : Int :=
  if d < -(deadband : Int) then c + step else if (deadband : Int) < d then c - step else c

/-- R151: the update of the running correction at the end of a block, from the values gathered for it. -/
def rpcUpdate (s : State) : State :=
  if s.wgc.rpcOn = false ∨ s.mc.mode ≠ .record then s
  else match returnLevel s.wgc.returns with
    | none => s
    | some w =>
      match s.wgc.wRef with
      | none => s.setWgc { s.wgc with wRef := some w }
      | some ref =>
        let d := deviation w ref
        let wanted := steppedCorrection s.wgc.correction s.wgc.deadband s.wgc.rpcStep d
        let kept := clampInt 850 1150 wanted
        let clamped := decide (kept ≠ wanted)
        let marked := match s.wgc.queue with
          | [] => true
          | g :: _ => g.limitMark
        let w := { s.wgc with correction := kept.toNat }
        (s.setWgc (w.mapHead (fun h =>
          { h with largest := max h.largest d.natAbs, limitMark := h.limitMark || clamped }))).setEu
          (if clamped && !marked then s.eu.trigger .rpcLimit else s.eu)

/-- R142, R148: the head is complete: it is removed and SEGMENT_DONE is generated. -/
def completeHead (s : State) : State :=
  match s.wgc.queue with
  | [] => s
  | g :: _ => post .wgc (.segmentDone g.tag g.done g.last s.wgc.correction g.largest) (dropHead s)

/-- R142: whether the next head continues through the open gate at this boundary. -/
def continues (f : Surface) (a : Nat) (s : State) : Bool :=
  match s.wgc.queue with
  | [] => false
  | g :: _ =>
    decide (g.link = .append) && decide (g.surface = f) && decide (g.start = a) && s.mc.mode.mayWrite &&
      !s.wgc.exitMark

/-- R142: a continuing head is judged at once; when all four conditions hold it writes on through the open gate. -/
def continueHead (g : Segment) (s : State) : State :=
  if s.runProtected g.surface g.start g.last then
    newHead (post .wgc (.segmentRefused g.tag) (dropHead (shutGate none s)))
  else if s.pu.sense = .asserted then suspendHead .inhibit (shutGate none s)
  else if s.lines.encoderReady = false then haltHead .underrun none (shutGate none s)
  else match s.power g.surface g.start with
    | none => haltHead .noCalibration none (shutGate none s)
    | some p =>
      handPowers (p.writeSet s.wgc.correction)
        (s.setWgc (s.wgc.mapHead (fun h => { h with state := .writing })))

/-- R142: after a complete segment has left, the next head continues or the gate becomes IDLE and it proceeds as a
new head. -/
def afterComplete (f : Surface) (a : Nat) (s : State) : State :=
  match s.wgc.queue with
  | [] => shutGate none s
  | g :: _ => if continues f a s then continueHead g s else newHead (shutGate none s)

/-- R141: the block that ends is counted: blocks done rise by one and the append point becomes that block. -/
def countBlock (s : State) : State :=
  match s.wgc.queue with
  | [] => s
  | g :: _ =>
    s.setWgc { s.wgc.mapHead (fun h => { h with done := h.done + 1 }) with append := some (g.surface, g.next) }

/-- R141: what a boundary decides once the block has been counted and the correction updated. -/
def afterBlock (f : Surface) (a : Nat) (s : State) : State :=
  match s.wgc.queue with
  | [] => s
  | g :: _ =>
    if g.done = g.count then afterComplete f a (completeHead s)
    else if g.state = .suspending then suspendHead (g.reason.getD .command) (shutGate none s)
    else if s.lines.encoderReady = false then haltHead .underrun none (shutGate none s)
    else match s.power g.surface a with
      | none => haltHead .noCalibration none (shutGate none s)
      | some p => handPowers (p.writeSet s.wgc.correction) s

/-- R141: a boundary ends the block being written. -/
def endBlock (f : Surface) (a : Nat) (s : State) : State :=
  afterBlock f a (clearReturns (rpcUpdate (countBlock s)))

/-- R138, R141: WGC takes a boundary event. -/
def wgcBoundary (f : Surface) (a : Nat) (kind : BoundaryKind) (s : State) : State :=
  match s.wgc.queue with
  | [] => s
  | g :: _ =>
    match g.state with
    | .waiting => if kind = .valid ∧ f = g.surface ∧ a = g.next then openSegment g s else waitOn s
    | .writing => endBlock f a s
    | .suspending => endBlock f a s
    | .queued => s
    | .suspended => s
    | .halted => s

/-- R138, R145: WGC takes a loss report or a jump report. The damaged block is the segment's own next block, which is
the block a loss report names. -/
def wgcPositionLost (_ : PositionReport) (s : State) : State :=
  match s.wgc.queue with
  | [] => s
  | g :: _ =>
    if g.state = .waiting then haltHead .position none (shutGate none s) else haltAtOnce .position s

/-- R140: WGC takes an RSUM completion. -/
def wgcReturn (value : Nat) (s : State) : State :=
  if s.wgc.headWrites then
    s.setWgc { s.wgc with
      returns := { sum := s.wgc.returns.sum + value, count := s.wgc.returns.count + 1 } }
  else s

/-- R143: the head is paused with a reason: SUSPENDED at once when it is QUEUED or WAITING, SUSPENDING when it is
WRITING, unchanged otherwise. -/
def pauseHead (why : SegReason) (s : State) : State :=
  match s.wgc.queue with
  | [] => s
  | g :: _ =>
    match g.state with
    | .queued => suspendHead why s
    | .waiting => suspendHead why (shutGate none s)
    | .writing => s.setWgc (s.wgc.mapHead (fun h => { h with state := .suspending, reason := some why }))
    | .suspending => s
    | .suspended => s
    | .halted => s

/-- R144: the Protection Unit reports the line asserted: the latch is cleared, and a WRITING head is paused. -/
def wgcInhibit (s : State) : State :=
  let t := s.setWgc { s.wgc with arm := false }
  match s.wgc.queue with
  | [] => t
  | g :: _ => if g.state = .writing then pauseHead .inhibit t else t

/-- R154: an exit from RECORD is pending: the exit mark is set and the head is paused with reason MODE. -/
def wgcExitPending (s : State) : State := pauseHead .mode (s.setWgc { s.wgc with exitMark := true })

/-- R154: the exit is withdrawn. -/
def wgcExitWithdrawn (s : State) : State := s.setWgc { s.wgc with exitMark := false }

/-- R155: a head that is WAITING, WRITING or SUSPENDING is halted by a change of mode, with a damaged block if it
was writing. -/
def haltForMode (why : SegReason) (s : State) : State :=
  match s.wgc.queue with
  | [] => s
  | g :: _ =>
    if g.state = .waiting then haltHead why none (shutGate none s) else haltAtOnce why s

/-- R155: every segment is removed, and QUEUE_FLUSHED is generated with their number if it is 1 or more. -/
def flushQueue (s : State) : State :=
  let n := s.wgc.queue.length
  let t := s.setWgc { s.wgc with queue := [] }
  if n = 0 then t else post .wgc (.queueFlushed n) t

/-- R132, R154: the latch is cleared in a mode without writing, and the exit mark at every change of mode. -/
def clearMarks (s : State) : State :=
  s.setWgc { s.wgc with arm := s.wgc.arm && s.mc.mode.mayWrite, exitMark := false }

/-- R155: WGC's reaction to a completed change of mode (the mode is already the new one). -/
def wgcModeReaction (s : State) : State :=
  match s.mc.mode with
  | .read => clearMarks s
  | .record => newHead (clearMarks s)
  | .selftest => clearMarks s
  | .standby => flushQueue (shutGate none (haltForMode .mode (clearMarks s)))
  | .configure => flushQueue (shutGate none (haltForMode .mode (clearMarks s)))
  | .fault => shutGate none (haltForMode .fault (clearMarks s))

end Sys2Proof.Machine
end

