-- ==== Sys2Proof/Machine/Trials.lean ====
section
/-! DEFINITION. The Trial Calibration Unit's shared operations: the power ladder, sampling and closing of steps, the fit, the end of a trial, its boundaries and its aborts (R95, R98 to R110). -/

namespace Sys2Proof.Machine

/-- R93: the remaining count of a set test area: first + length - next pointer. -/
def TestArea.remaining (a : TestArea) : Nat := a.first + a.length - a.next

/-- R98: the peak power of step k, k from 1. -/
def Trial.peakOf (t : Trial) (k : Nat) : Nat := t.start + (k - 1) * t.step

/-- R98: the write power set of step k. -/
def Trial.setOf (t : Trial) (k : Nat) : PowerSet :=
  let p := t.peakOf k
  { peak := p, bias := byRatio p t.bias, cool := byRatio p t.cool }

/-- R99: a step as the trial context first holds it. -/
def TrialStep.fresh : TrialStep :=
  { rtop := { sum := 0, count := 0 }, rbot := { sum := 0, count := 0 }, rsum := { sum := 0, count := 0 },
    result := .unmeasured }

/-- Changes step k of the trial, k from 1. -/
def Trial.mapStep (t : Trial) (k : Nat) (f : TrialStep → TrialStep) : Trial :=
  { t with steps := t.steps.modify (k - 1) f }

/-- R104: a corrected value is added to a sum and counted. -/
def Tally.add (a : Tally) (value : Nat) : Tally := { sum := a.sum + value, count := a.count + 1 }

/-- R105: the mean, rounded (R1). -/
def Tally.mean (a : Tally) : Nat := divRoundNat a.sum a.count

/-- R105: the result of a step from its sums and counts. -/
def TrialStep.close (g : TrialStep) : TrialStep :=
  let h : Int := g.rtop.mean
  let l : Int := g.rbot.mean
  let m : Int := g.rsum.mean
  if g.rtop.count = 0 ∨ g.rbot.count = 0 ∨ g.rsum.count = 0 then { g with result := .invalid }
  else if h - l < 64 then { g with result := .invalid }
  else { g with result := .beta (clampInt (-32768) 32767 (divRound (1000 * (h + l - 2 * m)) (h - l))) }

/-- R108: the powers of the steps with their results, in order of rising power. -/
def Trial.results (t : Trial) : List (Nat × StepResult) :=
  t.steps.zipIdx.map (fun p => (t.peakOf (p.2 + 1), p.1.result))

/-- R106: the valid steps are those whose results are a β. -/
def validSteps (rs : List (Nat × StepResult)) : List (Nat × Int) :=
  rs.filterMap (fun r => match r.2 with
    | .beta b => some (r.1, b)
    | .invalid => none
    | .unmeasured => none)

/-- R106: P* between two adjacent valid steps. -/
def fitted (target : Int) (pj : Nat) (bj : Int) (pk : Nat) (bk : Int) : Nat :=
  ((pj : Int) + divRound (((pk : Int) - pj) * (target - bj)) (bk - bj)).toNat

/-- R106: the power fitted at the first pair of adjacent valid steps that rises across the target. -/
def firstCrossing (target : Int) : List (Nat × Int) → Option Nat
  | [] => none
  | [_] => none
  | (pj, bj) :: (pk, bk) :: rest =>
    if bj < target ∧ target ≤ bk then some (fitted target pj bj pk bk)
    else firstCrossing target ((pk, bk) :: rest)

/-- R106: the outcome of the fit and, for SET, the fitted power. -/
def fit (target : Int) (valid : List (Nat × Int)) : TrialOutcome × Option Nat :=
  match firstCrossing target valid with
  | some p => (.set, some p)
  | none =>
    if valid.length < 2 then (.weakSignal, none)
    else if valid.all (fun v => decide (v.2 < target)) then (.notReached, none)
    else if valid.all (fun v => decide (target ≤ v.2)) then (.overshot, none)
    else (.notReached, none)

/-- R108: the blocks written equal the next pointer minus f. -/
def State.blocksWritten (s : State) (t : Trial) : Nat :=
  match s.tcu.areas.get t.key.surface with
  | none => 0
  | some a => a.next - t.first

/-- R108: CAL_DONE of a trial that ends. -/
def State.calDone (s : State) (t : Trial) (outcome : TrialOutcome) (reason : Option TrialReason)
    (power : Option Nat) : CalDone :=
  { key := t.key, outcome := outcome, reason := reason, fitted := power, target := t.target, bias := t.bias,
    cool := t.cool, first := t.first, written := s.blocksWritten t, steps := t.results }

/-- R107, step 2: the set request after a fit, the restore request otherwise. -/
def settleRecord (t : Trial) (power : Option Nat) (s : State) : State :=
  match power with
  | some p => s.setCt (s.ct.setTrial t.key p t.bias t.cool t.target s.temperature)
  | none => s.setCt (s.ct.restoreTrial t.key t.saved)

/-- R107: a trial ends: the gate is closed if it is OPEN, the record is set or restored, CAL_DONE is generated, the
gate is released and the head proceeds, its notices after CAL_DONE (R177), and the context is removed. Only an outcome
SET carries a power. -/
def endTrial (outcome : TrialOutcome) (reason : Option TrialReason) (power : Option Nat) (s : State) : State :=
  match s.tcu.trial with
  | none => s
  | some t =>
    let closed := if s.wgc.gate = .opened then shutGate (some .trial) s else s
    let settled := settleRecord t power closed
    let told := post .tcu (.calDone (s.calDone t outcome reason power)) settled
    let released := following [.tcu] newHead (shutGate none told)
    released.setTcu { released.tcu with trial := none }

/-- R109: an abort with its reason. -/
def abortTrial (why : TrialReason) (s : State) : State := endTrial .aborted (some why) none s

/-- Replaces the trial context. -/
def setTrial (t : Trial) (s : State) : State := s.setTcu { s.tcu with trial := some t }

/-- R95: the next pointer of the test area of a surface moves to a block. -/
def setPointer (f : Surface) (next : Nat) (s : State) : State :=
  s.setTcu { s.tcu with
    areas := s.tcu.areas.put f ((s.tcu.areas.get f).map (fun a => { a with next := next })) }

/-- R101, R103: a boundary that does not begin the phase raises the wait count; past the wait limit the trial ends
with START_NOT_FOUND. -/
def trialWaitOn (t : Trial) (s : State) : State :=
  let u := setTrial { t with wait := t.wait + 1 } s
  if s.wgc.waitLimit < t.wait + 1 then endTrial .startNotFound none none u else u

/-- R101: the trial begins to write at the boundary of f. -/
def trialOpen (t : Trial) (s : State) : State :=
  openGate .trial
    (handPowers (t.setOf 1)
      (setPointer t.key.surface (t.first + 1) (setTrial { t with sub := .writing, index := 1, wait := 0 } s)))

/-- R102, R127: the next step is written: the pointer advances, its set is handed, and the pattern restarts. -/
def trialNextStep (t : Trial) (s : State) : State :=
  let u := handPowers (t.setOf (t.index + 1))
    (setPointer t.key.surface (t.first + t.index + 1) (setTrial { t with index := t.index + 1 } s))
  setStream u.wsg.beginPattern u

/-- R102: the boundary that ends the last step closes the gate; the trial ends with a MODE mark and waits to read
otherwise, an INHIBIT mark being removed. The step index stands at the number of steps until MEASURING, and GET_TRIAL
shows it so: R96 asks for an index in every sub-state and no rule gives one for READ_WAIT (log entry 19). -/
def trialWritten (t : Trial) (s : State) : State :=
  let u := shutGate (some .trial) s
  if t.mark = some .mode then abortTrial .mode u
  else setTrial { t with sub := .readWait, wait := 0, inhibitMark := false } u

/-- R106: the fit ends the trial. -/
def trialFit (t : Trial) (s : State) : State :=
  let r := fit t.target (validSteps t.results)
  endTrial r.1 none r.2 (setTrial t s)

/-- R100, R101: a boundary in WRITE_WAIT. A set mark ends the trial, and the gate never opens while the line is
asserted: the line sets the mark (R110), so no state that TrialMarksSound describes meets the second test. -/
def trialWriteWait (t : Trial) (f : Surface) (a : Nat) (kind : BoundaryKind) (s : State) : State :=
  match t.mark with
  | some m => abortTrial m.reason s
  | none =>
    if kind = .valid ∧ f = t.key.surface ∧ a = t.first then
      if s.pu.sense = .asserted then abortTrial .inhibit s else trialOpen t s
    else trialWaitOn t s

/-- R100, R102: a boundary in WRITING. -/
def trialWriting (t : Trial) (s : State) : State :=
  if t.index < t.steps.length then
    match t.mark with
    | some m => abortTrial m.reason s
    | none => trialNextStep t s
  else trialWritten t s

/-- R100, R103: a boundary in READ_WAIT. -/
def trialReadWait (t : Trial) (f : Surface) (a : Nat) (kind : BoundaryKind) (s : State) : State :=
  if t.mark = some .mode then abortTrial .mode s
  else if kind = .valid ∧ f = t.key.surface ∧ a = t.first then
    setTrial { t with sub := .measuring, index := 1, wait := 0 } s
  else trialWaitOn t s

/-- R100, R104: a boundary in MEASURING closes the step; a MODE mark acts unless the step is the last (R110). -/
def trialMeasuring (t : Trial) (s : State) : State :=
  let closed := t.mapStep t.index TrialStep.close
  if t.index < t.steps.length then
    if t.mark = some .mode then abortTrial .mode (setTrial closed s)
    else setTrial { closed with index := t.index + 1 } s
  else trialFit closed s

/-- R100: TCU takes a boundary event. -/
def tcuBoundary (f : Surface) (a : Nat) (kind : BoundaryKind) (s : State) : State :=
  match s.tcu.trial with
  | none => s
  | some t =>
    match t.sub with
    | .writeWait => trialWriteWait t f a kind s
    | .writing => trialWriting t s
    | .readWait => trialReadWait t f a kind s
    | .measuring => trialMeasuring t s

/-- R104: TCU takes an RTOP, RBOT or RSUM completion; it counts in MEASURING alone. -/
def tcuSample (c : Channel) (value : Nat) (s : State) : State :=
  match s.tcu.trial with
  | none => s
  | some t =>
    if t.sub = .measuring then
      setTrial
        (t.mapStep t.index (fun g => match c with
          | .rtop => { g with rtop := g.rtop.add value }
          | .rbot => { g with rbot := g.rbot.add value }
          | .rsum => { g with rsum := g.rsum.add value }
          | .fmon => g
          | .temp => g
          | .vld => g
          | .terr => g
          | .aux => g)) s
    else s

/-- R109: TCU takes a TERR completion out of window. -/
def tcuTracking (s : State) : State :=
  match s.tcu.trial with
  | none => s
  | some t => if t.sub = .writing ∨ t.sub = .measuring then abortTrial .tracking s else s

/-- R109: TCU takes a loss report or a jump report: a trial in any sub-state ends. The address fields tell it nothing
it acts on. -/
def tcuPositionLost (_ : PositionReport) (s : State) : State := abortTrial .position s

/-- R109: TCU takes a VLD completion out of window. -/
def tcuSupply (s : State) : State :=
  match s.tcu.trial with
  | none => s
  | some t => if t.sub = .writing then abortTrial .supply s else s

/-- R110: the line is asserted: in WRITE_WAIT or WRITING the mark becomes INHIBIT. While it is MODE it stays so, and
INHIBIT shows once the exit is withdrawn (log entry 10). -/
def tcuInhibit (s : State) : State :=
  match s.tcu.trial with
  | none => s
  | some t =>
    if t.sub = .writeWait ∨ t.sub = .writing then setTrial { t with inhibitMark := true } s
    else s

/-- R110: an exit from RECORD is pending: the mark becomes MODE in every sub-state. -/
def tcuExitPending (s : State) : State :=
  match s.tcu.trial with
  | none => s
  | some t => setTrial { t with modeMark := true } s

/-- R110: the exit is withdrawn: the MODE mark is removed, and the trial goes on as if it had never been set. -/
def tcuExitWithdrawn (s : State) : State :=
  match s.tcu.trial with
  | none => s
  | some t => setTrial { t with modeMark := false } s

/-- R109: TCU's reaction to a completed change of mode: an entry into FAULT, and a change from RECORD to CONFIGURE,
end a trial in flight at once. -/
def tcuModeReaction (source target : Mode) (s : State) : State :=
  if target = .fault then abortTrial .fault s
  else if source = .record ∧ target = .configure then abortTrial .mode s
  else s

end Sys2Proof.Machine
end

