-- ==== Sys2Proof/Machine/Modes.lean ====
section
/-! DEFINITION. The Mode Controller's shared operations: a completed change of mode with every block's reaction, the stop condition, the pending exit, and the entry into FAULT (R5 to R14, R29). The meanings of its commands are in Machine/ModeCommands.lean. -/

namespace Sys2Proof.Machine

/-- The three self-test values MC hands to the tracker (R6). -/
structure SelfTest where
  start : Nat
  surface : Surface
  interval : Nat
  deriving DecidableEq, Repr

/-- R6: the values when the self-test fields are absent. -/
def SelfTest.usual : SelfTest := { start := 0, surface := .zero, interval := 1000 }

/-- R29, R31: PT's reaction to a completed change of mode: LOST, coast count 0, generator stopped; on an entry into
SELFTEST the generator is loaded and started. -/
def ptModeReaction (target : Mode) (g : SelfTest) (p : Pt) : Pt :=
  let lost := { p with state := .lost, coast := 0, genRunning := false }
  if target = .selftest then
    { lost with genRunning := true, genSurface := g.surface, genNext := g.start, genInterval := g.interval }
  else lost

/-- R7, R8, R12: a change of mode completes: the mode becomes the target, the pending request is removed,
MODE_CHANGED is generated, and each block makes its reaction. -/
def changeMode (target : Mode) (g : SelfTest) (s : State) : State :=
  let source := s.mc.mode
  let t := s.setMc { s.mc with mode := target, request := none }
  let t := post .mc (.modeChanged source target) t
  let t := t.setPt (ptModeReaction target g t.pt)
  lduModeReaction (wgcModeReaction (tcuModeReaction source target t))

/-- R12: the entry into FAULT. -/
def enterFault (s : State) : State := trigger .faultEntered (changeMode .fault SelfTest.usual s)

/-- R8: MC judges its stop condition; when it holds, the pending change completes. -/
def judgeExit (s : State) : State :=
  match s.mc.request with
  | none => s
  | some target => if s.stopped then changeMode target SelfTest.usual s else s

/-- The end of a step in which a block may have reported to MC: the stop condition is judged (R8, R30), then the
notices generated in the step join the queue. A change that completes follows the report that let it, and with it the
notices and events of the handlings that led to the report (R8, R30, R177; log entry 5). -/
def conclude (s : State) : State := finish (following reportPosters judgeExit s)

/-- R5, R18: a valid active bank exists, and the store is not busy with a write or a lock. -/
def State.bankReady (s : State) : Bool := s.cs.activeValid && decide (s.cs.store = .idle)

/-- R5: whether the target is legal from the mode. -/
def legalTarget (source target : Mode) : Bool :=
  match source, target with
  | .configure, .standby => true
  | .standby, .read => true
  | .standby, .selftest => true
  | .standby, .configure => true
  | .read, .standby => true
  | .read, .record => true
  | .read, .configure => true
  | .record, .read => true
  | .record, .standby => true
  | .record, .configure => true
  | .selftest, .standby => true
  | .selftest, .configure => true
  | .fault, .standby => true
  | .fault, .configure => true
  | _, _ => false

/-- R5: the condition beside a legal target. -/
def State.targetReady (s : State) (target : Mode) : Bool :=
  match s.mc.mode, target with
  | .configure, .standby => s.bankReady
  | .fault, .standby => s.bankReady && decide (s.eu.senses.get Channel.fmon.index = .inside)
  | .standby, .read => s.ct.disc.isSome
  | .standby, .selftest => s.ct.disc.isSome
  | _, _ => true

/-- R5: the changes that wait until recording has stopped. -/
def deferred (source target : Mode) : Bool :=
  decide (source = .record) && (decide (target = .read) || decide (target = .standby))

/-- R8, R9: a request for READ or STANDBY in RECORD becomes the pending request; WGC and TCU are told unless an exit
is pending already, and the stop condition is judged. -/
def requestExit (target : Mode) (s : State) : State :=
  let t := s.setMc { s.mc with request := some target }
  judgeExit (if s.mc.request.isSome then t else tcuExitPending (wgcExitPending t))

/-- R4, R9: a request for the current mode removes any pending request, and WGC and TCU are told. -/
def withdrawExit (s : State) : State :=
  if s.mc.request.isSome then tcuExitWithdrawn (wgcExitWithdrawn (s.setMc { s.mc with request := none })) else s

end Sys2Proof.Machine
end

