-- ==== Sys2Proof/Machine/Tracker.lean ====
section
/-! DEFINITION. The Position Tracker: the judgement of an arrival, the tracker's state machine, boundary events and reports, and the meanings of POSITION_RECORD and GENERATED_ARRIVAL (R19 to R33). -/

namespace Sys2Proof.Machine

/-- R20: an arrival as PT judges it: none is invalid. -/
def Ct.arrival (c : Ct) (valid : Bool) (f : Surface) (a : Nat) : Option (Surface × Nat) :=
  if valid = true ∧ a < c.blocks ∧ c.hasSurface f = true then some (f, a) else none

/-- Whether it matters which of WGC and TCU takes an event first: a trial is in flight ahead of a QUEUED head, which
its end would let proceed (R107, R136; log entry 7). -/
def State.gateRace (s : State) : Bool :=
  s.tcu.trial.isSome && (match s.wgc.queue with
    | [] => false
    | g :: _ => decide (g.state = .queued))

/-- Two blocks take one event independently (R27, R28): where it matters, a free value decides which takes it
first (log entry 7). WGC acts after TCU there only on a head that the end of the trial let proceed, so that its
notices join after CAL_DONE (R177). -/
def bothTake (w t : State → State) (s : State) : State :=
  if s.gateRace then
    let d := s.draw
    if d.1 % 2 = 0 then t (w d.2) else following [.tcu] w (t d.2)
  else t (w s)

/-- R27: a boundary event reaches WGC and TCU. -/
def deliverBoundary (f : Surface) (a : Nat) (kind : BoundaryKind) (s : State) : State :=
  bothTake (wgcBoundary f a kind) (tcuBoundary f a kind) s

/-- R28: a loss report or a jump report reaches WGC and TCU. PT has latched POSITION_LOST or POSITION_JUMP in its own
handling of the arrival, so that the notices of the two blocks join after it (R172, R177). -/
def deliverReport (r : PositionReport) (s : State) : State :=
  following [.event .positionLost, .event .positionJump] (bothTake (wgcPositionLost r) (tcuPositionLost r)) s

/-- R22, R26: the tracker is ACQUIRING with an arrival as its candidate. -/
def acquire (f : Surface) (a : Nat) (s : State) : State :=
  s.setPt { s.pt with state := .acquiring, candSurface := f, candAddress := a, coast := 0 }

/-- R23, R60: the tracker locks at an arrival; LDU recomputes when the surface has changed. -/
def lockOn (f : Surface) (a : Nat) (s : State) : State :=
  let t := s.setPt { s.pt with
    state := .locked, surface := f, current := a, predicted := successor s.ct.blocks a, coast := 0 }
  if f = s.pt.surface then t else recompute t

/-- R24, R25: the held position moves to an address, with a new coast count, and a boundary event is issued. -/
def advance (a coast : Nat) (kind : BoundaryKind) (s : State) : State :=
  deliverBoundary s.pt.surface a kind
    (s.setPt { s.pt with current := a, predicted := successor s.ct.blocks a, coast := coast })

/-- R28: what the report of an arrival that takes the position from a LOCKED tracker carries: the surface and the current
address of a loss; the surface and the predicted address of a jump, with the arrival that caused it. -/
def Pt.report (p : Pt) : Option (Surface × Nat) → PositionReport
  | none => .loss p.surface p.current
  | some (f, a) => .jump p.surface p.predicted f a

/-- R25, R28: the fourth invalid arrival in a row: LOST, POSITION_LOST and the loss report. -/
def loseLock (s : State) : State :=
  deliverReport (s.pt.report none)
    (trigger .positionLost (s.setPt { s.pt with state := .lost, coast := 0 }))

/-- R26, R28: a jump: ACQUIRING with the arrival as candidate, POSITION_JUMP and the jump report. -/
def jumpTo (f : Surface) (a : Nat) (s : State) : State :=
  deliverReport (s.pt.report (some (f, a))) (trigger .positionJump (acquire f a s))

/-- R22 to R26: the tracker handles one arrival. -/
def takeArrival (v : Option (Surface × Nat)) (s : State) : State :=
  match s.pt.state, v with
  | .lost, none => s
  | .lost, some (f, a) => acquire f a s
  | .acquiring, none => s.setPt { s.pt with state := .lost }
  | .acquiring, some (f, a) =>
    if f = s.pt.candSurface ∧ a = successor s.ct.blocks s.pt.candAddress then lockOn f a s else acquire f a s
  | .locked, some (f, a) =>
    if f = s.pt.surface ∧ a = s.pt.predicted then advance a 0 .valid s else jumpTo f a s
  | .locked, none =>
    if s.pt.coast < 3 then advance s.pt.predicted (s.pt.coast + 1) .coasted s else loseLock s

/-- R21: whether PT takes the port in the mode. -/
def Mode.takesPort : Mode → Bool
  | .read | .record => true
  | .configure | .standby | .selftest | .fault => false

/-- POSITION_RECORD (R20, R21): taken in READ and RECORD, ignored in the other modes. -/
def execPositionRecord (valid : Bool) (f : Surface) (a : Nat) (s : State) : Host.Outcome State Fault Refusal :=
  .next (if Mode.takesPort s.mc.mode then conclude (takeArrival (s.ct.arrival valid f a) s) else s)

/-- GENERATED_ARRIVAL (R31, R32): a running generator delivers a valid record at its next address, and the next
address becomes its successor. A stopped generator delivers nothing. -/
def execGeneratedArrival (s : State) : Host.Outcome State Fault Refusal :=
  .next (if s.pt.genRunning then
      let t := takeArrival (some (s.pt.genSurface, s.pt.genNext)) s
      conclude (t.setPt { t.pt with genNext := successor s.ct.blocks s.pt.genNext })
    else s)

end Sys2Proof.Machine
end

