-- ==== Sys2Proof/Machine/Monitor.lean ====
section
/-! DEFINITION. The Monitor Converter: correction, judgement, temperature, the handling of a completion and its delivery to the blocks that receive its channel, and the meaning of CONVERSION_COMPLETE (R35 to R50). The meanings of its commands are in Machine/MonitorCommands.lean. -/

namespace Sys2Proof.Machine

/-- R40: the corrected value of a raw count. -/
def Offset.correct (o : Offset) (raw : Nat) : Nat :=
  match o.sign with
  | .plus => min 4095 (raw + o.magnitude)
  | .minus => min 4095 (raw - o.magnitude)

/-- R42: the judgement of a corrected value. -/
def Window.judge (w : Window) (v : Nat) : Judgement :=
  if w.enabled = false then .disabled
  else if w.high < v then .high
  else if v < w.low then .low
  else .inside

/-- R45: the temperature of a corrected TEMP code. -/
def temperatureOf (code : Nat) : Int := clampInt (-400) 1250 (250 + divRound (((code : Int) - 1000) * 9) 8)

/-- R41, R45: latest value, conversion count and, for TEMP, the temperature. -/
def Mon.store (m : Mon) (c : Channel) (v : Nat) : Mon :=
  { m with
    latest := m.latest.put c.index v
    counts := m.counts.put c.index ((m.counts.get c.index + 1) % 65536)
    measured := if c = .temp then some (temperatureOf v) else m.measured }

/-- R38, R39: the scan position moves on, and a scan that is STOPPING is STOPPED. -/
def Mon.advance (m : Mon) : Mon :=
  { m with
    position := if m.position + 1 < m.scanList.length then m.position + 1 else 0
    scanState := if m.scanState = .stopping then .stopped else m.scanState }

/-- R11: an FMON judgement that puts the part in FAULT. -/
def faultCause (j : Judgement) (s : State) : Bool :=
  decide (j = .high) && decide (s.wgc.gate ≠ .opened) && decide (s.mc.mode ≠ .fault)

/-- R64, R65: LDU takes an FMON completion. -/
def lduFmon (v : Nat) (s : State) : State := if apcUpdates s then apcUpdate v s else s

/-- R11, R12: MC takes an FMON completion. -/
def mcFmon (j : Judgement) (s : State) : State := if faultCause j s then enterFault s else s

/-- R69: an FMON completion reaches LDU and MC. Where both act, a free value decides which takes it first
(log entry 6). Where LDU is first, the notices of the FAULT entry join after the events of its update (R177). -/
def deliverFmon (v : Nat) (j : Judgement) (s : State) : State :=
  if apcUpdates s && faultCause j s then
    let d := s.draw
    if d.1 % 2 = 0 then following [.event .apcLimit, .event .currentLimit] (mcFmon j) (lduFmon v d.2) else lduFmon v (mcFmon j d.2)
  else mcFmon j (lduFmon v s)

/-- R35, R41: a completion reaches the receivers of its channel. -/
def deliver (c : Channel) (v : Nat) (j : Judgement) (s : State) : State :=
  match c with
  | .fmon => deliverFmon v j s
  | .rsum => tcuSample .rsum v (wgcReturn v s)
  | .rtop => tcuSample .rtop v s
  | .rbot => tcuSample .rbot v s
  | .temp => judgeStale (recompute s)
  | .vld => if j.out then tcuSupply (haltAtOnce .supply s) else s
  | .terr => if j.out then tcuTracking (haltAtOnce .tracking s) else s
  | .aux => s

/-- R41: MON handles the completion of a channel's conversion, EU takes its judgement, and it is delivered. -/
def takeCompletion (c : Channel) (raw : Nat) (s : State) : State :=
  let v := (s.mon.offsets.get c.index).correct raw
  let j := (s.mon.windows.get c.index).judge v
  let t := s.setMon (s.mon.store c v).advance
  deliver c v j (t.setEu (t.eu.judged c j))

/-- CONVERSION_COMPLETE (R41): the conversion in flight completes. Without one in flight there is no completion. -/
def execConversionComplete (raw : RawCount) (s : State) : Host.Outcome State Fault Refusal :=
  .next (match s.mon.inFlight with
    | none => s
    | some c => conclude (takeCompletion c raw.toNat s))

end Sys2Proof.Machine
end

