-- ==== Sys2Proof/Machine/Operands.lean ====
section
/-! DEFINITION. How a body is encoded (R188): integers, optional fields and lists as bytes, the fields of every command frame, the reading of each from a body, and the body each makes. A reading answers none exactly for a body of a length that is not permitted; the values are the owner's to judge. -/

namespace Sys2Proof.Machine

/-- R188: an integer in n bytes, most significant byte first. -/
def natBytes : Nat → Nat → Body
  | 0, _ => []
  | n + 1, v => BitVec.ofNat 8 (v / 256 ^ n) :: natBytes n v

/-- R188: a signed integer in n bytes, in two's complement. -/
def intBytes (n : Nat) (v : Int) : Body := natBytes n (v % 256 ^ n).toNat

/-- R188: on or off, set or clear, yes or no. -/
def flagByte (b : Bool) : Body := natBytes 1 b.toNat

/-- The integer that bytes hold, most significant byte first. -/
def natOf (b : Body) : Nat := b.foldl (fun v x => 256 * v + x.toNat) 0

/-- Takes n bytes off a body as an integer. -/
def takeNat (n : Nat) (b : Body) : Option (Nat × Body) :=
  if n ≤ b.length then some (natOf (b.take n), b.drop n) else none

/-- The signed integer whose two's complement in n bytes is v. -/
def signed (n v : Nat) : Int := if 2 * v < 256 ^ n then v else (v : Int) - 256 ^ n

/-- Takes n bytes off a body as a signed integer. -/
def takeInt (n : Nat) (b : Body) : Option (Int × Body) := (takeNat n b).map (fun r => (signed n r.1, r.2))

/-- R188: a presence byte for n optional fields; a bit beyond them gives no permitted length. -/
def takePresence (n : Nat) (b : Body) : Option (Nat × Body) :=
  match takeNat 1 b with
  | none => none
  | some (p, rest) => if p < 2 ^ n then some (p, rest) else none

/-- R188: an optional field, by its bit in the presence byte. -/
def takeOptional {α : Type} (present : Bool) (f : Body → Option (α × Body)) (b : Body) : Option (Option α × Body) :=
  if present then (f b).map (fun r => (some r.1, r.2)) else some (none, b)

/-- k entries of a list. -/
def takeEntries {α : Type} (f : Body → Option (α × Body)) : Nat → Body → Option (List α × Body)
  | 0, b => some ([], b)
  | k + 1, b =>
    match f b with
    | none => none
    | some (x, rest) => (takeEntries f k rest).map (fun r => (x :: r.1, r.2))

/-- R188: a list, as a count byte and its entries. -/
def takeList {α : Type} (f : Body → Option (α × Body)) (b : Body) : Option (List α × Body) :=
  match takeNat 1 b with
  | none => none
  | some (k, rest) => takeEntries f k rest

/-- The fields of a body, when nothing of it is left over. -/
def whole {α : Type} (r : Option (α × Body)) : Option α :=
  match r with
  | some (x, []) => some x
  | _ => none

/-- R188: a presence byte from its bits, the first optional field lowest. -/
def presence (bits : List Bool) : Body := natBytes 1 (bits.foldr (fun x v => x.toNat + 2 * v) 0)

/-- R188: a list's count byte and entries. -/
def listBytes {α : Type} (f : α → Body) (l : List α) : Body := natBytes 1 l.length ++ l.flatMap f

/-- An optional field's bytes, where it is present. -/
def optionalBytes {α : Type} (f : α → Body) (x : Option α) : Body :=
  match x with
  | none => []
  | some y => f y

/-- The value of an on-or-off byte: none for a byte that is neither (R191 BAD_VALUE; log entry 12). -/
def flagOf (v : Nat) : Option Bool := nameAt [false, true] v

/-- A command without fields. -/
def readNothing (b : Body) : Option Unit := if b = [] then some () else none

/-- A command with one field of n bytes. -/
def readNat (n : Nat) (b : Body) : Option Nat := whole (takeNat n b)

/-- The self-test fields of REQUEST_MODE (R4, R6). -/
structure SelfTestFields where
  start : Nat
  surface : Nat
  interval : Nat
  deriving DecidableEq, Repr

def takeSelfTest (b : Body) : Option (SelfTestFields × Body) := do
  let (start, b) ← takeNat 3 b
  let (surface, b) ← takeNat 1 b
  let (interval, b) ← takeNat 2 b
  some ({ start := start, surface := surface, interval := interval }, b)

def SelfTestFields.bytes (f : SelfTestFields) : Body :=
  natBytes 3 f.start ++ natBytes 1 f.surface ++ natBytes 2 f.interval

/-- REQUEST_MODE (R4). -/
structure ModeFields where
  target : Nat
  selfTest : Option SelfTestFields
  deriving DecidableEq, Repr

def readMode (b : Body) : Option ModeFields := do
  let (target, b) ← takeNat 1 b
  let (p, b) ← takePresence 1 b
  let (selfTest, b) ← takeOptional (p.testBit 0) takeSelfTest b
  whole (some ({ target := target, selfTest := selfTest }, b))

def ModeFields.bytes (f : ModeFields) : Body :=
  natBytes 1 f.target ++ presence [f.selfTest.isSome] ++ optionalBytes SelfTestFields.bytes f.selfTest

/-- SET_SCAN (R36): channels. CLEAR_EVENTS (R175): events. -/
def readNames (b : Body) : Option (List Nat) := whole (takeList (takeNat 1) b)

def nameListBytes (l : List Nat) : Body := listBytes (natBytes 1) l

/-- SET_OFFSET (R40). -/
structure OffsetFields where
  channel : Nat
  sign : Nat
  magnitude : Nat
  deriving DecidableEq, Repr

def readOffset (b : Body) : Option OffsetFields := do
  let (channel, b) ← takeNat 1 b
  let (sign, b) ← takeNat 1 b
  let (magnitude, b) ← takeNat 1 b
  whole (some ({ channel := channel, sign := sign, magnitude := magnitude }, b))

def OffsetFields.bytes (f : OffsetFields) : Body :=
  natBytes 1 f.channel ++ natBytes 1 f.sign ++ natBytes 1 f.magnitude

/-- SET_WINDOW (R42). -/
structure WindowFields where
  channel : Nat
  low : Nat
  high : Nat
  enable : Nat
  deriving DecidableEq, Repr

def readWindow (b : Body) : Option WindowFields := do
  let (channel, b) ← takeNat 1 b
  let (low, b) ← takeNat 2 b
  let (high, b) ← takeNat 2 b
  let (enable, b) ← takeNat 1 b
  whole (some ({ channel := channel, low := low, high := high, enable := enable }, b))

def WindowFields.bytes (f : WindowFields) : Body :=
  natBytes 1 f.channel ++ natBytes 2 f.low ++ natBytes 2 f.high ++ natBytes 1 f.enable

/-- SET_READ_POWER (R70). -/
structure ReadPowerFields where
  surface : Nat
  power : Nat
  deriving DecidableEq, Repr

def readReadPower (b : Body) : Option ReadPowerFields := do
  let (surface, b) ← takeNat 1 b
  let (power, b) ← takeNat 2 b
  whole (some ({ surface := surface, power := power }, b))

def ReadPowerFields.bytes (f : ReadPowerFields) : Body := natBytes 1 f.surface ++ natBytes 2 f.power

/-- SET_DISC (R75). -/
structure DiscFields where
  media : Nat
  surfaces : Nat
  blocks : Nat
  deriving DecidableEq, Repr

def readDisc (b : Body) : Option DiscFields := do
  let (media, b) ← takeNat 1 b
  let (surfaces, b) ← takeNat 1 b
  let (blocks, b) ← takeNat 3 b
  whole (some ({ media := media, surfaces := surfaces, blocks := blocks }, b))

def DiscFields.bytes (f : DiscFields) : Body :=
  natBytes 1 f.media ++ natBytes 1 f.surfaces ++ natBytes 3 f.blocks

/-- SET_ZONES (R77): eight starts, with no count byte (log entry 11). -/
structure ZoneFields where
  surface : Nat
  starts : Eight Nat
  deriving DecidableEq, Repr

def takeStarts (b : Body) : Option (Eight Nat × Body) := do
  let (t0, b) ← takeNat 3 b
  let (t1, b) ← takeNat 3 b
  let (t2, b) ← takeNat 3 b
  let (t3, b) ← takeNat 3 b
  let (t4, b) ← takeNat 3 b
  let (t5, b) ← takeNat 3 b
  let (t6, b) ← takeNat 3 b
  let (t7, b) ← takeNat 3 b
  some (⟨t0, t1, t2, t3, t4, t5, t6, t7⟩, b)

def readZones (b : Body) : Option ZoneFields := do
  let (surface, b) ← takeNat 1 b
  let (starts, b) ← takeStarts b
  whole (some ({ surface := surface, starts := starts }, b))

def startBytes (t : Eight Nat) : Body :=
  natBytes 3 t.t0 ++ natBytes 3 t.t1 ++ natBytes 3 t.t2 ++ natBytes 3 t.t3 ++ natBytes 3 t.t4 ++
    natBytes 3 t.t5 ++ natBytes 3 t.t6 ++ natBytes 3 t.t7

def ZoneFields.bytes (f : ZoneFields) : Body := natBytes 1 f.surface ++ startBytes f.starts

/-- A key of the calibration table as a command gives it (R80, R81). -/
structure KeyFields where
  surface : Nat
  speed : Nat
  zone : Nat
  deriving DecidableEq, Repr

def takeKey (b : Body) : Option (KeyFields × Body) := do
  let (surface, b) ← takeNat 1 b
  let (speed, b) ← takeNat 1 b
  let (zone, b) ← takeNat 1 b
  some ({ surface := surface, speed := speed, zone := zone }, b)

/-- INVALIDATE_CAL (R81). -/
def readKey (b : Body) : Option KeyFields := whole (takeKey b)

def KeyFields.bytes (f : KeyFields) : Body := natBytes 1 f.surface ++ natBytes 1 f.speed ++ natBytes 1 f.zone

/-- PUT_CAL (R80). -/
structure PutCalFields where
  key : KeyFields
  peak : Nat
  bias : Nat
  cool : Nat
  target : Int
  deriving DecidableEq, Repr

def readPutCal (b : Body) : Option PutCalFields := do
  let (key, b) ← takeKey b
  let (peak, b) ← takeNat 3 b
  let (bias, b) ← takeNat 2 b
  let (cool, b) ← takeNat 2 b
  let (target, b) ← takeInt 2 b
  whole (some ({ key := key, peak := peak, bias := bias, cool := cool, target := target }, b))

def PutCalFields.bytes (f : PutCalFields) : Body :=
  f.key.bytes ++ natBytes 3 f.peak ++ natBytes 2 f.bias ++ natBytes 2 f.cool ++ intBytes 2 f.target

/-- GET_CAL (R82): the list form, or with a zone the single form (R188). -/
structure GetCalFields where
  surface : Nat
  speed : Nat
  zone : Option Nat
  deriving DecidableEq, Repr

def readGetCal (b : Body) : Option GetCalFields := do
  let (surface, b) ← takeNat 1 b
  let (speed, b) ← takeNat 1 b
  let (p, b) ← takePresence 1 b
  let (zone, b) ← takeOptional (p.testBit 0) (takeNat 1) b
  whole (some ({ surface := surface, speed := speed, zone := zone }, b))

def GetCalFields.bytes (f : GetCalFields) : Body :=
  natBytes 1 f.surface ++ natBytes 1 f.speed ++ presence [f.zone.isSome] ++ optionalBytes (natBytes 1) f.zone

/-- SET_TEST_AREA (R94). -/
structure AreaFields where
  surface : Nat
  first : Nat
  length : Nat
  deriving DecidableEq, Repr

def readArea (b : Body) : Option AreaFields := do
  let (surface, b) ← takeNat 1 b
  let (first, b) ← takeNat 3 b
  let (length, b) ← takeNat 2 b
  whole (some ({ surface := surface, first := first, length := length }, b))

def AreaFields.bytes (f : AreaFields) : Body := natBytes 1 f.surface ++ natBytes 3 f.first ++ natBytes 2 f.length

/-- CALIBRATE (R97 and the table before it). -/
structure CalibrateFields where
  surface : Nat
  zone : Nat
  steps : Nat
  start : Nat
  step : Nat
  target : Option Int
  bias : Option Nat
  cool : Option Nat
  deriving DecidableEq, Repr

def readCalibrate (b : Body) : Option CalibrateFields := do
  let (surface, b) ← takeNat 1 b
  let (zone, b) ← takeNat 1 b
  let (steps, b) ← takeNat 1 b
  let (start, b) ← takeNat 3 b
  let (step, b) ← takeNat 2 b
  let (p, b) ← takePresence 3 b
  let (target, b) ← takeOptional (p.testBit 0) (takeInt 2) b
  let (bias, b) ← takeOptional (p.testBit 1) (takeNat 2) b
  let (cool, b) ← takeOptional (p.testBit 2) (takeNat 2) b
  whole (some ({ surface := surface, zone := zone, steps := steps, start := start, step := step,
                 target := target, bias := bias, cool := cool }, b))

def CalibrateFields.bytes (f : CalibrateFields) : Body :=
  natBytes 1 f.surface ++ natBytes 1 f.zone ++ natBytes 1 f.steps ++ natBytes 3 f.start ++ natBytes 2 f.step ++
    presence [f.target.isSome, f.bias.isSome, f.cool.isSome] ++ optionalBytes (intBytes 2) f.target ++
    optionalBytes (natBytes 2) f.bias ++ optionalBytes (natBytes 2) f.cool

/-- PUT_STRATEGY (R117): each of the five fields is one signed byte (R188). -/
structure StrategyFields where
  speed : Nat
  mark : Nat
  entry : StrategyEntry
  deriving DecidableEq, Repr

def readStrategy (b : Body) : Option StrategyFields := do
  let (speed, b) ← takeNat 1 b
  let (mark, b) ← takeNat 1 b
  let (leadDelay, b) ← takeInt 1 b
  let (leadWidth, b) ← takeInt 1 b
  let (midWidth, b) ← takeInt 1 b
  let (tailWidth, b) ← takeInt 1 b
  let (coolWidth, b) ← takeInt 1 b
  whole (some ({ speed := speed, mark := mark
                 entry := { leadDelay := leadDelay, leadWidth := leadWidth, midWidth := midWidth,
                            tailWidth := tailWidth, coolWidth := coolWidth } }, b))

def StrategyEntry.bytes (e : StrategyEntry) : Body :=
  intBytes 1 e.leadDelay ++ intBytes 1 e.leadWidth ++ intBytes 1 e.midWidth ++ intBytes 1 e.tailWidth ++
    intBytes 1 e.coolWidth

def StrategyFields.bytes (f : StrategyFields) : Body := natBytes 1 f.speed ++ natBytes 1 f.mark ++ f.entry.bytes

/-- GET_STRATEGY (R119): an optional speed class. -/
def readGetStrategy (b : Body) : Option (Option Nat) := do
  let (p, b) ← takePresence 1 b
  let (speed, b) ← takeOptional (p.testBit 0) (takeNat 1) b
  whole (some (speed, b))

def getStrategyBytes (speed : Option Nat) : Body :=
  presence [speed.isSome] ++ optionalBytes (natBytes 1) speed

/-- SEGMENT (R133, R195). -/
structure SegmentFields where
  tag : Nat
  surface : Nat
  link : Nat
  count : Nat
  start : Option Nat
  deriving DecidableEq, Repr

def readSegment (b : Body) : Option SegmentFields := do
  let (tag, b) ← takeNat 2 b
  let (surface, b) ← takeNat 1 b
  let (link, b) ← takeNat 1 b
  let (count, b) ← takeNat 2 b
  let (p, b) ← takePresence 1 b
  let (start, b) ← takeOptional (p.testBit 0) (takeNat 3) b
  whole (some ({ tag := tag, surface := surface, link := link, count := count, start := start }, b))

def SegmentFields.bytes (f : SegmentFields) : Body :=
  natBytes 2 f.tag ++ natBytes 1 f.surface ++ natBytes 1 f.link ++ natBytes 2 f.count ++
    presence [f.start.isSome] ++ optionalBytes (natBytes 3) f.start

/-- SET_RPC (R152). -/
structure RpcFields where
  enable : Nat
  deadband : Nat
  step : Nat
  deriving DecidableEq, Repr

def readRpc (b : Body) : Option RpcFields := do
  let (enable, b) ← takeNat 1 b
  let (deadband, b) ← takeNat 1 b
  let (step, b) ← takeNat 1 b
  whole (some ({ enable := enable, deadband := deadband, step := step }, b))

def RpcFields.bytes (f : RpcFields) : Body := natBytes 1 f.enable ++ natBytes 1 f.deadband ++ natBytes 1 f.step

/-- SET_PROTECT (R161). -/
structure ProtectFields where
  surface : Nat
  code : Nat
  side : Nat
  complement : Nat
  deriving DecidableEq, Repr

def readProtect (b : Body) : Option ProtectFields := do
  let (surface, b) ← takeNat 1 b
  let (code, b) ← takeNat 1 b
  let (side, b) ← takeNat 1 b
  let (complement, b) ← takeNat 1 b
  whole (some ({ surface := surface, code := code, side := side, complement := complement }, b))

def ProtectFields.bytes (f : ProtectFields) : Body :=
  natBytes 1 f.surface ++ natBytes 1 f.code ++ natBytes 1 f.side ++ natBytes 1 f.complement

/-- An entry of SET_MASK (R174): an event and a setting. -/
structure MaskFields where
  event : Nat
  setting : Nat
  deriving DecidableEq, Repr

def takeMask (b : Body) : Option (MaskFields × Body) := do
  let (event, b) ← takeNat 1 b
  let (setting, b) ← takeNat 1 b
  some ({ event := event, setting := setting }, b)

def readMasks (b : Body) : Option (List MaskFields) := whole (takeList takeMask b)

def MaskFields.bytes (f : MaskFields) : Body := natBytes 1 f.event ++ natBytes 1 f.setting

def maskListBytes (l : List MaskFields) : Body := listBytes MaskFields.bytes l

/-- WRITE_BANK (R197): a bank number and the eight fields. -/
structure BankFields where
  bank : Nat
  record : CharRecord
  deriving DecidableEq, Repr

def readBank (b : Body) : Option BankFields := do
  let (bank, b) ← takeNat 1 b
  let (ith0, b) ← takeNat 3 b
  let (eta0, b) ← takeNat 2 b
  let (t0, b) ← takeInt 2 b
  let (kI, b) ← takeNat 2 b
  let (kEta, b) ← takeNat 1 b
  let (imax, b) ← takeNat 3 b
  let (fmonGain, b) ← takeNat 2 b
  let (maxRead, b) ← takeNat 2 b
  whole (some ({ bank := bank
                 record := { ith0 := ith0, eta0 := eta0, t0 := t0, kI := kI, kEta := kEta, imax := imax,
                             fmonGain := fmonGain, maxRead := maxRead } }, b))

def charBytes (r : CharRecord) : Body :=
  natBytes 3 r.ith0 ++ natBytes 2 r.eta0 ++ intBytes 2 r.t0 ++ natBytes 2 r.kI ++ natBytes 1 r.kEta ++
    natBytes 3 r.imax ++ natBytes 2 r.fmonGain ++ natBytes 2 r.maxRead

def BankFields.bytes (f : BankFields) : Body := natBytes 1 f.bank ++ charBytes f.record

/-- R195: the REPLY selector. -/
def replySelector : Byte := 0xF0

/-- R195: the NOTICE selector. -/
def noticeSelector : Byte := 0xF1

/-- R195: whether a kind byte is the kind code of a command, 1 to 47. -/
def namesCommand (kind : Byte) : Bool := decide (1 ≤ kind.toNat) && decide (kind.toNat ≤ 47)

/-- R184: whether a first byte opens a command frame: it is neither selector. -/
def opensFrame (kind : Byte) : Bool := decide (kind ≠ replySelector) && decide (kind ≠ noticeSelector)

/-- R185: the bytes after the kind byte make a frame: a length byte of at most 62 and so many bytes of body. -/
def framedBody (bytes : List Byte) (extra : Fin 8) : Option Body :=
  match bytes with
  | [] => none
  | n :: body => if extra = 0 ∧ n.toNat ≤ 62 ∧ n.toNat = body.length then some body else none

/-- A frame as it stands in its window: kind, length, body (R195). -/
def frameBytes (kind : Byte) (body : Body) : List Byte := kind :: BitVec.ofNat 8 body.length :: body

end Sys2Proof.Machine
end

