-- ==== Sys2Proof/Machine/Replies.lean ====
section
/-! DEFINITION. The bodies of replies and notices, and the records of the link (R181, R188, R195). The order is the owning rule's: required fields, then a presence byte where there are optional fields, then those present; log entry 11 gives the choices R188 leaves. -/

namespace Sys2Proof.Machine

def surfaceByte (f : Surface) : Body := natBytes 1 f.code
def modeByte (m : Mode) : Body := natBytes 1 m.code
def speedByte (v : Speed) : Body := natBytes 1 v.index

/-- REQUEST_MODE (R4): the current mode and the pending target. -/
def modeBody (s : State) : Body :=
  modeByte s.mc.mode ++ presence [s.mc.request.isSome] ++ optionalBytes modeByte s.mc.request

/-- GET_SAMPLES (R46). -/
def samplesBody (m : Mon) : Body :=
  natBytes 1 m.scanState.code ++ listBytes (fun c : Channel => natBytes 1 c.index) m.scanList ++
    Channel.all.flatMap (fun c => natBytes 2 (m.latest.get c.index) ++ natBytes 2 (m.counts.get c.index))

def levelBytes (l : LevelState) : Body :=
  natBytes 3 l.power ++ natBytes 3 l.current ++ natBytes 2 l.code ++ flagByte l.limited

/-- GET_LASER (R71): the threshold and slope are present while a bank is active. -/
def laserBody (s : State) : Body :=
  intBytes 2 s.temperature ++ intBytes 2 s.ldu.ioff ++ flagByte s.ldu.apcOn ++ flagByte s.ldu.clampMark ++
    natBytes 2 s.ldu.readPower.t0 ++ natBytes 2 s.ldu.readPower.t1 ++ surfaceByte s.pt.surface ++
    flagByte s.ldu.writeSet.isSome ++ natBytes 1 s.ldu.driven.code ++
    levelBytes s.ldu.levels.read ++ levelBytes s.ldu.levels.peak ++ levelBytes s.ldu.levels.bias ++
    levelBytes s.ldu.levels.cool ++ presence [s.cs.characterization.isSome] ++
    optionalBytes (fun r => natBytes 3 (threshold r s.temperature).toNat ++ natBytes 2 (slope r s.temperature).toNat)
      s.cs.characterization

/-- SET_DISC (R75): the disc record. -/
def discBody (d : Disc) : Body :=
  natBytes 1 d.media.code ++ natBytes 1 (if d.dual then 2 else 1) ++ natBytes 3 d.blocks

def keyBytes (k : CalKey) : Body := surfaceByte k.surface ++ speedByte k.speed ++ natBytes 1 k.zone

/-- The fields of a record that is not EMPTY, in the order of R79, its state among them. -/
def calFieldBytes (state : CalState) (f : CalFields) : Body :=
  natBytes 3 f.peak ++ natBytes 2 f.bias ++ natBytes 2 f.cool ++ intBytes 2 f.target ++ natBytes 1 state.code ++
    intBytes 2 f.calTemp ++ natBytes 1 f.source.code

/-- GET_CAL, single form (R82): state, and every other field unless the record is EMPTY. R79 gives no fields for a record
in TRIAL whose trial began on an EMPTY one: they are reported absent (the model's choice, log entry 22). -/
def calRecordBody (r : CalRecord) : Body :=
  natBytes 1 r.state.code ++ presence [r.fields.isSome] ++
    optionalBytes (fun f => natBytes 3 f.peak ++ natBytes 2 f.bias ++ natBytes 2 f.cool ++ intBytes 2 f.target ++
      intBytes 2 f.calTemp ++ natBytes 1 f.source.code) r.fields

/-- The zones of a table of eight. -/
def allZones : List (Fin 8) := [0, 1, 2, 3, 4, 5, 6, 7]

/-- The usable records of a surface and speed class, in ascending zone order (R82). -/
def Ct.usableRecords (c : Ct) (f : Surface) (v : Speed) : List (Fin 8 × CalState × CalFields) :=
  allZones.filterMap (fun z =>
    let r := c.record { surface := f, speed := v, zone := z }
    r.usable.map (fun x => (z, r.state, x)))

/-- GET_CAL, list form (R82): the usable records and the stale span, then the starts and centres of a set table. -/
def calListBody (c : Ct) (f : Surface) (v : Speed) : Body :=
  listBytes (fun r : Fin 8 × CalState × CalFields => natBytes 1 r.1 ++ calFieldBytes r.2.1 r.2.2)
      (c.usableRecords f v) ++
    natBytes 2 c.staleSpan ++ presence [(c.zones.get f).isSome] ++
    optionalBytes (fun t => allZones.flatMap (fun z => natBytes 3 (t.get z) ++ natBytes 3 (zoneCentre t c.blocks z)))
      (c.zones.get f)

def areaBytes (a : TestArea) : Body :=
  natBytes 3 a.first ++ natBytes 2 a.length ++ natBytes 3 a.next ++ natBytes 2 a.remaining

/-- CALIBRATE (R99). -/
def calibrateBody (t : Trial) : Body :=
  keyBytes t.key ++ natBytes 3 t.first ++ natBytes 1 t.steps.length ++ intBytes 2 t.target ++ natBytes 2 t.bias ++
    natBytes 2 t.cool

/-- GET_TRIAL (R96): the two test areas, the summary and the abort mark, each where it is present. -/
def trialBody (s : State) : Body :=
  let mark := s.tcu.trial.bind Trial.mark
  presence [s.tcu.areas.t0.isSome, s.tcu.areas.t1.isSome, s.tcu.trial.isSome, mark.isSome] ++
    optionalBytes areaBytes s.tcu.areas.t0 ++ optionalBytes areaBytes s.tcu.areas.t1 ++
    optionalBytes (fun t => keyBytes t.key ++ natBytes 3 t.first ++ natBytes 1 t.steps.length ++
      natBytes 1 t.sub.code ++ natBytes 1 t.index ++ natBytes 1 (s.blocksWritten t)) s.tcu.trial ++
    optionalBytes (fun m => natBytes 1 m.code) mark

/-- GET_STRATEGY (R119). Each of the four entries has a presence byte, 0 for EMPTY (log entry 11). -/
def strategyBody (w : Wsg) (v : Option Speed) : Body :=
  speedByte w.speed ++ Speed.all.flatMap (fun u => flagByte (w.complete u)) ++ presence [v.isSome] ++
    optionalBytes (fun u => (w.entries.get u.index).toList.flatMap (fun e =>
      presence [e.isSome] ++ optionalBytes StrategyEntry.bytes e)) v

/-- An entry of GET_QUEUE (R157). R188 places a presence byte in a body and not in an entry of a list: each entry has its
own after its required fields (the model's choice, log entry 11). -/
def queueEntryBytes (g : Segment) : Body :=
  natBytes 2 g.tag ++ surfaceByte g.surface ++ natBytes 1 g.link.code ++ natBytes 3 g.start ++ natBytes 3 g.last ++
    natBytes 3 g.next ++ natBytes 2 g.done ++ natBytes 2 g.remaining ++ natBytes 1 g.state.code ++
    presence [g.reason.isSome, g.damaged.isSome] ++ optionalBytes (fun r => natBytes 1 r.code) g.reason ++
    optionalBytes (natBytes 3) g.damaged

/-- GET_QUEUE (R157). R188 gives the exit mark, present or absent by R129, no width: it is a byte of 0 or 1 among the
required fields, and so is the gate user a byte (the model's choice, log entry 11). -/
def queueBody (w : Wgc) : Body :=
  natBytes 1 w.gate.code ++ natBytes 1 (GateUser.code w.user) ++ flagByte w.arm ++ flagByte w.exitMark ++
    natBytes 2 w.correction ++ natBytes 3 w.wait ++ natBytes 2 w.waitLimit ++ flagByte w.rpcOn ++
    natBytes 1 w.deadband ++ natBytes 1 w.rpcStep ++ listBytes queueEntryBytes w.queue ++
    presence [w.append.isSome, w.wRef.isSome] ++
    optionalBytes (fun a : Surface × Nat => surfaceByte a.1 ++ natBytes 3 a.2) w.append ++ optionalBytes (natBytes 2) w.wRef

def mapBytes (m : ProtMap) : Body := natBytes 1 m.code ++ natBytes 1 m.side.code ++ flagByte m.complement

/-- A protected range: 0 empty, 1 a first and last block, 2 absent (log entry 11). -/
def rangeBytes (r : ProtRange) : Body :=
  match r with
  | .empty => natBytes 1 0
  | .run lo hi => natBytes 1 1 ++ natBytes 3 lo ++ natBytes 3 hi
  | .absent => natBytes 1 2

/-- SET_LOCK (R163). -/
def lockBody (p : Pu) : Body := natBytes 1 p.lock.code ++ natBytes 1 p.sense.code

/-- GET_PROTECT (R169). -/
def protectBody (s : State) : Body :=
  mapBytes s.pu.maps.t0 ++ mapBytes s.pu.maps.t1 ++ rangeBytes (s.protRange .zero) ++
    rangeBytes (s.protRange .one) ++ lockBody s.pu

def eventFlags (t : PerEvent Bool) : Body := t.toList.flatMap flagByte

/-- GET_EVENTS (R176). -/
def eventsBody (s : State) : Body :=
  eventFlags s.eu.latches ++ eventFlags s.eu.unmasked ++
    s.eu.senses.toList.flatMap (fun x => natBytes 1 x.code) ++ natBytes 1 s.eu.inhibitSense.code ++
    natBytes 1 s.eu.dropped ++ natBytes 1 s.eu.notices.length ++ natBytes 1 s.mc.noticeDepth

/-- R33: the surface and address of GET_STATUS. -/
def Pt.reported (p : Pt) : Option (Surface × Nat) :=
  match p.state with
  | .lost => none
  | .acquiring => some (p.candSurface, p.candAddress)
  | .locked => some (p.surface, p.current)

/-- GET_STATUS (R192). -/
def statusBody (s : State) : Body :=
  modeByte s.mc.mode ++ natBytes 1 s.pt.state.code ++ natBytes 1 s.wgc.gate.code ++
    natBytes 1 (GateUser.code s.wgc.user) ++ natBytes 1 s.wgc.queue.length ++ natBytes 1 s.eu.notices.length ++
    flagByte s.wgc.arm ++ natBytes 1 s.pu.sense.code ++ flagByte s.tcu.trial.isSome ++
    flagByte (s.eu.latches.toList.any id) ++ natBytes 1 s.eu.dropped ++
    presence [s.mc.request.isSome, s.pt.reported.isSome] ++ optionalBytes modeByte s.mc.request ++
    optionalBytes (fun a : Surface × Nat => surfaceByte a.1 ++ natBytes 3 a.2) s.pt.reported

/-- GET_IDENT (R200): the store state is IDLE 0, WRITING 1 or LOCKING 2, with the bank when it is busy. -/
def identBody (c : Cs) : Body :=
  let store := match c.store with
    | .idle => (0, none)
    | .writing b _ => (1, some b)
    | .locking b => (2, some b)
  natBytes 2 0x4120 ++ natBytes 1 1 ++ natBytes 8 Config.dieSerial.toNat ++
    BankNo.all.flatMap (fun b => flagByte (c.banks.get b).valid ++ flagByte (c.banks.get b).locked) ++
    natBytes 1 store.1 ++ presence [store.2.isSome, c.active.isSome] ++
    optionalBytes (fun b : BankNo => natBytes 1 b.code) store.2 ++
    optionalBytes (fun a : ActiveBank => natBytes 1 a.bank.code ++ charBytes a.record) c.active

/-- A step's entry of CAL_DONE (R195): the power, the kind of its result and the β. -/
def stepBytes (r : Nat × StepResult) : Body :=
  natBytes 3 r.1 ++ (match r.2 with
    | .beta b => natBytes 1 0 ++ intBytes 2 b
    | .invalid => natBytes 1 1 ++ intBytes 2 0
    | .unmeasured => natBytes 1 2 ++ intBytes 2 0)

/-- CAL_DONE (R195). -/
def calDoneBody (d : CalDone) : Body :=
  keyBytes d.key ++ natBytes 1 d.outcome.code ++ presence [d.reason.isSome, d.fitted.isSome] ++
    optionalBytes (fun r => natBytes 1 r.code) d.reason ++ optionalBytes (natBytes 3) d.fitted ++
    intBytes 2 d.target ++ natBytes 2 d.bias ++ natBytes 2 d.cool ++ natBytes 3 d.first ++ natBytes 1 d.written ++
    listBytes stepBytes d.steps

/-- R195: the kind byte of a notice, its place in the table of R181 counting from 1. -/
def Notice.kind : Notice → Nat
  | .modeChanged _ _ => 1
  | .segmentDone _ _ _ _ _ => 2
  | .segmentSuspended _ _ _ _ => 3
  | .segmentHalted _ _ _ _ => 4
  | .segmentRefused _ => 5
  | .queueFlushed _ => 6
  | .calDone _ => 7
  | .eventRaised _ _ => 8
  | .bankWritten _ _ => 9

/-- R181: the body of a notice. The reason of SEGMENT_REFUSED is PROTECTED, the one value of its list. -/
def Notice.body : Notice → Body
  | .modeChanged source target => modeByte source ++ modeByte target
  | .segmentDone tag done last c largest =>
    natBytes 2 tag ++ natBytes 2 done ++ natBytes 3 last ++ natBytes 2 c ++ natBytes 3 largest
  | .segmentSuspended tag next remaining why =>
    natBytes 2 tag ++ natBytes 3 next ++ natBytes 2 remaining ++ natBytes 1 why.code
  | .segmentHalted tag why done damaged =>
    natBytes 2 tag ++ natBytes 1 why.code ++ natBytes 2 done ++ presence [damaged.isSome] ++
      optionalBytes (natBytes 3) damaged
  | .segmentRefused tag => natBytes 2 tag ++ natBytes 1 0
  | .queueFlushed count => natBytes 1 count
  | .calDone d => calDoneBody d
  | .eventRaised e sense =>
    natBytes 1 e.code ++ presence [sense.isSome] ++ optionalBytes (fun x => natBytes 1 x.code) sense
  | .bankWritten b outcome => natBytes 1 b.code ++ natBytes 1 outcome.code

/-- R195: a notice record: kind, body length in two bytes, body. -/
def Notice.record (n : Notice) : Body := natBytes 1 n.kind ++ natBytes 2 n.body.length ++ n.body

/-- R195: a reply record: kind echo, status, flags with the discard count, body length in two bytes, body. -/
def Reply.record (r : Reply) (discard : Nat) : Body :=
  r.kind :: (natBytes 1 r.status.code ++ natBytes 1 (128 * r.clamped.toNat + discard) ++ natBytes 2 r.body.length ++
    r.body)

/-- R195: the NONE record. -/
def noneRecord : Body := [0, 0, 0]

end Sys2Proof.Machine
end

