-- ==== Sys2Proof/Machine/Link.lean ====
section
/-! DEFINITION. The Command Link's shared operations: the judgement of a command frame, its dispatch to the owner and the reply (R183 to R187), and the windows that read a reply or a notice (R189, R190). A window is one step (log entry 3). -/

namespace Sys2Proof.Machine

/-- What an owner answers: status, clamped flag and body (R187, R191). -/
structure Answer where
  status : Status
  clamped : Bool
  body : Body
  deriving DecidableEq, Repr

/-- An owner's handling of a dispatched command. -/
abbrev Owner := State → State × Answer

/-- An answer without a body. -/
def plain (status : Status) : Answer := { status := status, clamped := false, body := [] }

/-- The reply OK with a body. -/
def okBody (body : Body) : Answer := { status := .ok, clamped := false, body := body }

/-- A refusal: nothing changes and the body is empty (R191). -/
def refuse (status : Status) (s : State) : State × Answer := (s, plain status)

/-- A query: nothing changes and the reply is OK with its body. -/
def query (body : State → Body) : Owner := fun s => (s, okBody (body s))

/-- While a frame is received, data out carries zero bytes (R184). -/
def zeros (n : Nat) : List Byte := List.replicate n 0

/-- A window ends: the receive state is IDLE, and data out carried these bytes (R184). -/
def endWindow (carried : List Byte) (s : State) : State :=
  s.setCl { s.cl with receive := .idle, dataOut := carried }

/-- R185: a badly framed frame is discarded; LINK_ERROR is triggered and nothing else of the link changes. -/
def badFraming (bytes : Nat) (s : State) : State := finish (trigger .linkError (endWindow (zeros bytes) s))

/-- R186: a well-formed frame that finds the slot FULL or AWAITING is discarded and counted. -/
def discardFrame (bytes : Nat) (s : State) : State :=
  let t := endWindow (zeros bytes) s
  t.setCl { t.cl with discard := min 15 (t.cl.discard + 1) }

/-- R187, R193: a frame is accepted: the slot is AWAITING, the discard count 0 and the reset-enable flag clear. -/
def acceptFrame (bytes : Nat) (s : State) : State :=
  let t := endWindow (zeros bytes) s
  t.setCl { t.cl with slot := .awaiting, discard := 0, resetEnable := false }

/-- R187: the reply fills the slot. -/
def fillSlot (kind : Byte) (r : State × Answer) : State :=
  r.1.setCl { r.1.cl with
    slot := .full { kind := kind, status := r.2.status, clamped := r.2.clamped, body := r.2.body } }

/-- R187: an accepted frame is answered by its owner, or by CL with a status of its own where there is none. -/
def answerFrame (kind : Byte) (body : Body) (failing : Status) (owner : Option Owner) (s : State) : State :=
  fillSlot kind ((owner.getD (refuse failing)) (acceptFrame (2 + body.length) s))

/-- R184 to R187: a command frame whose kind byte and body these are. A window that was open when a reset ended is
ignored until select rises (R184). -/
def takeFrame (kind : Byte) (body : Body) (failing : Status) (owner : Option Owner) (s : State) : State :=
  if s.cl.receive = .blocked then endWindow (zeros (2 + body.length)) s
  else if 62 < body.length then badFraming (2 + body.length) s
  else match s.cl.slot with
    | .empty => answerFrame kind body failing owner s
    | .awaiting => discardFrame (2 + body.length) s
    | .full _ => discardFrame (2 + body.length) s

/-- A frame of a command of the index: its kind code, its body, and its owner's handling of the fields that the body
holds, none where the length is not permitted (R187). -/
def command (kind : Byte) (body : Body) (owner : Option Owner) (s : State) : Host.Outcome State Fault Refusal :=
  .next (takeFrame kind body .badLength owner s)

/-- The record a REPLY window clocks out (R189). -/
def Cl.replyRecord (c : Cl) : Body :=
  match c.slot with
  | .full r => r.record c.discard
  | .empty => noneRecord
  | .awaiting => noneRecord

/-- What data out carries after the selector for so many bytes: the record, then zero bytes (R189, R190). -/
def carries (record : Body) (bytes : Nat) : List Byte := (record ++ zeros bytes).take bytes

/-- R189: a REPLY window with this many edges after its selector. The reply is removed with its last byte. -/
def replyRead (edges : Nat) (s : State) : State :=
  let out := carries s.cl.replyRecord (edges / 8)
  if s.cl.receive = .blocked then endWindow (zeros (1 + edges / 8)) s
  else match s.cl.slot with
    | .empty => endWindow out s
    | .awaiting => endWindow out s
    | .full r =>
      if (r.record s.cl.discard).length ≤ edges / 8 then
        let t := endWindow out s
        t.setCl { t.cl with slot := .empty, discard := 0 }
      else endWindow out s

/-- R179, R190: a NOTICE window with this many edges after its selector. The notice is removed with its last byte. -/
def noticeRead (edges : Nat) (s : State) : State :=
  if s.cl.receive = .blocked then endWindow (zeros (1 + edges / 8)) s
  else match s.eu.notices with
    | [] => endWindow (carries noneRecord (edges / 8)) s
    | n :: rest =>
      let t := endWindow (carries n.record (edges / 8)) s
      if n.record.length ≤ edges / 8 then t.setEu { t.eu with notices := rest } else t

/-- R184: select rises on a window left open across a reset. In another receive state it ends no such window. -/
def blockedEnd (s : State) : State :=
  if s.cl.receive = .blocked then s.setCl { s.cl with receive := .idle } else s

end Sys2Proof.Machine
end

