-- ==== Sys2Proof/Machine/Resets.lean ====
section
/-! DEFINITION. What a reset does to every block, the choice of the active bank, the commanded reset, and the meanings of POWER_ON_RESET and RESET_LINE (R17, R168, R194, R196, chapter 12.5). -/

namespace Sys2Proof.Machine

/-- R196: the lowest-numbered bank that is both valid and locked, failing that the lowest-numbered valid bank. -/
def chooseBank (banks : Three Bank) : Option BankNo :=
  match BankNo.all.find? (fun b => (banks.get b).valid && (banks.get b).locked) with
  | some b => some b
  | none => BankNo.all.find? (fun b => (banks.get b).valid)

/-- R196: CS after a reset: the banks are kept, the store is IDLE and the active bank is chosen. A bank that was
being written was not valid from the start of the write, and is passed over (R197); the record it then holds is the
model's choice (log entry 1). -/
def Cs.afterReset (c : Cs) : Cs :=
  { banks := c.banks
    active := (chooseBank c.banks).map (fun b => { bank := b, record := (c.banks.get b).record })
    store := .idle }

/-- R168: PU after a commanded reset: a POWER lock and its maps are kept. -/
def Pu.afterCommanded (p : Pu) (line : Inhibit) : Pu :=
  if p.lock = .power then { p with sense := line } else Pu.afterReset line

/-- A reset as every block takes it: each stands at its reset values, and LDU takes the chosen bank as a change of
bank (R73, R196). The lines, the free values and the queue of commands are not the part's to reset. -/
def resetBlocks (pu : Pu) (lines : Lines) (selectLow : Bool) (s : State) : State :=
  bankChange
    { s with
      mc := Mc.afterReset
      pt := Pt.afterReset
      mon := Mon.afterReset
      ldu := Ldu.afterReset
      ct := Ct.afterReset
      tcu := Tcu.afterReset
      wsg := Wsg.afterReset
      wgc := Wgc.afterReset
      pu := pu
      eu := Eu.afterReset lines.inhibit
      cl := Cl.afterReset selectLow
      cs := s.cs.afterReset
      lines := lines }

/-- A power-on reset or the reset line, with the line levels at its end (R168, R183). -/
def hardReset (l : ResetLines) (s : State) : State :=
  resetBlocks (Pu.afterReset l.inhibit) { inhibit := l.inhibit, encoderReady := l.encoderReady } l.selectLow s

/-- R193: the commanded reset, taken as select rises. -/
def commandedReset (s : State) : State := resetBlocks (s.pu.afterCommanded s.lines.inhibit) s.lines false s

/-- POWER_ON_RESET (R17). -/
def execPowerOnReset (l : ResetLines) (s : State) : Host.Outcome State Fault Refusal := .next (hardReset l s)

/-- RESET_LINE (R17): as a power-on reset. -/
def execResetLine (l : ResetLines) (s : State) : Host.Outcome State Fault Refusal := .next (hardReset l s)

end Sys2Proof.Machine
end

