-- ==== Sys2Proof/Machine/CalCommands.lean ====
section
/-! DEFINITION. The meanings of the commands the Calibration Table owns: the disc, the zones, the records and the stale span (R75, R77, R78, R80 to R82, R90). -/

namespace Sys2Proof.Machine

/-- R75: the disc record of SET_DISC, none when a value lies outside its range. -/
def discOf (f : DiscFields) : Option Disc :=
  match nameAt Media.all f.media, nameAt [false, true] (f.surfaces - 1) with
  | some m, some dual =>
    if 1 ≤ f.surfaces ∧ inRange 1024 1048576 f.blocks = true then
      some { media := m, dual := dual, blocks := f.blocks }
    else none
  | _, _ => none

/-- SET_DISC (R75): every surface the disc has receives default starts. In STANDBY R75 gives its two refusals in no
order: with a disc already set and a field out of range the reply is BUSY (the model's choice, log entry 18). -/
def setDisc (f : DiscFields) : Owner := fun s =>
  if s.mc.mode ≠ .standby then refuse .wrongMode s
  else if s.ct.disc.isSome then refuse .busy s
  else match discOf f with
    | none => refuse .badValue s
    | some d =>
      let starts := defaultStarts d.blocks
      (s.setCt { s.ct with
          disc := some d
          zones := { t0 := some starts, t1 := if d.dual then some starts else none } },
        okBody (discBody d))

def execSetDisc (body : Body) (s : State) : Host.Outcome State Fault Refusal :=
  command 12 body ((readDisc body).map setDisc) s

/-- R77: the starts begin at 0, strictly ascend and end below surface_blocks. -/
def startsGood (t : Eight Nat) (blocks : Nat) : Bool :=
  decide (t.t0 = 0) && decide (t.t0 < t.t1) && decide (t.t1 < t.t2) && decide (t.t2 < t.t3) &&
    decide (t.t3 < t.t4) && decide (t.t4 < t.t5) && decide (t.t5 < t.t6) && decide (t.t6 < t.t7) &&
    decide (t.t7 < blocks)

/-- The number of usable records of a surface (R77). -/
def Ct.usableCount (c : Ct) (f : Surface) : Nat :=
  (((c.records.get f).toList.flatMap Eight.toList).filter (fun r => r.usable.isSome)).length

/-- SET_ZONES (R77): changed starts make every record of the surface EMPTY. -/
def setZones (f : ZoneFields) : Owner := fun s =>
  if s.mc.mode ≠ .standby ∨ s.ct.disc = none then refuse .wrongMode s
  else match nameAt Surface.all f.surface with
    | none => refuse .badValue s
    | some g =>
      if s.ct.hasSurface g && startsGood f.starts s.ct.blocks then
        if s.ct.zones.get g = some f.starts then (s, okBody (natBytes 1 0))
        else
          (s.setCt { s.ct with
              zones := s.ct.zones.put g (some f.starts), records := s.ct.records.put g Ct.blankRecords },
            okBody (natBytes 1 (s.ct.usableCount g)))
      else refuse .badValue s

def execSetZones (body : Body) (s : State) : Host.Outcome State Fault Refusal :=
  command 13 body ((readZones body).map setZones) s

/-- DISC_UNLOAD (R78) with what it clears in TCU, WSG, WGC and PU (R95, R120, R129, R164). -/
def discUnload : Owner := fun s =>
  if s.mc.mode ≠ .standby then refuse .wrongMode s
  else
    (((((s.setCt { s.ct with disc := none, zones := Two.fill none, records := Two.fill Ct.blankRecords }).setTcu
          { s.tcu with areas := Two.fill none }).setWsg
          { s.wsg with entries := Wsg.blankEntries }).setWgc
          { s.wgc with append := none }).setPu s.pu.unload,
      plain .ok)

def execDiscUnload (body : Body) (s : State) : Host.Outcome State Fault Refusal :=
  command 14 body ((readNothing body).map (fun _ => discUnload)) s

/-- R80: a key whose surface the disc has. -/
def keyOf (c : Ct) (f : KeyFields) : Option CalKey :=
  match nameAt Surface.all f.surface, nameAt Speed.all f.speed with
  | some g, some v =>
    if h : f.zone < 8 then
      if c.hasSurface g then some { surface := g, speed := v, zone := ⟨f.zone, h⟩ } else none
    else none
  | _, _ => none

/-- R80, check 1: the modes in which the host may change records. -/
def Mode.takesRecords : Mode → Bool
  | .standby | .read | .record | .selftest => true
  | .configure | .fault => false

/-- R80: checks 1 to 4, which INVALIDATE_CAL shares (R81). -/
def recordCheck (f : KeyFields) (s : State) : Except Status CalKey :=
  if Mode.takesRecords s.mc.mode = false then .error .wrongMode
  else if s.ct.disc = none then .error .wrongMode
  else match keyOf s.ct f with
    | none => .error .badValue
    | some k => if (s.ct.record k).state = .trial then .error .busy else .ok k

/-- PUT_CAL (R80): the record is written whole, with source HOST and the temperature of the moment. -/
def putCal (f : PutCalFields) : Owner := fun s =>
  match recordCheck f.key s with
  | .error why => refuse why s
  | .ok k =>
    if decide (f.bias ≤ 1000) && decide (f.cool ≤ 1000) && inRangeInt (-200) 200 f.target then
      let p := clampNat 1000 80000 f.peak
      let x : CalFields :=
        { peak := p, bias := f.bias, cool := f.cool, target := f.target, calTemp := s.temperature, source := .host }
      (s.setCt (s.ct.putRecord k { state := .valid, fields := some x }),
        { status := .ok, clamped := decide (p ≠ f.peak), body := calFieldBytes .valid x })
    else refuse .badValue s

def execPutCal (body : Body) (s : State) : Host.Outcome State Fault Refusal :=
  command 15 body ((readPutCal body).map putCal) s

/-- INVALIDATE_CAL (R81). -/
def invalidateCal (f : KeyFields) : Owner := fun s =>
  match recordCheck f s with
  | .error why => refuse why s
  | .ok k =>
    (s.setCt (s.ct.putRecord k CalRecord.blank), okBody (natBytes 1 (s.ct.record k).state.code))

def execInvalidateCal (body : Body) (s : State) : Host.Outcome State Fault Refusal :=
  command 16 body ((readKey body).map invalidateCal) s

/-- GET_CAL (R82): the single form where the zone is present, the list form otherwise. -/
def getCal (f : GetCalFields) : Owner := fun s =>
  match nameAt Surface.all f.surface, nameAt Speed.all f.speed with
  | some g, some v =>
    match f.zone with
    | none => (s, okBody (calListBody s.ct g v))
    | some z =>
      if h : z < 8 then (s, okBody (calRecordBody (s.ct.record { surface := g, speed := v, zone := ⟨z, h⟩ })))
      else refuse .badValue s
  | _, _ => refuse .badValue s

def execGetCal (body : Body) (s : State) : Host.Outcome State Fault Refusal :=
  command 17 body ((readGetCal body).map getCal) s

/-- SET_STALE_SPAN (R90): no record is judged at once. -/
def setStaleSpan (span : Nat) : Owner := fun s =>
  let x := clampNat 10 600 span
  (s.setCt { s.ct with staleSpan := x }, { status := .ok, clamped := decide (x ≠ span), body := natBytes 2 x })

def execSetStaleSpan (body : Body) (s : State) : Host.Outcome State Fault Refusal :=
  command 18 body ((readNat 2 body).map setStaleSpan) s

end Sys2Proof.Machine
end

