-- ==== Sys2Proof/Machine/MonitorCommands.lean ====
section
/-! DEFINITION. The meanings of the commands the Monitor Converter owns (R36, R37, R39, R40, R42, R46). -/

namespace Sys2Proof.Machine

/-- The values that a list of bytes names, none when one byte names nothing. -/
def namesOf {α : Type} (names : List α) : List Nat → Option (List α)
  | [] => some []
  | k :: rest =>
    match nameAt names k, namesOf names rest with
    | some x, some xs => some (x :: xs)
    | _, _ => none

/-- SET_SCAN (R36). -/
def setScan (l : List Nat) : Owner := fun s =>
  if s.mon.scanState ≠ .stopped then refuse .busy s
  else if inRange 1 8 l.length = false then refuse .badValue s
  else match namesOf Channel.all l with
    | none => refuse .badValue s
    | some channels => (s.setMon { s.mon with scanList := channels, position := 0 }, plain .ok)

def execSetScan (body : Body) (s : State) : Host.Outcome State Fault Refusal :=
  command 3 body ((readNames body).map setScan) s

/-- START_SCAN (R37). -/
def startScan : Owner := fun s =>
  match s.mon.scanState with
  | .running => (s, plain .ok)
  | .stopping => refuse .busy s
  | .stopped =>
    if s.mon.scanList = [] then refuse .badValue s
    else (s.setMon { s.mon with scanState := .running, position := 0 }, plain .ok)

def execStartScan (body : Body) (s : State) : Host.Outcome State Fault Refusal :=
  command 4 body ((readNothing body).map (fun _ => startScan)) s

/-- R39: what the recording path still needs the scan for. -/
def State.scanNeeded (s : State) : Bool :=
  decide (s.wgc.gate ≠ .idle) || !s.wgc.queue.isEmpty || s.wgc.arm

/-- STOP_SCAN (R39). -/
def stopScan : Owner := fun s =>
  if s.mon.scanState ≠ .running then (s, plain .ok)
  else if s.scanNeeded then refuse .busy s
  else (s.setMon { s.mon with scanState := .stopping }, plain .ok)

def execStopScan (body : Body) (s : State) : Host.Outcome State Fault Refusal :=
  command 5 body ((readNothing body).map (fun _ => stopScan)) s

/-- SET_OFFSET (R40): a magnitude above 31 is clamped. -/
def setOffset (f : OffsetFields) : Owner := fun s =>
  if s.mon.scanState ≠ .stopped then refuse .busy s
  else match nameAt Channel.all f.channel, nameAt Sign.all f.sign with
    | some c, some sign =>
      let m := min 31 f.magnitude
      (s.setMon { s.mon with offsets := s.mon.offsets.put c.index { sign := sign, magnitude := m } },
        { status := .ok, clamped := decide (m ≠ f.magnitude), body := natBytes 1 m })
    | _, _ => refuse .badValue s

def execSetOffset (body : Body) (s : State) : Host.Outcome State Fault Refusal :=
  command 6 body ((readOffset body).map setOffset) s

/-- SET_WINDOW (R42): the window is replaced, and the sense stands. -/
def setWindow (f : WindowFields) : Owner := fun s =>
  match nameAt Channel.all f.channel, flagOf f.enable with
  | some c, some on =>
    if f.high ≤ 4095 ∧ f.low ≤ f.high then
      (s.setMon { s.mon with windows := s.mon.windows.put c.index { low := f.low, high := f.high, enabled := on } },
        plain .ok)
    else refuse .badValue s
  | _, _ => refuse .badValue s

def execSetWindow (body : Body) (s : State) : Host.Outcome State Fault Refusal :=
  command 7 body ((readWindow body).map setWindow) s

/-- GET_SAMPLES (R46). -/
def execGetSamples (body : Body) (s : State) : Host.Outcome State Fault Refusal :=
  command 8 body ((readNothing body).map (fun _ => query (fun s => samplesBody s.mon))) s

end Sys2Proof.Machine
end

