-- ==== Sys2Proof/Machine/EventCommands.lean ====
section
/-! DEFINITION. The meanings of the commands the Event Unit owns (R174 to R176). -/

namespace Sys2Proof.Machine

/-- The entries of SET_MASK as events and settings, none where one names nothing (R174). -/
def maskEntries : List MaskFields → Option (List (Event × Bool))
  | [] => some []
  | f :: rest =>
    match nameAt Event.all f.event, flagOf f.setting, maskEntries rest with
    | some e, some on, some xs => some ((e, on) :: xs)
    | _, _, _ => none

/-- R174: whether an entry generates a notice: it moves an event whose latch is set from MASKED to UNMASKED. -/
def Eu.announces (u : Eu) (x : Event × Bool) : Bool := x.2 && !u.unmasked.get x.1 && u.latches.get x.1

/-- R174: one entry of SET_MASK. -/
def Eu.setMask (u : Eu) (x : Event × Bool) : Eu :=
  let v := { u with unmasked := u.unmasked.put x.1 x.2 }
  if u.announces x then v.post .setMask (.eventRaised x.1 (u.senseOf x.1)) else v

/-- SET_MASK (R174): the notices join in the order of the entries, and the reply counts those generated by entries
whose latch was set before the command. A drop of the command's own notices sets NOTICE_OVERFLOW after that: the notice
it raises is not counted, and no entry sees the latch it sets (the model's choice, log entry 20). -/
def setMask (l : List MaskFields) : Owner := fun s =>
  if inRange 1 18 l.length = false then refuse .badValue s
  else match maskEntries l with
    | none => refuse .badValue s
    | some xs =>
      if (xs.map Prod.fst).Nodup then
        let t := finish (s.setEu (xs.foldl Eu.setMask s.eu))
        (t, okBody (eventFlags t.eu.unmasked ++ natBytes 1 (xs.filter s.eu.announces).length))
      else refuse .badValue s

def execSetMask (body : Body) (s : State) : Host.Outcome State Fault Refusal :=
  command 38 body ((readMasks body).map setMask) s

/-- R175: the named latches become clear, and with NOTICE_OVERFLOW the dropped count. -/
def Eu.clear (u : Eu) (l : List Event) : Eu :=
  { u with
    latches := l.foldl (fun t e => t.put e false) u.latches
    dropped := if l.contains .noticeOverflow then 0 else u.dropped }

/-- CLEAR_EVENTS (R175). -/
def clearEvents (l : List Nat) : Owner := fun s =>
  if inRange 1 18 l.length = false then refuse .badValue s
  else match namesOf Event.all l with
    | none => refuse .badValue s
    | some events =>
      let u := s.eu.clear events
      (s.setEu u, okBody (eventFlags u.latches ++ natBytes 1 u.dropped))

def execClearEvents (body : Body) (s : State) : Host.Outcome State Fault Refusal :=
  command 39 body ((readNames body).map clearEvents) s

/-- GET_EVENTS (R176). -/
def execGetEvents (body : Body) (s : State) : Host.Outcome State Fault Refusal :=
  command 40 body ((readNothing body).map (fun _ => query eventsBody)) s

end Sys2Proof.Machine
end

