-- ==== Sys2Proof/Machine/LaserCommands.lean ====
section
/-! DEFINITION. The meanings of the commands the Laser Drive Unit owns (R67, R70, R71). -/

namespace Sys2Proof.Machine

/-- SET_READ_POWER (R70): the power is held to 100 to max_read of the active bank. R70 gives its two refusals in no
order: with no active bank and a surface that is neither 0 nor 1 the reply is WRONG_MODE (the model's choice, log entry
18). -/
def setReadPower (f : ReadPowerFields) : Owner := fun s =>
  match s.cs.characterization with
  | none => refuse .wrongMode s
  | some r =>
    match nameAt Surface.all f.surface with
    | none => refuse .badValue s
    | some g =>
      let p := clampNat 100 r.maxRead f.power
      (finish (recompute (s.setLdu { s.ldu with readPower := s.ldu.readPower.put g p })),
        { status := .ok, clamped := decide (p ≠ f.power), body := surfaceByte g ++ natBytes 2 p })

def execSetReadPower (body : Body) (s : State) : Host.Outcome State Fault Refusal :=
  command 9 body ((readReadPower body).map setReadPower) s

/-- SET_APC (R67). -/
def setApc (enable : Nat) : Owner := fun s =>
  match flagOf enable with
  | none => refuse .badValue s
  | some on => (s.setLdu { s.ldu with apcOn := on }, plain .ok)

def execSetApc (body : Body) (s : State) : Host.Outcome State Fault Refusal :=
  command 10 body ((readNat 1 body).map setApc) s

/-- GET_LASER (R71). -/
def execGetLaser (body : Body) (s : State) : Host.Outcome State Fault Refusal :=
  command 11 body ((readNothing body).map (fun _ => query laserBody)) s

end Sys2Proof.Machine
end

