-- ==== Sys2Proof/Machine/ModeCommands.lean ====
section
/-! DEFINITION. The meanings of the commands the Mode Controller owns: REQUEST_MODE and SET_POOL (R4 to R9, R16). -/

namespace Sys2Proof.Machine

/-- R6: the self-test values of a request, none when a field lies outside its range. -/
def selfTestOf (c : Ct) (f : Option SelfTestFields) : Option SelfTest :=
  match f with
  | none => some SelfTest.usual
  | some x =>
    match nameAt Surface.all x.surface with
    | none => none
    | some g =>
      if decide (x.start < c.blocks) && c.hasSurface g && inRange 100 10000 x.interval then
        some { start := x.start, surface := g, interval := x.interval }
      else none

/-- R7, R8: a request that passes every check completes at once or becomes the pending request. -/
def grantMode (target : Mode) (g : SelfTest) (s : State) : State :=
  finish (if deferred s.mc.mode target then requestExit target s else changeMode target g s)

/-- R4: the checks in order, and what becomes of the request. -/
def judgeMode (f : ModeFields) (s : State) : State × Status :=
  match nameAt Mode.all f.target with
  | none => (s, .badValue)
  | some target =>
    if f.selfTest.isSome ∧ target ≠ .selftest then (s, .badValue)
    else if target = .fault then (s, .wrongMode)
    else if target = s.mc.mode then (withdrawExit s, .ok)
    else if legalTarget s.mc.mode target = false then (s, .wrongMode)
    else if s.targetReady target = false then (s, .wrongMode)
    else match selfTestOf s.ct f.selfTest with
      | none => (s, .badValue)
      | some g => (grantMode target g s, .pending)

/-- REQUEST_MODE: the reply body holds the mode and the pending target as they stand afterwards (R4). -/
def requestMode (f : ModeFields) : Owner := fun s =>
  let r := judgeMode f s
  (r.1, { status := r.2, clamped := false, body := modeBody r.1 })

def execRequestMode (body : Body) (s : State) : Host.Outcome State Fault Refusal :=
  command 1 body ((readMode body).map requestMode) s

/-- SET_POOL (R16): the two depths are set and both queues emptied. -/
def setPool (depth : Nat) : Owner := fun s =>
  if s.mc.mode ≠ .configure then refuse .wrongMode s
  else if inRange 2 32 depth = false then refuse .badValue s
  else
    (((s.setMc { s.mc with segDepth := depth }).setWgc { s.wgc with queue := [] }).setEu { s.eu with notices := [] },
      okBody (natBytes 1 depth ++ natBytes 1 (40 - depth) ++ natBytes 1 s.eu.notices.length))

def execSetPool (body : Body) (s : State) : Host.Outcome State Fault Refusal :=
  command 2 body ((readNat 1 body).map setPool) s

end Sys2Proof.Machine
end

