-- ==== Sys2Proof/Machine/ProtectCommands.lean ====
section
/-! DEFINITION. The meanings of the commands the Protection Unit owns and of the record-inhibit line (R161, R163, R166, R169). -/

namespace Sys2Proof.Machine

/-- R161, check 1: the modes in which maps may be changed. -/
def Mode.takesMaps : Mode → Bool
  | .standby | .read | .record => true
  | .configure | .selftest | .fault => false

/-- R161, check 2: the map of SET_PROTECT and its surface, none where a field names nothing. -/
def mapOf (f : ProtectFields) : Option (Surface × ProtMap) :=
  match nameAt Surface.all f.surface, nameAt Side.all f.side, flagOf f.complement with
  | some g, some side, some c =>
    if f.code ≤ 7 then some (g, { code := f.code, side := side, complement := c }) else none
  | _, _, _ => none

/-- SET_PROTECT (R161). -/
def setProtect (f : ProtectFields) : Owner := fun s =>
  if Mode.takesMaps s.mc.mode = false then refuse .wrongMode s
  else match mapOf f with
    | none => refuse .badValue s
    | some (g, m) =>
      if s.pu.permitsChange = false then refuse .locked s
      else if s.wgc.gate ≠ .idle then refuse .busy s
      else
        let t := s.setPu { s.pu with maps := s.pu.maps.put g m }
        (t, okBody (surfaceByte g ++ mapBytes m ++ rangeBytes (t.protRange g)))

def execSetProtect (body : Body) (s : State) : Host.Outcome State Fault Refusal :=
  command 35 body ((readProtect body).map setProtect) s

/-- R163: whether the lock may become the one requested. -/
def Pu.lockMay (p : Pu) (l : Lock) : Bool :=
  decide (p.lock.code ≤ l.code) || (decide (p.lock = .line) && decide (l = .opened) && decide (p.sense = .released))

/-- SET_LOCK (R163): the reply body holds the lock and the sense on acceptance and on refusal alike. -/
def setLock (v : Nat) : Owner := fun s =>
  match nameAt Lock.all v with
  | none => (s, { status := .badValue, clamped := false, body := lockBody s.pu })
  | some l =>
    if s.pu.lockMay l then
      let t := s.setPu { s.pu with lock := l }
      (t, okBody (lockBody t.pu))
    else (s, { status := .locked, clamped := false, body := lockBody s.pu })

def execSetLock (body : Body) (s : State) : Host.Outcome State Fault Refusal :=
  command 36 body ((readNat 1 body).map setLock) s

/-- GET_PROTECT (R169). -/
def execGetProtect (body : Body) (s : State) : Host.Outcome State Fault Refusal :=
  command 37 body ((readNothing body).map (fun _ => query protectBody)) s

/-- R166: PU takes a change of the line: both senses, the event, and the reports to WGC and TCU. A release is
reported too, and changes nothing there (R132, R144, R110). -/
def lineChanged (level : Inhibit) (s : State) : State :=
  let t := ((s.setLines { s.lines with inhibit := level }).setPu { s.pu with sense := level }).setEu
    { s.eu with inhibitSense := level }
  let u := trigger .inhibitChanged t
  finish (if level = .asserted then tcuInhibit (wgcInhibit u) else u)

/-- INHIBIT_LINE_CHANGE (R166), in every mode. A level the line already has is no change. -/
def execInhibitLineChange (level : Inhibit) (s : State) : Host.Outcome State Fault Refusal :=
  .next (if s.lines.inhibit = level then s else lineChanged level s)

end Sys2Proof.Machine
end

