-- ==== Sys2Proof/Machine/SegmentCommands.lean ====
section
/-! DEFINITION. The meanings of the commands the Write Gate Controller owns (R131 to R134, R143, R147 to R149, R152, R157). -/

namespace Sys2Proof.Machine

/-- ARM (R131): the reply shows the latch as it stands afterwards, on acceptance and on refusal. -/
def arm : Owner := fun s =>
  let refuseWith (why : Status) : State × Answer :=
    (s, { status := why, clamped := false, body := flagByte s.wgc.arm })
  if s.mc.mode.mayWrite = false then refuseWith .wrongMode
  else if s.pu.sense = .asserted then refuseWith .inhibited
  else if s.mon.serves [.terr, .rsum] = false then refuseWith .scanRequired
  else (s.setWgc { s.wgc with arm := true }, okBody (flagByte true))

def execArm (body : Body) (s : State) : Host.Outcome State Fault Refusal :=
  command 26 body ((readNothing body).map (fun _ => arm)) s

/-- DISARM (R131). -/
def disarm : Owner := fun s => (s.setWgc { s.wgc with arm := false }, okBody (flagByte false))

def execDisarm (body : Body) (s : State) : Host.Outcome State Fault Refusal :=
  command 27 body ((readNothing body).map (fun _ => disarm)) s

/-- R133: the start of an APPEND segment, from the tail of the queue or from the append point. -/
def Wgc.derivedStart (w : Wgc) (f : Surface) : Option Nat :=
  match w.queue.getLast? with
  | some g => if g.surface = f then some (g.last + 1) else none
  | none =>
    match w.append with
    | some (h, b) => if h = f then some (b + 1) else none
    | none => none

/-- R133, R134 check 2: the start, by the link. -/
def Wgc.startFor (w : Wgc) (link : SegLink) (f : Surface) (given : Option Nat) : Option Nat :=
  match link, given with
  | .fresh, some a => some a
  | .fresh, none => none
  | .append, some _ => none
  | .append, none => w.derivedStart f

/-- R134, check 2: the segment as it joins the queue, none where the check fails. -/
def segmentOf (f : SegmentFields) (s : State) : Option Segment :=
  match nameAt Surface.all f.surface, nameAt SegLink.all f.link with
  | some g, some l =>
    match s.wgc.startFor l g f.start with
    | none => none
    | some a =>
      if s.ct.hasSurface g && inRange 1 256 f.count && decide (a + f.count - 1 < s.ct.blocks) then
        some { tag := f.tag, surface := g, link := l, start := a, count := f.count, done := 0, state := .queued,
               reason := none, damaged := none, largest := 0, limitMark := false }
      else none
  | _, _ => none

/-- R134: the segment joins the tail with the latch cleared, and proceeds if it is now the head. -/
def enqueue (g : Segment) (s : State) : State :=
  let t := s.setWgc { s.wgc with arm := false, queue := s.wgc.queue ++ [g] }
  if s.wgc.queue = [] then newHead t else t

/-- The state of the segment at the tail of the queue. -/
def Wgc.tailState (w : Wgc) : SegState :=
  match w.queue.getLast? with
  | none => .queued
  | some g => g.state

/-- SEGMENT (R134). -/
def segment (f : SegmentFields) : Owner := fun s =>
  if s.mc.mode.mayWrite = false then refuse .wrongMode s
  else match segmentOf f s with
    | none => refuse .badValue s
    | some g =>
      if s.mc.segDepth ≤ s.wgc.queue.length then refuse .full s
      else if s.wgc.arm = false then refuse .notArmed s
      else if s.pu.sense = .asserted then refuse .inhibited s
      else if s.runProtected g.surface g.start g.last then
        (s.setWgc { s.wgc with arm := false }, plain .isProtected)
      else
        let t := enqueue g s
        (conclude t,
          okBody (natBytes 2 g.tag ++ surfaceByte g.surface ++ natBytes 3 g.start ++ natBytes 3 g.last ++
            natBytes 1 (s.wgc.queue.length + 1) ++ natBytes 1 t.wgc.tailState.code))

def execSegment (body : Body) (s : State) : Host.Outcome State Fault Refusal :=
  command 28 body ((readSegment body).map segment) s

/-- PAUSE (R143): the reply gives the tag and the head's state after the command. -/
def pause : Owner := fun s =>
  match s.wgc.queue with
  | [] => refuse .nothingPending s
  | g :: _ =>
    let t := pauseHead .command s
    let after := match t.wgc.queue with
      | [] => g.state
      | h :: _ => h.state
    (conclude t, okBody (natBytes 2 g.tag ++ natBytes 1 after.code))

def execPause (body : Body) (s : State) : Host.Outcome State Fault Refusal :=
  command 29 body ((readNothing body).map (fun _ => pause)) s

/-- R147, R137: the head is continued: its reason and damaged block are removed, and it proceeds. -/
def continueStopped (s : State) : State :=
  newHead (s.setWgc (s.wgc.mapHead (fun h => { h with state := .queued, reason := none, damaged := none })))

/-- R148: on write-once media the damaged block counts as done, and the append point becomes that block. -/
def countDamaged (a : Nat) (s : State) : State :=
  match s.wgc.queue with
  | [] => s
  | g :: _ =>
    s.setWgc { s.wgc.mapHead (fun h => { h with done := h.done + 1 }) with append := some (g.surface, a) }

/-- The media type of the set disc is WRITE_ONCE (R74). -/
def Ct.writeOnce (c : Ct) : Bool :=
  match c.disc with
  | none => false
  | some d => decide (d.media = .writeOnce)

/-- R148: a HALTED head is continued with the latch cleared. The reply names the restart block, and whether counting
the damaged block completed the segment. -/
def resumeHalted (g : Segment) (s : State) : State × Answer :=
  let t := s.setWgc { s.wgc with arm := false }
  let answer (restart : Nat) (complete : Bool) : Answer :=
    okBody (natBytes 2 g.tag ++ natBytes 3 restart ++ flagByte complete)
  match g.damaged with
  | none => (continueStopped t, answer g.next false)
  | some a =>
    if s.ct.writeOnce then
      let u := countDamaged a t
      if g.done + 1 = g.count then (newHead (completeHead u), answer (a + 1) true)
      else (continueStopped u, answer (a + 1) false)
    else (continueStopped t, answer a false)

/-- RESUME (R147). -/
def resume : Owner := fun s =>
  if s.mc.mode.mayWrite = false then refuse .wrongMode s
  else match s.wgc.queue with
    | [] => refuse .nothingPending s
    | g :: _ =>
      if g.state ≠ .suspended ∧ g.state ≠ .halted then refuse .nothingPending s
      else if s.wgc.user = some .trial then refuse .busy s
      else if s.wgc.exitMark then refuse .busy s
      else if g.state = .suspended then
        (conclude (continueStopped s), okBody (natBytes 2 g.tag ++ natBytes 3 g.next))
      else if s.wgc.arm = false then refuse .notArmed s
      else
        let r := resumeHalted g s
        (conclude r.1, r.2)

def execResume (body : Body) (s : State) : Host.Outcome State Fault Refusal :=
  command 30 body ((readNothing body).map (fun _ => resume)) s

/-- R149: the head is removed; a block it was writing is cut, and a WAITING head gives up the gate. -/
def abortHead (g : Segment) (s : State) : State :=
  let cut := g.state.writes
  let shut := if cut then clearReturns (shutGate none s) else if g.state = .waiting then shutGate none s else s
  newHead (post .wgc (.segmentHalted g.tag .aborted g.done (if cut then some g.next else none)) (dropHead shut))

/-- ABORT_SEGMENT (R149). -/
def abortSegment : Owner := fun s =>
  match s.wgc.queue with
  | [] => refuse .nothingPending s
  | g :: _ =>
    let damaged := if g.state.writes then some g.next else none
    (conclude (abortHead g s),
      okBody (natBytes 2 g.tag ++ natBytes 2 g.done ++ presence [damaged.isSome] ++
        optionalBytes (natBytes 3) damaged))

def execAbortSegment (body : Body) (s : State) : Host.Outcome State Fault Refusal :=
  command 31 body ((readNothing body).map (fun _ => abortSegment)) s

/-- SET_RPC (R152): deadband and step are clamped. -/
def setRpc (f : RpcFields) : Owner := fun s =>
  match flagOf f.enable with
  | none => refuse .badValue s
  | some on =>
    let d := min 100 f.deadband
    let k := clampNat 1 20 f.step
    (s.setWgc { s.wgc with rpcOn := on, deadband := d, rpcStep := k },
      { status := .ok, clamped := decide (d ≠ f.deadband) || decide (k ≠ f.step)
        body := flagByte on ++ natBytes 1 d ++ natBytes 1 k })

def execSetRpc (body : Body) (s : State) : Host.Outcome State Fault Refusal :=
  command 32 body ((readRpc body).map setRpc) s

/-- SET_WAIT_LIMIT (R157). -/
def setWaitLimit (n : Nat) : Owner := fun s =>
  if inRange 16 65535 n then (s.setWgc { s.wgc with waitLimit := n }, plain .ok) else refuse .badValue s

def execSetWaitLimit (body : Body) (s : State) : Host.Outcome State Fault Refusal :=
  command 33 body ((readNat 2 body).map setWaitLimit) s

/-- GET_QUEUE (R157). -/
def execGetQueue (body : Body) (s : State) : Host.Outcome State Fault Refusal :=
  command 34 body ((readNothing body).map (fun _ => query (fun s => queueBody s.wgc))) s

end Sys2Proof.Machine
end

