-- ==== Sys2Proof/Machine/StoreCommands.lean ====
section
/-! DEFINITION. The meanings of the commands and completions of the Characterization Store (R197 to R200). -/

namespace Sys2Proof.Machine

/-- R197, check 2: each field lies within its range (the table of chapter 12.1). -/
def recordGood (r : CharRecord) : Bool :=
  inRange 5000 100000 r.ith0 && inRange 200 3000 r.eta0 && inRangeInt (-200) 800 r.t0 && inRange 0 2000 r.kI &&
    inRange 0 50 r.kEta && inRange 20000 204750 r.imax && inRange 10 2000 r.fmonGain && inRange 300 2000 r.maxRead

/-- WRITE_BANK (R197): the valid mark is cleared and the write begins. Until a completion the bank holds the record of
before, also when a reset cuts the write (the model's choice, log entry 1). -/
def writeBank (f : BankFields) : Owner := fun s =>
  if s.mc.mode ≠ .configure then refuse .wrongMode s
  else match nameAt BankNo.all f.bank with
    | none => refuse .badValue s
    | some b =>
      if recordGood f.record = false then refuse .badValue s
      else if s.cs.store ≠ .idle then refuse .busy s
      else if (s.cs.banks.get b).locked then refuse .storeLocked s
      else
        (s.setCs { s.cs with
            banks := s.cs.banks.put b { (s.cs.banks.get b) with valid := false }
            store := .writing b f.record },
          plain .pending)

def execWriteBank (body : Body) (s : State) : Host.Outcome State Fault Refusal :=
  command 44 body ((readBank body).map writeBank) s

/-- LOCK_BANK (R198). -/
def lockBank (n : Nat) : Owner := fun s =>
  if s.mc.mode ≠ .configure then refuse .wrongMode s
  else match nameAt BankNo.all n with
    | none => refuse .badValue s
    | some b =>
      if s.cs.store ≠ .idle then refuse .busy s
      else if (s.cs.banks.get b).locked then refuse .storeLocked s
      else if (s.cs.banks.get b).valid = false then refuse .badValue s
      else (s.setCs { s.cs with store := .locking b }, plain .pending)

def execLockBank (body : Body) (s : State) : Host.Outcome State Fault Refusal :=
  command 45 body ((readNat 1 body).map lockBank) s

/-- R199: the bank that is being written. -/
def StoreState.writes (x : StoreState) (b : BankNo) : Bool :=
  match x with
  | .idle => false
  | .writing a _ => decide (a = b)
  | .locking _ => false

/-- SELECT_BANK (R199): a change of bank for LDU even when the bank is already active (R73). -/
def selectBank (n : Nat) : Owner := fun s =>
  if s.mc.mode ≠ .configure then refuse .wrongMode s
  else match nameAt BankNo.all n with
    | none => refuse .badValue s
    | some b =>
      if s.cs.store.writes b then refuse .busy s
      else if (s.cs.banks.get b).valid = false then refuse .badValue s
      else
        (finish (bankChange (s.setCs { s.cs with
            active := some { bank := b, record := (s.cs.banks.get b).record } })),
          okBody (natBytes 1 b.code))

def execSelectBank (body : Body) (s : State) : Host.Outcome State Fault Refusal :=
  command 46 body ((readNat 1 body).map selectBank) s

/-- GET_IDENT (R200). -/
def execGetIdent (body : Body) (s : State) : Host.Outcome State Fault Refusal :=
  command 47 body ((readNothing body).map (fun _ => query (fun s => identBody s.cs))) s

/-- The active bank is this one. -/
def Cs.isActive (c : Cs) (b : BankNo) : Bool :=
  match c.active with
  | none => false
  | some a => decide (a.bank = b)

/-- R73, R197: the active bank is none after a failed write. Whether Ioff and the clamp mark are cleared is left open
(log entry 9). -/
def bankLost (s : State) : State :=
  recompute (if Config.failedWriteClearsTrim then s.setLdu { s.ldu with ioff := 0, clampMark := false } else s)

/-- R197: the write ends: WRITTEN when the read-back equals the record, FAILED when it does not. -/
def writeEnds (b : BankNo) (record readBack : CharRecord) (s : State) : State :=
  let ok := decide (readBack = record)
  let was := s.cs.isActive b
  let banks := s.cs.banks.put b { (s.cs.banks.get b) with record := readBack, valid := ok }
  let active := if was then (if ok then some { bank := b, record := record } else none) else s.cs.active
  let t := post .cs (.bankWritten b (if ok then .written else .failed))
    (s.setCs { banks := banks, active := active, store := .idle })
  if was then (if ok then bankChange t else bankLost t) else t

/-- STORE_WRITE_COMPLETE (R197), in whatever mode the part is in. Without a write in progress there is none. -/
def execStoreWriteComplete (readBack : CharRecord) (s : State) : Host.Outcome State Fault Refusal :=
  .next (match s.cs.store with
    | .idle => s
    | .locking _ => s
    | .writing b record => finish (writeEnds b record readBack s))

/-- R198: the lock ends: LOCKED when the mark reads back set, FAILED when it does not. -/
def lockEnds (b : BankNo) (markSet : Bool) (s : State) : State :=
  post .cs (.bankWritten b (if markSet then .locked else .failed))
    (s.setCs { s.cs with
      banks := s.cs.banks.put b { (s.cs.banks.get b) with locked := markSet }, store := .idle })

/-- STORE_LOCK_COMPLETE (R198). Without a lock in progress there is none. -/
def execStoreLockComplete (markSet : Bool) (s : State) : Host.Outcome State Fault Refusal :=
  .next (match s.cs.store with
    | .idle => s
    | .writing _ _ => s
    | .locking b => finish (lockEnds b markSet s))

end Sys2Proof.Machine
end

