-- ==== Sys2Proof/Machine/StrategyCommands.lean ====
section
/-! DEFINITION. The meanings of the commands and events of the Write Strategy Generator: SET_SPEED, PUT_STRATEGY, GET_STRATEGY, the runs of the channel stream and of the trial pattern, and the encoder-ready line (R115, R117, R119, R121, R125, R127). -/

namespace Sys2Proof.Machine

/-- SET_SPEED (R115). The rule gives its two refusals in no order: a value that is no speed class, with a segment
queued or a trial in flight, is refused BAD_VALUE (the model's choice, log entry 18). -/
def setSpeed (v : Nat) : Owner := fun s =>
  match nameAt Speed.all v with
  | none => refuse .badValue s
  | some u =>
    if s.wgc.queue ≠ [] ∨ s.tcu.trial ≠ none then refuse .busy s
    else (s.setWsg { s.wsg with speed := u }, okBody (speedByte u ++ flagByte (s.wsg.complete u)))

def execSetSpeed (body : Body) (s : State) : Host.Outcome State Fault Refusal :=
  command 23 body ((readNat 1 body).map setSpeed) s

/-- R117, step 1: each field is clamped to its range. -/
def clampEntry (e : StrategyEntry) : StrategyEntry :=
  { leadDelay := clampInt (-8) 8 e.leadDelay, leadWidth := clampInt 4 32 e.leadWidth,
    midWidth := clampInt 4 16 e.midWidth, tailWidth := clampInt 0 16 e.tailWidth,
    coolWidth := clampInt 0 40 e.coolWidth }

/-- R117, step 2: the bound on d + lead_width. -/
def leadBound (m : MarkClass) : Int :=
  match m with
  | .m2 => 32
  | .m3 => 16
  | .m4 => 16
  | .m5p => 16

/-- R117: the validated fields. -/
def validate (m : MarkClass) (e : StrategyEntry) : StrategyEntry :=
  let c := clampEntry e
  { c with leadWidth := min c.leadWidth (leadBound m - c.leadDelay) }

def StrategyEntry.fields (e : StrategyEntry) : List Int :=
  [e.leadDelay, e.leadWidth, e.midWidth, e.tailWidth, e.coolWidth]

/-- R117: the fields whose value the validation changed, by their position among the five. -/
def changedFields (old new : StrategyEntry) : List Nat :=
  ((old.fields.zip new.fields).zipIdx.filter (fun p => decide (p.1.1 ≠ p.1.2))).map Prod.snd

/-- PUT_STRATEGY (R117). -/
def putStrategy (f : StrategyFields) : Owner := fun s =>
  match nameAt Speed.all f.speed, nameAt MarkClass.all f.mark with
  | some v, some m =>
    let e := validate m f.entry
    let changed := changedFields f.entry e
    (s.setWsg { s.wsg with
        entries := s.wsg.entries.put v.index ((s.wsg.entries.get v.index).put m.index (some e)) },
      { status := .ok, clamped := !changed.isEmpty, body := e.bytes ++ nameListBytes changed })
  | _, _ => refuse .badValue s

def execPutStrategy (body : Body) (s : State) : Host.Outcome State Fault Refusal :=
  command 24 body ((readStrategy body).map putStrategy) s

/-- GET_STRATEGY (R119). -/
def getStrategy (v : Option Nat) : Owner := fun s =>
  match v with
  | none => (s, okBody (strategyBody s.wsg none))
  | some k =>
    match nameAt Speed.all k with
    | none => refuse .badValue s
    | some u => (s, okBody (strategyBody s.wsg (some u)))

def execGetStrategy (body : Body) (s : State) : Host.Outcome State Fault Refusal :=
  command 25 body ((readGetStrategy body).map getStrategy) s

/-- CHANNEL_RUN (R121): WSG takes the stream only while the gate is OPEN with a segment as its user. -/
def execChannelRun (r : Run) (s : State) : Host.Outcome State Fault Refusal :=
  .next (if s.wgc.gate = .opened ∧ s.wgc.user = some .segment then setStream (s.wsg.takeRun s.streamLive r) s else s)

/-- TRIAL_PATTERN_RUN (R127): the next run of the pattern, only while the gate is OPEN with a trial as its user. -/
def execTrialPatternRun (s : State) : Host.Outcome State Fault Refusal :=
  .next (if s.wgc.gate = .opened ∧ s.wgc.user = some .trial then setStream (s.wsg.passRun true) s else s)

/-- R125: what WSG makes of a change of the ready line while the gate is OPEN for a segment. A mark held ahead whose train
start came while the line was low, and whose run begins after the rise, is laid out; R125 does not say from when, and its
train starts at the rise (the model's choice, log entry 21). -/
def wsgReady (ready : Bool) (s : State) : State :=
  if s.wgc.gate = .opened ∧ s.wgc.user = some .segment then
    setStream (if ready then s.wsg.startAhead true else s.wsg.readyFell) s
  else s

/-- ENCODER_READY_CHANGE (R125): the line changes level. -/
def execEncoderReadyChange (ready : Bool) (s : State) : Host.Outcome State Fault Refusal :=
  .next (if s.lines.encoderReady = ready then s
    else wsgReady ready (s.setLines { s.lines with encoderReady := ready }))

end Sys2Proof.Machine
end

