-- ==== Sys2Proof/Machine/TrialCommands.lean ====
section
/-! DEFINITION. The meanings of the commands the Trial Calibration Unit owns (R94, R96, R97, R99, R111). -/

namespace Sys2Proof.Machine

/-- SET_TEST_AREA (R94): the pointer is set to the first block. -/
def setTestArea (f : AreaFields) : Owner := fun s =>
  if s.mc.mode ≠ .standby ∧ s.mc.mode ≠ .read then refuse .wrongMode s
  else if s.ct.disc = none then refuse .wrongMode s
  else match nameAt Surface.all f.surface with
    | none => refuse .badValue s
    | some g =>
      if s.ct.hasSurface g && inRange 16 4096 f.length && decide (f.first + f.length ≤ s.ct.blocks) then
        let a : TestArea := { first := f.first, length := f.length, next := f.first }
        (s.setTcu { s.tcu with areas := s.tcu.areas.put g (some a) }, okBody (surfaceByte g ++ areaBytes a))
      else refuse .badValue s

def execSetTestArea (body : Body) (s : State) : Host.Outcome State Fault Refusal :=
  command 19 body ((readArea body).map setTestArea) s

/-- R97, check 2: the surface and zone of CALIBRATE, none when a field lies outside its range. -/
def calibrateTarget (f : CalibrateFields) (s : State) : Option (Surface × Fin 8) :=
  match nameAt Surface.all f.surface with
  | none => none
  | some g =>
    if h : f.zone < 8 then
      if s.ct.hasSurface g && inRange 5 15 f.steps && inRange 1000 80000 f.start && inRange 100 5000 f.step &&
          (f.target.all (inRangeInt (-200) 200)) && (f.bias.all (inRange 0 1000)) && (f.cool.all (inRange 0 1000)) then
        some (g, ⟨f.zone, h⟩)
      else none
    else none

/-- R98, R97 check 10: target, bias and cool, each from the command where present and from a usable record where
absent. -/
def resolve (f : CalibrateFields) (r : CalRecord) : Option (Int × Nat × Nat) :=
  match f.target, f.bias, f.cool with
  | some t, some b, some c => some (t, b, c)
  | _, _, _ => r.usable.map (fun x => (f.target.getD x.target, f.bias.getD x.bias, f.cool.getD x.cool))

/-- R97: the ten checks in order, and the trial that a command which passes them begins (R98, R99). -/
def calibrateCheck (f : CalibrateFields) (s : State) : Except Status Trial :=
  if s.mc.mode ≠ .record then .error .wrongMode
  else match calibrateTarget f s with
    | none => .error .badValue
    | some (g, z) =>
      if s.wgc.gate ≠ .idle then .error .busy
      else if s.pu.sense = .asserted then .error .inhibited
      else match s.tcu.areas.get g with
        | none => .error .testAreaFull
        | some a =>
          if a.remaining < f.steps then .error .testAreaFull
          else if s.runProtected g a.next (a.next + f.steps - 1) then .error .isProtected
          else if s.wsg.complete s.wsg.speed = false then .error .noStrategy
          else if s.mon.serves [.rsum, .rtop, .rbot, .terr] = false then .error .scanRequired
          else if 80000 < f.start + (f.steps - 1) * f.step then .error .badValue
          else
            let k : CalKey := { surface := g, speed := s.wsg.speed, zone := z }
            match resolve f (s.ct.record k) with
            | none => .error .noCalibration
            | some (target, bias, cool) =>
              .ok { key := k, start := f.start, step := f.step, target := target, bias := bias, cool := cool,
                    first := a.next, saved := s.ct.record k, sub := .writeWait, index := 0, wait := 0,
                    steps := List.replicate f.steps TrialStep.fresh,
                    inhibitMark := false, modeMark := s.mc.request.isSome }

/-- CALIBRATE (R99): the context is created, the record becomes TRIAL and the trial takes the gate. -/
def calibrate (f : CalibrateFields) : Owner := fun s =>
  match calibrateCheck f s with
  | .error why => refuse why s
  | .ok t =>
    let u := setTrial t s
    (shutGate (some .trial) (u.setCt (u.ct.beginTrial t.key)),
      { status := .pending, clamped := false, body := calibrateBody t })

def execCalibrate (body : Body) (s : State) : Host.Outcome State Fault Refusal :=
  command 20 body ((readCalibrate body).map calibrate) s

/-- ABORT_CAL (R111). -/
def abortCal : Owner := fun s =>
  match s.tcu.trial with
  | none => refuse .nothingPending s
  | some t =>
    (conclude (abortTrial .command s),
      okBody (keyBytes t.key ++ natBytes 3 t.first ++ natBytes 1 (s.blocksWritten t)))

def execAbortCal (body : Body) (s : State) : Host.Outcome State Fault Refusal :=
  command 21 body ((readNothing body).map (fun _ => abortCal)) s

/-- GET_TRIAL (R96). -/
def execGetTrial (body : Body) (s : State) : Host.Outcome State Fault Refusal :=
  command 22 body ((readNothing body).map (fun _ => query trialBody)) s

end Sys2Proof.Machine
end

