-- ==== Sys2Proof/Machine/LinkCommands.lean ====
section
/-! DEFINITION. The meanings of the commands the Command Link owns, the command index, and the meanings of the link's other events (R184 to R195). -/

namespace Sys2Proof.Machine

/-- GET_STATUS (R192). -/
def execGetStatus (body : Body) (s : State) : Host.Outcome State Fault Refusal :=
  command 41 body ((readNothing body).map (fun _ => query statusBody)) s

/-- RESET_ENABLE (R193). -/
def resetEnable : Owner := fun s => (s.setCl { s.cl with resetEnable := true }, plain .ok)

def execResetEnable (body : Body) (s : State) : Host.Outcome State Fault Refusal :=
  command 42 body ((readNothing body).map (fun _ => resetEnable)) s

/-- R193: whether a RESET_DEVICE frame is accepted with the reset-enable flag set. -/
def State.resetArmed (s : State) : Bool :=
  decide (s.cl.receive ≠ .blocked) && decide (s.cl.slot = .empty) && s.cl.resetEnable

/-- RESET_DEVICE (R193): with the flag set the commanded reset is taken at the end of the frame, and its OK reply
goes with the slot; with the flag clear the reply is NOTHING_PENDING. -/
def execResetDevice (body : Body) (s : State) : Host.Outcome State Fault Refusal :=
  if body = [] ∧ s.resetArmed = true then .next (commandedReset s)
  else command 43 body ((readNothing body).map (fun _ => refuse .nothingPending)) s

/-- The command index (11.12): kind code k stands at place k - 1. -/
def commandIndex : List (Body → State → Host.Outcome State Fault Refusal) :=
  [execRequestMode, execSetPool, execSetScan, execStartScan, execStopScan, execSetOffset, execSetWindow,
   execGetSamples, execSetReadPower, execSetApc, execGetLaser, execSetDisc, execSetZones, execDiscUnload, execPutCal,
   execInvalidateCal, execGetCal, execSetStaleSpan, execSetTestArea, execCalibrate, execAbortCal, execGetTrial,
   execSetSpeed, execPutStrategy, execGetStrategy, execArm, execDisarm, execSegment, execPause, execResume,
   execAbortSegment, execSetRpc, execSetWaitLimit, execGetQueue, execSetProtect, execSetLock, execGetProtect,
   execSetMask, execClearEvents, execGetEvents, execGetStatus, execResetEnable, execResetDevice, execWriteBank,
   execLockBank, execSelectBank, execGetIdent]

/-- R187: the command a kind byte names, if it is one of the index. -/
def commandOf (kind : Byte) : Option (Body → State → Host.Outcome State Fault Refusal) :=
  if kind = 0 then none else commandIndex[kind.toNat - 1]?

/-- R187: a frame goes to the command its kind byte names; CL answers UNKNOWN_KIND where it names none. -/
def dispatch (kind : Byte) (body : Body) (s : State) : Host.Outcome State Fault Refusal :=
  match commandOf kind with
  | some meaning => meaning body s
  | none => .next (takeFrame kind body .unknownKind none s)

/-- R184: a window whose data-in bytes are these, with so many edges beyond the last. Its first byte decides what
the window is; without one it is no window. -/
def linkWindow (bytes : List Byte) (extra : Fin 8) (s : State) : Host.Outcome State Fault Refusal :=
  if s.cl.receive = .blocked then .next (endWindow (zeros bytes.length) s)
  else match bytes with
    | [] => .next s
    | kind :: rest =>
      if kind = replySelector then .next (replyRead (8 * rest.length + extra) s)
      else if kind = noticeSelector then .next (noticeRead (8 * rest.length + extra) s)
      else match framedBody rest extra with
        | none => .next (badFraming bytes.length s)
        | some body => dispatch kind body s

/-- UNKNOWN_KIND_FRAME (R187): a frame whose kind byte names no command. -/
def execUnknownKindFrame (kind : Byte) (body : Body) (s : State) : Host.Outcome State Fault Refusal :=
  linkWindow (frameBytes kind body) 0 s

/-- BADLY_FRAMED_FRAME (R185): a window whose bytes are not one well-formed frame. -/
def execBadlyFramedFrame (bytes : List Byte) (extra : Fin 8) (s : State) : Host.Outcome State Fault Refusal :=
  linkWindow bytes extra s

/-- DISCARDED_FRAME (R186): a well-formed frame that finds the reply slot in use. -/
def execDiscardedFrame (kind : Byte) (body : Body) (s : State) : Host.Outcome State Fault Refusal :=
  linkWindow (frameBytes kind body) 0 s

/-- REPLY_WINDOW (R189). -/
def execReplyWindow (edges : Nat) (s : State) : Host.Outcome State Fault Refusal := .next (replyRead edges s)

/-- NOTICE_WINDOW (R190). -/
def execNoticeWindow (edges : Nat) (s : State) : Host.Outcome State Fault Refusal := .next (noticeRead edges s)

/-- BLOCKED_WINDOW_END (R184). -/
def execBlockedWindowEnd (s : State) : Host.Outcome State Fault Refusal := .next (blockedEnd s)

end Sys2Proof.Machine
end

