-- ==== Sys2Proof/Machine/Dispatch.lean ====
section
/-! DEFINITION. One arm for each command: its meaning, called with its operands. -/

namespace Sys2Proof.Machine

/-- The effect of a command on everything but the queue of commands. -/
def exec (i : Instr) (s : State) : Host.Outcome State Fault Refusal :=
  match i with
  | .requestMode body => Sys2Proof.Machine.execRequestMode body s
  | .setPool body => Sys2Proof.Machine.execSetPool body s
  | .setScan body => Sys2Proof.Machine.execSetScan body s
  | .startScan body => Sys2Proof.Machine.execStartScan body s
  | .stopScan body => Sys2Proof.Machine.execStopScan body s
  | .setOffset body => Sys2Proof.Machine.execSetOffset body s
  | .setWindow body => Sys2Proof.Machine.execSetWindow body s
  | .getSamples body => Sys2Proof.Machine.execGetSamples body s
  | .setReadPower body => Sys2Proof.Machine.execSetReadPower body s
  | .setApc body => Sys2Proof.Machine.execSetApc body s
  | .getLaser body => Sys2Proof.Machine.execGetLaser body s
  | .setDisc body => Sys2Proof.Machine.execSetDisc body s
  | .setZones body => Sys2Proof.Machine.execSetZones body s
  | .discUnload body => Sys2Proof.Machine.execDiscUnload body s
  | .putCal body => Sys2Proof.Machine.execPutCal body s
  | .invalidateCal body => Sys2Proof.Machine.execInvalidateCal body s
  | .getCal body => Sys2Proof.Machine.execGetCal body s
  | .setStaleSpan body => Sys2Proof.Machine.execSetStaleSpan body s
  | .setTestArea body => Sys2Proof.Machine.execSetTestArea body s
  | .calibrate body => Sys2Proof.Machine.execCalibrate body s
  | .abortCal body => Sys2Proof.Machine.execAbortCal body s
  | .getTrial body => Sys2Proof.Machine.execGetTrial body s
  | .setSpeed body => Sys2Proof.Machine.execSetSpeed body s
  | .putStrategy body => Sys2Proof.Machine.execPutStrategy body s
  | .getStrategy body => Sys2Proof.Machine.execGetStrategy body s
  | .arm body => Sys2Proof.Machine.execArm body s
  | .disarm body => Sys2Proof.Machine.execDisarm body s
  | .segment body => Sys2Proof.Machine.execSegment body s
  | .pause body => Sys2Proof.Machine.execPause body s
  | .resume body => Sys2Proof.Machine.execResume body s
  | .abortSegment body => Sys2Proof.Machine.execAbortSegment body s
  | .setRpc body => Sys2Proof.Machine.execSetRpc body s
  | .setWaitLimit body => Sys2Proof.Machine.execSetWaitLimit body s
  | .getQueue body => Sys2Proof.Machine.execGetQueue body s
  | .setProtect body => Sys2Proof.Machine.execSetProtect body s
  | .setLock body => Sys2Proof.Machine.execSetLock body s
  | .getProtect body => Sys2Proof.Machine.execGetProtect body s
  | .setMask body => Sys2Proof.Machine.execSetMask body s
  | .clearEvents body => Sys2Proof.Machine.execClearEvents body s
  | .getEvents body => Sys2Proof.Machine.execGetEvents body s
  | .getStatus body => Sys2Proof.Machine.execGetStatus body s
  | .resetEnable body => Sys2Proof.Machine.execResetEnable body s
  | .resetDevice body => Sys2Proof.Machine.execResetDevice body s
  | .writeBank body => Sys2Proof.Machine.execWriteBank body s
  | .lockBank body => Sys2Proof.Machine.execLockBank body s
  | .selectBank body => Sys2Proof.Machine.execSelectBank body s
  | .getIdent body => Sys2Proof.Machine.execGetIdent body s
  | .unknownKindFrame kind body => Sys2Proof.Machine.execUnknownKindFrame kind body s
  | .badlyFramedFrame bytes extra => Sys2Proof.Machine.execBadlyFramedFrame bytes extra s
  | .discardedFrame kind body => Sys2Proof.Machine.execDiscardedFrame kind body s
  | .replyWindow edges => Sys2Proof.Machine.execReplyWindow edges s
  | .noticeWindow edges => Sys2Proof.Machine.execNoticeWindow edges s
  | .blockedWindowEnd => Sys2Proof.Machine.execBlockedWindowEnd s
  | .powerOnReset lines => Sys2Proof.Machine.execPowerOnReset lines s
  | .resetLine lines => Sys2Proof.Machine.execResetLine lines s
  | .positionRecord valid surface address => Sys2Proof.Machine.execPositionRecord valid surface address s
  | .generatedArrival => Sys2Proof.Machine.execGeneratedArrival s
  | .conversionComplete raw => Sys2Proof.Machine.execConversionComplete raw s
  | .inhibitLineChange level => Sys2Proof.Machine.execInhibitLineChange level s
  | .encoderReadyChange ready => Sys2Proof.Machine.execEncoderReadyChange ready s
  | .channelRun run => Sys2Proof.Machine.execChannelRun run s
  | .storeWriteComplete readBack => Sys2Proof.Machine.execStoreWriteComplete readBack s
  | .storeLockComplete markSet => Sys2Proof.Machine.execStoreLockComplete markSet s
  | .trialPatternRun => Sys2Proof.Machine.execTrialPatternRun s

end Sys2Proof.Machine
end

