-- ==== Sys2Proof/WellFormed.lean ====
section
/-! DEFINITION. Which operands make a command that can come about as its row says: a frame's body fits its length byte, a kind byte names no command, a window is badly framed, a run has a length. A body whose length is not permitted for its kind is well formed and is answered BAD_LENGTH (R186, R187). -/

namespace Sys2Proof

/-- R185: a body fits the length byte of a frame. -/
def fits (body : Body) : Bool := decide (body.length ≤ 62)

/-- R185: a window is badly framed: its first byte opens a command frame, and the rest is not length and body. -/
def isBadlyFramed (bytes : List Byte) (extra : Fin 8) : Bool :=
  match bytes with
  | [] => false
  | kind :: rest => Machine.opensFrame kind && (Machine.framedBody rest extra).isNone

/-- The command of the index that a constructor stands for, as its kind code and body (R195, 11.12). -/
def Instr.frame : Instr → Option (Byte × Body)
  | .requestMode b => some (1, b)
  | .setPool b => some (2, b)
  | .setScan b => some (3, b)
  | .startScan b => some (4, b)
  | .stopScan b => some (5, b)
  | .setOffset b => some (6, b)
  | .setWindow b => some (7, b)
  | .getSamples b => some (8, b)
  | .setReadPower b => some (9, b)
  | .setApc b => some (10, b)
  | .getLaser b => some (11, b)
  | .setDisc b => some (12, b)
  | .setZones b => some (13, b)
  | .discUnload b => some (14, b)
  | .putCal b => some (15, b)
  | .invalidateCal b => some (16, b)
  | .getCal b => some (17, b)
  | .setStaleSpan b => some (18, b)
  | .setTestArea b => some (19, b)
  | .calibrate b => some (20, b)
  | .abortCal b => some (21, b)
  | .getTrial b => some (22, b)
  | .setSpeed b => some (23, b)
  | .putStrategy b => some (24, b)
  | .getStrategy b => some (25, b)
  | .arm b => some (26, b)
  | .disarm b => some (27, b)
  | .segment b => some (28, b)
  | .pause b => some (29, b)
  | .resume b => some (30, b)
  | .abortSegment b => some (31, b)
  | .setRpc b => some (32, b)
  | .setWaitLimit b => some (33, b)
  | .getQueue b => some (34, b)
  | .setProtect b => some (35, b)
  | .setLock b => some (36, b)
  | .getProtect b => some (37, b)
  | .setMask b => some (38, b)
  | .clearEvents b => some (39, b)
  | .getEvents b => some (40, b)
  | .getStatus b => some (41, b)
  | .resetEnable b => some (42, b)
  | .resetDevice b => some (43, b)
  | .writeBank b => some (44, b)
  | .lockBank b => some (45, b)
  | .selectBank b => some (46, b)
  | .getIdent b => some (47, b)
  | .unknownKindFrame _ _ | .badlyFramedFrame _ _ | .discardedFrame _ _ | .replyWindow _ | .noticeWindow _
  | .blockedWindowEnd | .powerOnReset _ | .resetLine _ | .positionRecord _ _ _ | .generatedArrival
  | .conversionComplete _ | .inhibitLineChange _ | .encoderReadyChange _ | .channelRun _ | .storeWriteComplete _
  | .storeLockComplete _ | .trialPatternRun => none

/-- Whether a command can come about with these operands. -/
def wellFormed (i : Instr) : Bool :=
  match i.frame with
  | some (_, body) => fits body
  | none =>
    match i with
    | .unknownKindFrame kind body => !Machine.namesCommand kind && Machine.opensFrame kind && fits body
    | .badlyFramedFrame bytes extra => isBadlyFramed bytes extra
    | .discardedFrame kind body => Machine.opensFrame kind && fits body
    | .channelRun run => decide (1 ≤ run.length)
    | _ => true

end Sys2Proof
end

