-- ==== Sys2Proof/Safety.lean ====
section
/-! DEFINITION. The states in which a command frame is taken, what the link holds once it has been answered, and the invariants of the machine that the obligations state. -/

namespace Sys2Proof.Machine

/-- A command frame that ends now is accepted: the window is CL's to take and the slot is EMPTY (R184, R186). -/
def State.takesFrames (s : State) : Prop := s.cl.receive ≠ .blocked ∧ s.cl.slot = .empty

/-- No notice of an earlier step waits to join the queue; so it is between steps (log entry 5). -/
def State.settled (s : State) : Prop := s.eu.outbox = []

/-- The notice queue has room for this many notices more. -/
def State.room (s : State) (n : Nat) : Prop := s.settled ∧ s.eu.notices.length + n ≤ s.mc.noticeDepth

/-- The tracker is LOCKED on a block of the set disc, so that a VALID record of that block is a boundary (R20, R24). -/
def State.holdsPosition (s : State) : Prop :=
  s.pt.state = .locked ∧ s.ct.hasSurface s.pt.surface = true ∧ s.pt.predicted < s.ct.blocks

/-- A record of the predicted block is a boundary of the held position: of kind VALID when it is valid, and of kind
COASTED when it is not and fewer than three before it were not (R24, R25). -/
def State.passesBoundary (s : State) (valid : Bool) : Prop := s.holdsPosition ∧ (valid = true ∨ s.pt.coast < 3)

/-- A record makes a LOCKED tracker lose its position: a jump by R26, or the fourth invalid arrival in a row (R25). -/
def State.losesPosition (s : State) (valid : Bool) (f : Surface) (a : Nat) : Prop :=
  s.pt.state = .locked ∧
    ((valid = true ∧ a < s.ct.blocks ∧ s.ct.hasSurface f = true ∧ (s.pt.surface ≠ f ∨ s.pt.predicted ≠ a)) ∨
      ((valid = false ∨ s.ct.blocks ≤ a ∨ s.ct.hasSurface f = false) ∧ 3 ≤ s.pt.coast))

/-- What no boundary of the recording path touches: mode, monitor, protection, link, store, lines and commands. -/
def BoundaryKeeps (s t : State) : Prop :=
  t.mc = s.mc ∧ t.mon = s.mon ∧ t.pu = s.pu ∧ t.cl = s.cl ∧ t.cs = s.cs ∧ t.lines = s.lines ∧ t.pending = s.pending

/-- The link once a frame with this kind byte and body has been answered (R183, R187). -/
def Cl.answered (kind : Byte) (body : Body) (status : Status) (clamped : Bool) (reply : Body) : Cl :=
  { slot := .full { kind := kind, status := status, clamped := clamped, body := reply }, discard := 0,
    resetEnable := false, receive := .idle, dataOut := zeros (2 + body.length) }

/-- R15, R177, R178: each queue is within its depth, and the two depths share the 40 slots. -/
def QueuesFit (s : State) : Prop :=
  2 ≤ s.mc.segDepth ∧ s.mc.segDepth ≤ 32 ∧ s.wgc.queue.length ≤ s.mc.segDepth ∧
    s.eu.notices.length ≤ s.mc.noticeDepth ∧ s.eu.dropped ≤ 255 ∧ s.settled

/-- R51, R52, R62: the four levels are those computed from the inputs as they stand, and the driven level is READ
unless the gate is OPEN, when it is the level WSG selects. -/
def LevelsAgree (s : State) : Prop := s.ldu.levels = s.levelsNow ∧ s.ldu.driven = s.drivenNow

/-- R132: the arm latch is set in RECORD and SELFTEST alone. -/
def ArmSound (s : State) : Prop := s.wgc.arm = true → s.mc.mode.mayWrite = true

/-- The ranges the state tables give to counters and settings (R34, R51, R74, R129, R183). -/
def RangesHold (s : State) : Prop :=
  -20000 ≤ s.ldu.ioff ∧ s.ldu.ioff ≤ 20000 ∧
    850 ≤ s.wgc.correction ∧ s.wgc.correction ≤ 1150 ∧ s.wgc.deadband ≤ 100 ∧
    1 ≤ s.wgc.rpcStep ∧ s.wgc.rpcStep ≤ 20 ∧ 16 ≤ s.wgc.waitLimit ∧ s.wgc.waitLimit ≤ 65535 ∧
    10 ≤ s.ct.staleSpan ∧ s.ct.staleSpan ≤ 600 ∧ s.pt.coast ≤ 3 ∧ s.cl.discard ≤ 15 ∧
    (∀ c : Channel, s.mon.latest.get c.index ≤ 4095 ∧ s.mon.counts.get c.index ≤ 65535 ∧
      (s.mon.offsets.get c.index).magnitude ≤ 31 ∧ (s.mon.windows.get c.index).low ≤ (s.mon.windows.get c.index).high ∧
      (s.mon.windows.get c.index).high ≤ 4095) ∧
    (∀ t, s.mon.measured = some t → -400 ≤ t ∧ t ≤ 1250)

/-- The scan is in flight only with a list, and its position lies in the list (R34, R36 to R39). -/
def ScanSound (s : State) : Prop :=
  s.mon.scanList.length ≤ 8 ∧ (s.mon.scanState ≠ .stopped → s.mon.scanList ≠ []) ∧
    (s.mon.scanList ≠ [] → s.mon.position < s.mon.scanList.length)

/-- R129, R130, R135: the state and user of the gate that the trial and the head of the queue call for. -/
def State.gateDue (s : State) : GateState × Option GateUser :=
  match s.tcu.trial with
  | some t => (if t.sub = .writing then .opened else .waiting, some .trial)
  | none =>
    match s.wgc.queue with
    | [] => (.idle, none)
    | g :: _ =>
      if g.state = .waiting then (.waiting, some .segment)
      else if g.state.writes then (.opened, some .segment)
      else (.idle, none)

/-- R130: the head neither waits at the gate nor writes. -/
def State.headOffGate (s : State) : Prop :=
  ∀ g ∈ s.wgc.queue.head?, g.state ≠ .waiting ∧ g.state.writes = false

/-- R129, R130, R135: the gate stands as the trial or the head calls for, and never for both. -/
def GateSound (s : State) : Prop :=
  (s.wgc.gate, s.wgc.user) = s.gateDue ∧ (s.tcu.trial.isSome = true → s.headOffGate) ∧
    (∀ g ∈ s.wgc.queue.tail, g.state = .queued) ∧ (s.wgc.gate ≠ .idle → s.mc.mode.mayWrite = true) ∧
    (s.tcu.trial.isSome = true → s.mc.mode = .record)

/-- R8, R9, R154: an exit is pending only in RECORD, towards READ or STANDBY, with WGC's exit mark set, while
recording has not stopped, and with no head that could take the gate. -/
def ExitSound (s : State) : Prop :=
  s.wgc.exitMark = s.mc.request.isSome ∧
    (∀ m, s.mc.request = some m → s.mc.mode = .record ∧ (m = .read ∨ m = .standby) ∧ s.stopped = false ∧
      ∀ g ∈ s.wgc.queue.head?, g.state ≠ .queued ∧ g.state ≠ .waiting)

/-- R130: what each segment of the queue holds; the queue is empty in CONFIGURE and STANDBY (R155). -/
def SegmentsSound (s : State) : Prop :=
  (∀ g ∈ s.wgc.queue, g.done < g.count ∧ g.count ≤ 256 ∧ g.last < s.ct.blocks ∧
      s.ct.hasSurface g.surface = true ∧
      (g.reason.isSome = true ↔ g.state = .suspending ∨ g.state = .suspended ∨ g.state = .halted) ∧
      (∀ a, g.damaged = some a → g.state = .halted ∧ a = g.next)) ∧
    (s.mc.mode = .configure ∨ s.mc.mode = .standby → s.wgc.queue = [])

/-- R83: one record is in TRIAL exactly while a trial is in flight, and it is the trial's. -/
def TrialRecordSound (s : State) : Prop :=
  ∀ k : CalKey, (s.ct.record k).state = .trial ↔ ∃ t, s.tcu.trial = some t ∧ t.key = k

/-- The blocks whose write has begun, by the sub-state of a trial (R95, R101, R102). -/
def Trial.begun (t : Trial) : Nat :=
  match t.sub with
  | .writeWait => 0
  | .writing => t.index
  | .readWait => t.steps.length
  | .measuring => t.steps.length

/-- R93, R95: next pointers stay in their areas, and a trial's blocks lie in its area. -/
def TestAreasSound (s : State) : Prop :=
  (∀ f a, s.tcu.areas.get f = some a → a.first ≤ a.next ∧ a.next ≤ a.first + a.length) ∧
    (∀ t, s.tcu.trial = some t → t.saved.state ≠ .trial ∧ t.begun ≤ t.steps.length ∧ t.index ≤ t.steps.length ∧
      5 ≤ t.steps.length ∧ t.steps.length ≤ 15 ∧
      ∃ a, s.tcu.areas.get t.key.surface = some a ∧ a.next = t.first + t.begun ∧
        t.first + t.steps.length ≤ a.first + a.length)

/-- R101, R110: while the record-inhibit line is asserted, a trial that waits to write or writes carries the INHIBIT
mark, and the MODE mark stands exactly while an exit is pending. -/
def TrialMarksSound (s : State) : Prop :=
  ∀ t, s.tcu.trial = some t →
    (t.sub = .writeWait ∨ t.sub = .writing → s.pu.sense = .asserted → t.inhibitMark = true) ∧
      t.modeMark = s.mc.request.isSome

/-- The recording path of the part: gate, exit, segments, records, test areas and abort marks together. -/
def RecordingSound (s : State) : Prop :=
  GateSound s ∧ ExitSound s ∧ SegmentsSound s ∧ TrialRecordSound s ∧ TestAreasSound s ∧ TrialMarksSound s

end Sys2Proof.Machine
end

