-- ==== Sys2Proof/Certificates/Slice0/Obligations.lean ====
section
/-! DEFINITION. The statements for the provers, in the order of OBLIGATIONS.json. In a statement about a command frame the state takes frames (the slot is EMPTY and no window is left open across a reset); t stands for the next state. -/

section

open Sys2Proof Sys2Proof.Machine

/-- A step with a command at the front of the queue runs it on the state with the queue's rest. -/
def Obligations.StepRunsTheFrontCommand : Prop :=
  ∀ (c : Instr) (rest : List Instr) (s : State), s.pending = c :: rest → step s = exec c (s.setPending rest)

/-- Every command answers a next state and keeps the queue of commands. With an empty queue a step passes one
sixteenth of T of the channel clock (the model's choice, log entry 8): nothing while the gate is not OPEN; while it
is, the count of sixteenths rises by one within a run on the disc, a run that ends gives way to the one received
ahead of it, and where none is held the instant stands still. LDU drives the level WSG then selects. -/
def Obligations.EveryStepAnswersNext : Prop :=
  (∀ (c : Instr) (s : State), ∃ t, exec c s = .next t ∧ t.pending = s.pending) ∧
    (∀ s : State, s.pending = [] → s.wgc.gate ≠ .opened → step s = .next s) ∧
    (∀ s : State, s.pending = [] → s.wgc.gate = .opened →
      ∃ w : Wsg, step s = .next { s with wsg := w, ldu := { s.ldu with driven := w.select } } ∧
        (s.wsg.run = none → w = s.wsg) ∧
        (∀ r : PlacedRun, s.wsg.run = some r →
          (s.wsg.now + 1 < r.start + 16 * r.length →
            w = { s.wsg with now := s.wsg.now + 1, train := w.train }) ∧
          (s.wsg.now + 1 = r.start + 16 * r.length →
            (s.wsg.ahead = none → w = s.wsg) ∧
            (∀ a : Run, s.wsg.ahead = some a →
              w = { s.wsg with
                now := s.wsg.now + 1
                run := some { kind := if s.streamLive = true then a.kind else .space, length := a.length
                              start := s.wsg.now + 1 }
                pattern := s.wsg.pattern.map (fun i => (i + 1) % 16)
                ahead := s.wsg.pattern.map (fun i => patternRun (i + 2))
                train := w.train }))))

/-- R16: SET_POOL in CONFIGURE sets the two depths and empties both queues; it is refused elsewhere, and for a depth
outside 2 to 32. -/
def Obligations.SetPoolSetsTheSplitAndEmptiesTheQueues : Prop :=
  ∀ (s : State) (d : Nat), s.takesFrames → d < 256 →
    (s.mc.mode ≠ .configure →
      exec (.setPool (natBytes 1 d)) s = .next (s.setCl (Cl.answered 2 (natBytes 1 d) .wrongMode false []))) ∧
    (s.mc.mode = .configure → d < 2 ∨ 32 < d →
      exec (.setPool (natBytes 1 d)) s = .next (s.setCl (Cl.answered 2 (natBytes 1 d) .badValue false []))) ∧
    (s.mc.mode = .configure → 2 ≤ d → d ≤ 32 →
      exec (.setPool (natBytes 1 d)) s = .next { s with
        mc := { s.mc with segDepth := d }
        wgc := { s.wgc with queue := [] }
        eu := { s.eu with notices := [] }
        cl := Cl.answered 2 (natBytes 1 d) .ok false
          (natBytes 1 d ++ natBytes 1 (40 - d) ++ natBytes 1 s.eu.notices.length) })

/-- The widths of a REQUEST_MODE's fields (R188). -/
def Sys2Proof.Machine.ModeFields.fits (f : ModeFields) : Prop :=
  f.target < 256 ∧ ∀ x, f.selfTest = some x → x.start < 256 ^ 3 ∧ x.surface < 256 ∧ x.interval < 256 ^ 2

/-- The table of R5: its legal pairs, the changes that wait, and the conditions. Then the refusals of REQUEST_MODE in
the order of its checks: each changes the link alone, and its reply holds the mode and the pending target. A request
for the current mode, which FAULT cannot be, is answered OK: without a pending request it changes the link alone, and
the self-test fields of a SELFTEST request taken in SELFTEST are not applied (R4, check 4). -/
def Obligations.RequestModeRefusals : Prop :=
  (∀ a b : Mode, legalTarget a b = true ↔
    (a, b) ∈ [(Mode.configure, Mode.standby), (.standby, .read), (.standby, .selftest), (.standby, .configure),
      (.read, .standby), (.read, .record), (.read, .configure), (.record, .read), (.record, .standby),
      (.record, .configure), (.selftest, .standby), (.selftest, .configure), (.fault, .standby),
      (.fault, .configure)]) ∧
  (∀ a b : Mode, deferred a b = true ↔ a = .record ∧ (b = .read ∨ b = .standby)) ∧
  (∀ (s : State) (m : Mode), s.targetReady m = true ↔
    (s.mc.mode = .configure ∨ s.mc.mode = .fault → m = .standby →
      (∃ a, s.cs.active = some a ∧ (s.cs.banks.get a.bank).valid = true) ∧ s.cs.store = .idle) ∧
    (s.mc.mode = .fault → m = .standby → s.eu.senses.get Channel.fmon.index = .inside) ∧
    (s.mc.mode = .standby → m = .read ∨ m = .selftest → s.ct.disc ≠ none)) ∧
  (∀ s : State, (s.mc.request = none → modeBody s = modeByte s.mc.mode ++ [0]) ∧
    (∀ m : Mode, s.mc.request = some m → modeBody s = modeByte s.mc.mode ++ [1] ++ modeByte m)) ∧
  ∀ (s : State) (f : ModeFields), s.takesFrames → f.fits →
    (6 ≤ f.target →
      exec (.requestMode f.bytes) s = .next (s.setCl (Cl.answered 1 f.bytes .badValue false (modeBody s)))) ∧
    (∀ m : Mode, f.target = m.code →
      (f.selfTest ≠ none → m ≠ .selftest →
        exec (.requestMode f.bytes) s = .next (s.setCl (Cl.answered 1 f.bytes .badValue false (modeBody s)))) ∧
      (f.selfTest = none → m = .fault →
        exec (.requestMode f.bytes) s = .next (s.setCl (Cl.answered 1 f.bytes .wrongMode false (modeBody s)))) ∧
      (f.selfTest = none ∨ m = .selftest → m ≠ .fault → m = s.mc.mode → s.mc.request = none →
        exec (.requestMode f.bytes) s = .next (s.setCl (Cl.answered 1 f.bytes .ok false (modeByte m ++ [0])))) ∧
      (f.selfTest = none ∨ m = .selftest → m ≠ s.mc.mode →
        legalTarget s.mc.mode m = false ∨ s.targetReady m = false →
        exec (.requestMode f.bytes) s = .next (s.setCl (Cl.answered 1 f.bytes .wrongMode false (modeBody s)))) ∧
      (∀ x, f.selfTest = some x → m = .selftest → s.mc.mode = .standby → s.ct.disc ≠ none →
        s.ct.blocks ≤ x.start ∨ 2 ≤ x.surface ∨ (x.surface = 1 ∧ s.ct.hasSurface .one = false) ∨ x.interval < 100 ∨
          10000 < x.interval →
        exec (.requestMode f.bytes) s = .next (s.setCl (Cl.answered 1 f.bytes .badValue false (modeBody s)))))

/-- A change made at once: the mode becomes the target, no request is pending, the tracker is LOST, and the settings
of the other blocks stand; with room in the notice queue and nothing recorded, MODE_CHANGED is queued. A change to
SELFTEST with its fields given hands the tracker those three values (R6). Such a change that leaves RECORD or
SELFTEST halts a head that waits or writes with reason MODE, with the damaged block of one that was writing, and
flushes the queue; a change from READ to RECORD lets a QUEUED head proceed, and leaves a SUSPENDED or HALTED one
(R155). -/
def Obligations.RequestModeChangesAtOnce : Prop :=
  (∀ (s : State) (m : Mode), s.takesFrames → legalTarget s.mc.mode m = true → s.targetReady m = true →
    deferred s.mc.mode m = false →
    ∃ t, exec (.requestMode (ModeFields.bytes ⟨m.code, none⟩)) s = .next t ∧
      t.mc = { s.mc with mode := m, request := none } ∧
      t.cl = Cl.answered 1 (ModeFields.bytes ⟨m.code, none⟩) .pending false (modeByte m ++ [0]) ∧
      t.pt = { s.pt with
        state := .lost, coast := 0, genRunning := decide (m = .selftest)
        genSurface := if m = .selftest then .zero else s.pt.genSurface
        genNext := if m = .selftest then 0 else s.pt.genNext
        genInterval := if m = .selftest then 1000 else s.pt.genInterval } ∧
      t.mon = s.mon ∧ t.pu = s.pu ∧ t.cs = s.cs ∧ t.lines = s.lines ∧ t.ldu.readPower = s.ldu.readPower ∧
      t.ldu.ioff = s.ldu.ioff ∧ t.ldu.apcOn = s.ldu.apcOn ∧ t.ldu.clampMark = s.ldu.clampMark ∧
      t.wsg.speed = s.wsg.speed ∧ t.wsg.entries = s.wsg.entries ∧ t.wgc.append = s.wgc.append ∧
      t.wgc.rpcOn = s.wgc.rpcOn ∧ t.wgc.deadband = s.wgc.deadband ∧ t.wgc.rpcStep = s.wgc.rpcStep ∧
      t.wgc.waitLimit = s.wgc.waitLimit ∧ t.eu.unmasked = s.eu.unmasked ∧ t.eu.senses = s.eu.senses ∧
      t.tcu.areas = s.tcu.areas ∧ t.ct.disc = s.ct.disc ∧ t.ct.zones = s.ct.zones ∧
      (s.tcu.trial = none → t.ct = s.ct ∧ t.tcu = s.tcu) ∧
      (m = .standby ∨ m = .configure → t.wgc.queue = [] ∧ t.wgc.gate = .idle) ∧
      (s.wgc.queue = [] → s.tcu.trial = none → s.room 2 → Notice.modeChanged s.mc.mode m ∈ t.eu.notices)) ∧
  (∀ (s : State) (m : Mode) (g : Segment) (rest : List Segment), s.takesFrames →
    (s.mc.mode = .record ∧ m = .configure) ∨ (s.mc.mode = .selftest ∧ (m = .standby ∨ m = .configure)) →
    s.tcu.trial = none → s.wgc.queue = g :: rest →
    ∃ t, exec (.requestMode (ModeFields.bytes ⟨m.code, none⟩)) s = .next t ∧
      t.mc = { s.mc with mode := m, request := none } ∧
      t.wgc = { s.wgc with
        gate := .idle, user := none, queue := [], arm := false, exitMark := false
        returns := if g.state = .writing ∨ g.state = .suspending then { sum := 0, count := 0 } else s.wgc.returns } ∧
      t.wsg = s.wsg.stop ∧ t.ldu.driven = .read ∧ t.ldu.writeSet = none ∧
      (s.room 3 → Notice.modeChanged s.mc.mode m ∈ t.eu.notices ∧
        Notice.queueFlushed (rest.length + 1) ∈ t.eu.notices ∧
        (g.state = .waiting → Notice.segmentHalted g.tag .mode g.done none ∈ t.eu.notices) ∧
        (g.state = .writing ∨ g.state = .suspending →
          Notice.segmentHalted g.tag .mode g.done (some g.next) ∈ t.eu.notices))) ∧
  (∀ (s : State) (g : Segment) (rest : List Segment), s.takesFrames → s.mc.mode = .read → s.tcu.trial = none →
    s.wgc.queue = g :: rest → s.wgc.gate = .idle → s.wgc.user = none →
    ∃ t, exec (.requestMode (ModeFields.bytes ⟨3, none⟩)) s = .next t ∧
      t.mc = { s.mc with mode := .record, request := none } ∧
      (g.state = .suspended ∨ g.state = .halted → t.wgc = { s.wgc with exitMark := false }) ∧
      (g.state = .queued → s.runProtected g.surface g.next g.last = false →
        t.wgc = { s.wgc with
          exitMark := false, gate := .waiting, user := some .segment, wait := 0
          queue := { g with state := .waiting } :: rest }) ∧
      (g.state = .queued → s.runProtected g.surface g.next g.last = true → rest = [] →
        t.wgc = { s.wgc with exitMark := false, queue := [] } ∧
        (s.room 3 → Notice.segmentRefused g.tag ∈ t.eu.notices))) ∧
  ∀ (s : State) (g : Surface) (a n : Nat) (body : Body), s.takesFrames → s.mc.mode = .standby → s.ct.disc ≠ none →
    s.ct.hasSurface g = true → a < s.ct.blocks → a < 256 ^ 3 → 100 ≤ n → n ≤ 10000 →
    body = ModeFields.bytes ⟨4, some ⟨a, g.code, n⟩⟩ →
    ∃ t, exec (.requestMode body) s = .next t ∧
      t.pt = { s.pt with
        state := .lost, coast := 0, genRunning := true, genSurface := g, genNext := a, genInterval := n } ∧
      t = { s with
        mc := { s.mc with mode := .selftest, request := none }
        pt := t.pt
        ldu := { s.ldu with levels := t.levelsNow }
        wgc := { s.wgc with exitMark := false }
        eu := t.eu
        free := t.free
        cl := Cl.answered 1 body .pending false (modeByte .selftest ++ [0]) }

/-- An exit from RECORD waits for a segment WRITING, which becomes SUSPENDING with reason MODE, or for a trial, whose
MODE mark is set; where nothing writes it completes at once, and a head that is QUEUED or WAITING is SUSPENDED with
reason MODE; a second target takes the place of the first; a request for RECORD withdraws the exit, removes the MODE
mark, so that the mark is again as if it had never been set (R110; log entry 10), and leaves the segment as it is.
The exit completes at the boundary that suspends the segment, and at the end of the trial, which its mark brings at
the next boundary; where there is room, MODE_CHANGED joins after the notice of the block that let it complete (R8,
R177). -/
def Obligations.ExitFromRecordWaitsAndIsWithdrawn : Prop :=
  (∀ (s : State) (m : Mode), s.takesFrames → s.settled → s.mc.mode = .record → m = .read ∨ m = .standby →
    (s.mc.request = none →
      (∀ (g : Segment) (rest : List Segment), s.tcu.trial = none → s.wgc.queue = g :: rest → g.state = .writing →
        exec (.requestMode (ModeFields.bytes ⟨m.code, none⟩)) s = .next { s with
          mc := { s.mc with request := some m }
          wgc := { s.wgc with
            exitMark := true, queue := { g with state := .suspending, reason := some .mode } :: rest }
          cl := Cl.answered 1 (ModeFields.bytes ⟨m.code, none⟩) .pending false
            (modeByte .record ++ [1] ++ modeByte m) }) ∧
      (∀ x : Trial, s.tcu.trial = some x → s.wgc.queue = [] →
        exec (.requestMode (ModeFields.bytes ⟨m.code, none⟩)) s = .next { s with
          mc := { s.mc with request := some m }
          wgc := { s.wgc with exitMark := true }
          tcu := { s.tcu with trial := some { x with modeMark := true } }
          cl := Cl.answered 1 (ModeFields.bytes ⟨m.code, none⟩) .pending false
            (modeByte .record ++ [1] ++ modeByte m) }) ∧
      (s.stopped = true → s.tcu.trial = none →
        ∃ t, exec (.requestMode (ModeFields.bytes ⟨m.code, none⟩)) s = .next t ∧
          t.mc = { s.mc with mode := m, request := none } ∧
          t.cl = Cl.answered 1 (ModeFields.bytes ⟨m.code, none⟩) .pending false (modeByte m ++ [0]) ∧
          (m = .standby → t.wgc.queue = []) ∧
          (m = .read → ∀ (g : Segment) (rest : List Segment), s.wgc.queue = g :: rest →
            (g.state = .queued ∨ g.state = .waiting →
              t.wgc.queue = { g with state := .suspended, reason := some .mode } :: rest) ∧
            (g.state = .suspended ∨ g.state = .halted → t.wgc.queue = s.wgc.queue)))) ∧
    (∀ first : Mode, s.mc.request = some first →
      (s.stopped = false →
        exec (.requestMode (ModeFields.bytes ⟨m.code, none⟩)) s = .next { s with
          mc := { s.mc with request := some m }
          cl := Cl.answered 1 (ModeFields.bytes ⟨m.code, none⟩) .pending false
            (modeByte .record ++ [1] ++ modeByte m) }) ∧
      (s.stopped = true →
        ∃ t, exec (.requestMode (ModeFields.bytes ⟨m.code, none⟩)) s = .next t ∧
          t.mc = { s.mc with mode := m, request := none } ∧
          t.cl = Cl.answered 1 (ModeFields.bytes ⟨m.code, none⟩) .pending false (modeByte m ++ [0])))) ∧
  (∀ (s : State) (m : Mode), s.takesFrames → s.mc.mode = .record → s.mc.request = some m →
    exec (.requestMode (ModeFields.bytes ⟨3, none⟩)) s = .next { s with
      mc := { s.mc with request := none }
      wgc := { s.wgc with exitMark := false }
      tcu := { s.tcu with trial := s.tcu.trial.map (fun x => { x with modeMark := false }) }
      cl := Cl.answered 1 (ModeFields.bytes ⟨3, none⟩) .ok false (modeByte .record ++ [0]) }) ∧
  (∀ x : Trial,
    x.mark = if x.modeMark = true then some .mode else if x.inhibitMark = true then some .inhibit else none) ∧
  (∀ (s : State) (m : Mode) (g : Segment) (rest : List Segment) (why : SegReason) (valid : Bool), s.mc.mode = .record →
    s.mc.request = some m → m = .read ∨ m = .standby → s.tcu.trial = none → s.wgc.queue = g :: rest →
    g.state = .suspending → g.reason = some why → g.done + 1 < g.count → (∀ h ∈ rest, h.state.writes = false) →
    s.passesBoundary valid →
    ∃ t, exec (.positionRecord valid s.pt.surface s.pt.predicted) s = .next t ∧
      t.mc = { s.mc with mode := m, request := none } ∧ t.pt.state = .lost ∧ t.wgc.gate = .idle ∧
      t.wgc.user = none ∧ t.wgc.exitMark = false ∧ t.ldu.driven = .read ∧
      (m = .standby → t.wgc.queue = []) ∧
      (m = .read → ∃ h, t.wgc.queue = h :: rest ∧ h.state = .suspended ∧ h.reason = some why ∧
        h.done = g.done + 1) ∧
      (s.room 6 → ∃ x y z, t.eu.notices = s.eu.notices ++
        (x ++ .segmentSuspended g.tag (g.next + 1) (g.count - (g.done + 1)) why ::
          (y ++ .modeChanged .record m :: z)))) ∧
  (∀ (s : State) (m : Mode) (x : Trial) (valid : Bool), s.mc.mode = .record → s.mc.request = some m →
    m = .read ∨ m = .standby → s.tcu.trial = some x → x.modeMark = true →
    (x.sub = .measuring → x.index < x.steps.length) → s.wgc.queue = [] → s.passesBoundary valid →
    ∃ t, exec (.positionRecord valid s.pt.surface s.pt.predicted) s = .next t ∧
      t.mc = { s.mc with mode := m, request := none } ∧ t.tcu = { s.tcu with trial := none } ∧
      t.ct = s.ct.putRecord x.key x.saved ∧ t.pt.state = .lost ∧ t.wgc.gate = .idle ∧ t.wgc.exitMark = false ∧
      (s.room 4 → Notice.modeChanged .record m ∈ t.eu.notices ∧
        (x.sub ≠ .measuring → ∃ y z w, t.eu.notices = s.eu.notices ++
          (y ++ .calDone (s.calDone x .aborted (some .mode) none) :: (z ++ .modeChanged .record m :: w))))) ∧
  (∀ (s : State) (m : Mode) (x : Trial), s.takesFrames → s.mc.mode = .record → s.mc.request = some m →
    m = .read ∨ m = .standby → s.tcu.trial = some x → s.wgc.queue = [] →
    ∃ t, exec (.abortCal []) s = .next t ∧ t.mc = { s.mc with mode := m, request := none } ∧ t.tcu.trial = none ∧
      t.pt.state = .lost ∧ t.wgc.gate = .idle ∧ t.wgc.exitMark = false)

/-- SET_SCAN and SET_OFFSET are taken in STOPPED and refused BUSY otherwise; SET_WINDOW is taken in every scan state.
Each changes its own setting alone. A channel or a sign of no such name, a limit above 4095 and a low limit above the
high one are refused BAD_VALUE, and so is an enable byte above 1 (the model's reading, log entry 12). STOP_SCAN is
BUSY while the recording path may need the scan, makes it STOPPING otherwise, and changes nothing when the scan is
not RUNNING. -/
def Obligations.MonitorSettingsAreReplaced : Prop :=
  ∀ s : State, s.takesFrames →
    (∀ l : List Channel, s.mon.scanState = .stopped → 1 ≤ l.length → l.length ≤ 8 →
      exec (.setScan (nameListBytes (l.map (fun c => c.index.val)))) s = .next { s with
        mon := { s.mon with scanList := l, position := 0 }
        cl := Cl.answered 3 (nameListBytes (l.map (fun c => c.index.val))) .ok false [] }) ∧
    (∀ l : List Nat, (∀ x ∈ l, x < 256) → l.length ≤ 61 → s.mon.scanState ≠ .stopped →
      exec (.setScan (nameListBytes l)) s = .next (s.setCl (Cl.answered 3 (nameListBytes l) .busy false []))) ∧
    (∀ l : List Nat, (∀ x ∈ l, x < 256) → l.length ≤ 61 → s.mon.scanState = .stopped →
      l = [] ∨ 8 < l.length ∨ (∃ x ∈ l, 8 ≤ x) →
      exec (.setScan (nameListBytes l)) s = .next (s.setCl (Cl.answered 3 (nameListBytes l) .badValue false []))) ∧
    (∀ (c : Channel) (sign : Sign) (k m : Nat), nameAt Sign.all k = some sign → m < 256 →
      s.mon.scanState = .stopped →
      exec (.setOffset (OffsetFields.bytes ⟨c.index, k, m⟩)) s = .next { s with
        mon := { s.mon with offsets := s.mon.offsets.put c.index { sign := sign, magnitude := min 31 m } }
        cl := Cl.answered 6 (OffsetFields.bytes ⟨c.index, k, m⟩) .ok (decide (31 < m)) (natBytes 1 (min 31 m)) }) ∧
    (∀ f : OffsetFields, f.channel < 256 → f.sign < 256 → f.magnitude < 256 → s.mon.scanState ≠ .stopped →
      exec (.setOffset f.bytes) s = .next (s.setCl (Cl.answered 6 f.bytes .busy false []))) ∧
    (∀ f : OffsetFields, f.channel < 256 → f.sign < 256 → f.magnitude < 256 → s.mon.scanState = .stopped →
      8 ≤ f.channel ∨ 2 ≤ f.sign →
      exec (.setOffset f.bytes) s = .next (s.setCl (Cl.answered 6 f.bytes .badValue false []))) ∧
    (∀ (c : Channel) (lo hi : Nat) (on : Bool), lo ≤ hi → hi ≤ 4095 →
      exec (.setWindow (WindowFields.bytes ⟨c.index, lo, hi, on.toNat⟩)) s = .next { s with
        mon := { s.mon with windows := s.mon.windows.put c.index { low := lo, high := hi, enabled := on } }
        cl := Cl.answered 7 (WindowFields.bytes ⟨c.index, lo, hi, on.toNat⟩) .ok false [] }) ∧
    (∀ f : WindowFields, f.channel < 256 → f.low < 65536 → f.high < 65536 → f.enable < 256 →
      8 ≤ f.channel ∨ 4095 < f.low ∨ 4095 < f.high ∨ f.high < f.low ∨ 2 ≤ f.enable →
      exec (.setWindow f.bytes) s = .next (s.setCl (Cl.answered 7 f.bytes .badValue false []))) ∧
    (s.mon.scanState = .running → s.wgc.gate ≠ .idle ∨ s.wgc.queue ≠ [] ∨ s.wgc.arm = true →
      exec (.stopScan []) s = .next (s.setCl (Cl.answered 5 [] .busy false []))) ∧
    (s.mon.scanState = .running → s.wgc.gate = .idle → s.wgc.queue = [] → s.wgc.arm = false →
      exec (.stopScan []) s = .next { s with
        mon := { s.mon with scanState := .stopping }, cl := Cl.answered 5 [] .ok false [] }) ∧
    (s.mon.scanState ≠ .running →
      exec (.stopScan []) s = .next (s.setCl (Cl.answered 5 [] .ok false [])))

/-- R37: START_SCAN, by the scan state. Where it starts the scan, the conversion of the first entry is in flight. -/
def Obligations.StartScanByTheScanState : Prop :=
  ∀ s : State, s.takesFrames →
    (s.mon.scanState = .stopped → s.mon.scanList = [] →
      exec (.startScan []) s = .next (s.setCl (Cl.answered 4 [] .badValue false []))) ∧
    (s.mon.scanState = .stopped → s.mon.scanList ≠ [] →
      ∃ t, exec (.startScan []) s = .next t ∧ t.mon.inFlight = s.mon.scanList.head? ∧
        t = { s with mon := { s.mon with scanState := .running, position := 0 },
                     cl := Cl.answered 4 [] .ok false [] }) ∧
    (s.mon.scanState = .running →
      exec (.startScan []) s = .next (s.setCl (Cl.answered 4 [] .ok false []))) ∧
    (s.mon.scanState = .stopping →
      exec (.startScan []) s = .next (s.setCl (Cl.answered 4 [] .busy false [])))

/-- The corrected value of a raw count (R40). -/
def Sys2Proof.Machine.Mon.correctedValue (m : Mon) (c : Channel) (raw : RawCount) : Nat :=
  match (m.offsets.get c.index).sign with
  | .plus => min 4095 (raw.toNat + (m.offsets.get c.index).magnitude)
  | .minus => raw.toNat - (m.offsets.get c.index).magnitude

/-- A value lies above, or below, an enabled window (R42). -/
def Sys2Proof.Machine.Mon.outOfWindow (m : Mon) (c : Channel) (v : Nat) : Prop :=
  (m.windows.get c.index).enabled = true ∧ ((m.windows.get c.index).high < v ∨ v < (m.windows.get c.index).low)

/-- A completion: the corrected value is stored and counted, the scan moves on, the channel's sense follows the
judgement and no other sense changes. A judgement that moves the sense from in to out latches the channel's WIN_*
event, and raises it where the latch was clear and the event is unmasked: the notice is in the queue unless the step
dropped one, which the dropped count shows while it is below 255. Any other judgement leaves that latch, and the
latches of the other channels' events stand (R43, R172). Without a conversion in flight nothing happens: the part has
no such completion, and the model takes the row as none (the model's choice, log entry 13). -/
def Obligations.CompletionIsCorrectedStoredAndJudged : Prop :=
  (∀ (s : State) (raw : RawCount), s.mon.inFlight = none → exec (.conversionComplete raw) s = .next s) ∧
  (∀ (s : State) (raw : RawCount) (c : Channel), s.mon.inFlight = some c →
    ∃ t, exec (.conversionComplete raw) s = .next t ∧
      t.mon = { s.mon with
        latest := s.mon.latest.put c.index (s.mon.correctedValue c raw)
        counts := s.mon.counts.put c.index ((s.mon.counts.get c.index + 1) % 65536)
        measured := if c = .temp then
            some (clampInt (-400) 1250 (250 + divRound (((s.mon.correctedValue c raw : Int) - 1000) * 9) 8))
          else s.mon.measured
        position := if s.mon.position + 1 < s.mon.scanList.length then s.mon.position + 1 else 0
        scanState := if s.mon.scanState = .stopping then .stopped else s.mon.scanState } ∧
      (∀ d : Channel, d ≠ c → t.eu.senses.get d.index = s.eu.senses.get d.index) ∧
      (s.mon.outOfWindow c (s.mon.correctedValue c raw) → t.eu.senses.get c.index = .outside) ∧
      (¬ s.mon.outOfWindow c (s.mon.correctedValue c raw) → t.eu.senses.get c.index = .inside) ∧
      (s.eu.senses.get c.index = .inside → s.mon.outOfWindow c (s.mon.correctedValue c raw) →
        t.eu.latches.get c.event = true ∧
        (s.eu.latches.get c.event = false → s.eu.unmasked.get c.event = true → s.eu.dropped < 255 →
          t.eu.dropped = s.eu.dropped → Notice.eventRaised c.event (some (.window .outside)) ∈ t.eu.notices)) ∧
      (s.eu.senses.get c.index = .outside ∨ ¬ s.mon.outOfWindow c (s.mon.correctedValue c raw) →
        t.eu.latches.get c.event = s.eu.latches.get c.event) ∧
      (∀ d : Channel, d ≠ c → t.eu.latches.get d.event = s.eu.latches.get d.event) ∧
      t.pu = s.pu ∧ t.cl = s.cl ∧ t.cs = s.cs ∧ t.lines = s.lines)

/-- What a sample is gathered for: an RSUM value joins the return level of a block being written, and RSUM, RTOP and
RBOT values join the step that a trial measures; an AUX value joins nothing. -/
def Obligations.SamplesAreGathered : Prop :=
  ∀ (s : State) (raw : RawCount) (c : Channel) (v : Nat), s.mon.inFlight = some c → s.mc.request = none →
    v = s.mon.correctedValue c raw → c = .rsum ∨ c = .rtop ∨ c = .rbot ∨ c = .aux →
    ∃ t, exec (.conversionComplete raw) s = .next t ∧
      t = { s with mon := t.mon, eu := t.eu, wgc := t.wgc, tcu := t.tcu, free := t.free } ∧
      t.wgc = (if c = .rsum ∧ s.wgc.headWrites = true then
          { s.wgc with returns := { sum := s.wgc.returns.sum + v, count := s.wgc.returns.count + 1 } }
        else s.wgc) ∧
      (s.tcu.trial = none ∨ c = .aux → t.tcu = s.tcu) ∧
      (∀ x, s.tcu.trial = some x → x.sub ≠ .measuring → t.tcu = s.tcu) ∧
      (∀ x, s.tcu.trial = some x → x.sub = .measuring → c ≠ .aux →
        t.tcu = { s.tcu with trial := some { x with steps := x.steps.modify (x.index - 1) (fun g =>
          if c = .rsum then { g with rsum := { sum := g.rsum.sum + v, count := g.rsum.count + 1 } }
          else if c = .rtop then { g with rtop := { sum := g.rtop.sum + v, count := g.rtop.count + 1 } }
          else { g with rbot := { sum := g.rbot.sum + v, count := g.rbot.count + 1 } }) } })

/-- An FMON value above an enabled window with the gate not OPEN puts the part in FAULT from every other mode: the
pending request goes, FAULT_ENTERED is latched, every current is 0 and READ is driven. The segment queue is kept: a
WAITING head is HALTED with reason FAULT and without a damaged block, and a SUSPENDED, HALTED or QUEUED head stands
(R155). No head is QUEUED beside a trial with an exit pending (ExitSound), and one that writes holds the gate OPEN.
MODE_CHANGED and SEGMENT_HALTED are queued where there is room. -/
def Obligations.FrontMonitorLightEntersFault : Prop :=
  ∀ (s : State) (raw : RawCount), s.mon.inFlight = some .fmon →
    (s.mon.windows.get Channel.fmon.index).enabled = true →
    (s.mon.windows.get Channel.fmon.index).high < s.mon.correctedValue .fmon raw →
    s.wgc.gate ≠ .opened → s.mc.mode ≠ .fault →
    ∃ t, exec (.conversionComplete raw) s = .next t ∧ t.mc = { s.mc with mode := .fault, request := none } ∧
      t.eu.latches.get .faultEntered = true ∧ t.pt.state = .lost ∧ t.wgc.gate = .idle ∧ t.wgc.arm = false ∧
      t.tcu.trial = none ∧ t.ldu.driven = .read ∧ t.ldu.writeSet = none ∧
      t.ldu.levels.read.current = 0 ∧ t.ldu.levels.peak.current = 0 ∧ t.ldu.levels.bias.current = 0 ∧
      t.ldu.levels.cool.current = 0 ∧ t.ldu.outputCode = 0 ∧ t.wgc.user = none ∧ t.wgc.exitMark = false ∧
      (s.room 8 → Notice.modeChanged s.mc.mode .fault ∈ t.eu.notices) ∧
      (s.wgc.queue = [] →
        t.wgc = { s.wgc with gate := .idle, user := none, arm := false, exitMark := false }) ∧
      (∀ (g : Segment) (rest : List Segment), s.wgc.queue = g :: rest →
        (g.state = .waiting →
          t.wgc = { s.wgc with
            gate := .idle, user := none, arm := false, exitMark := false
            queue := { g with state := .halted, reason := some .fault, damaged := none } :: rest } ∧
          (s.room 8 → Notice.segmentHalted g.tag .fault g.done none ∈ t.eu.notices)) ∧
        (g.state = .suspended ∨ g.state = .halted ∨
            (g.state = .queued ∧ (s.tcu.trial = none ∨ s.wgc.exitMark = false)) →
          t.wgc = { s.wgc with gate := .idle, user := none, arm := false, exitMark := false }))

/-- An entry into the limited condition: a level whose flag was clear comes out limited. In SELFTEST the flag of READ
alone counts, since the other three take it (R54, R58). -/
def Sys2Proof.Machine.Levels.entersLimit (old : Levels) (mode : Mode) (new : Levels) : Prop :=
  (old.read.limited = false ∧ new.read.limited = true) ∨
    (mode ≠ .selftest ∧
      ((old.peak.limited = false ∧ new.peak.limited = true) ∨ (old.bias.limited = false ∧ new.bias.limited = true) ∨
        (old.cool.limited = false ∧ new.cool.limited = true)))

/-- A computation of the levels latches CURRENT_LIMIT at an entry into the limited condition, and leaves that latch
otherwise (R58). -/
def Sys2Proof.Machine.LimitIsLatched (s t : State) : Prop :=
  (s.ldu.levels.entersLimit s.mc.mode t.ldu.levels → t.eu.latches.get .currentLimit = true) ∧
    (¬ s.ldu.levels.entersLimit s.mc.mode t.ldu.levels →
      t.eu.latches.get .currentLimit = s.eu.latches.get .currentLimit)

/-- APC: a qualifying FMON completion moves Ioff by a quarter of the error, held to its range, with the clamp mark
telling whether it was held; an FMON completion that does not qualify leaves both. An update that is held while the
mark is clear latches APC_LIMIT, and every other completion leaves that latch (R66); the levels computed after an
update latch CURRENT_LIMIT at an entry into the limited condition (R58). -/
def Obligations.ApcTrimsTheOffset : Prop :=
  (∀ (s : State) (raw : RawCount) (r : CharRecord), s.mon.inFlight = some .fmon → s.mc.request = none →
    ¬ ((s.mon.windows.get Channel.fmon.index).enabled = true ∧
      (s.mon.windows.get Channel.fmon.index).high < s.mon.correctedValue .fmon raw) →
    s.ldu.apcOn = true → s.cs.characterization = some r → s.mc.mode.laserOff = false → s.wgc.gate ≠ .opened →
    ∃ t, exec (.conversionComplete raw) s = .next t ∧
      (∀ wanted : Int, wanted = s.ldu.ioff -
          divRound (((s.mon.correctedValue .fmon raw : Int) -
              divRoundNat (s.ldu.readPower.get s.pt.surface * r.fmonGain) 1000) * 1000000)
            (r.fmonGain * slope r s.temperature * 4) →
        t.ldu.ioff = clampInt (-20000) 20000 wanted ∧
        t.ldu.clampMark = decide (clampInt (-20000) 20000 wanted ≠ wanted) ∧
        (clampInt (-20000) 20000 wanted ≠ wanted → s.ldu.clampMark = false → t.eu.latches.get .apcLimit = true) ∧
        (clampInt (-20000) 20000 wanted = wanted ∨ s.ldu.clampMark = true →
          t.eu.latches.get .apcLimit = s.eu.latches.get .apcLimit)) ∧
      LimitIsLatched s t ∧
      t.ldu.levels = t.levelsNow ∧ t.ldu.readPower = s.ldu.readPower ∧ t.ldu.apcOn = s.ldu.apcOn ∧
      t.ldu.writeSet = s.ldu.writeSet ∧ t.ldu.driven = s.ldu.driven ∧ t.mc = s.mc ∧ t.wgc = s.wgc ∧ t.ct = s.ct ∧
      t.tcu = s.tcu ∧ t.wsg = s.wsg) ∧
  (∀ (s : State) (raw : RawCount), s.mon.inFlight = some .fmon →
    s.ldu.apcOn = false ∨ s.cs.characterization = none ∨ s.mc.mode.laserOff = true ∨ s.wgc.gate = .opened →
    ∃ t, exec (.conversionComplete raw) s = .next t ∧ t.ldu.ioff = s.ldu.ioff ∧
      t.ldu.clampMark = s.ldu.clampMark ∧ t.eu.latches.get .apcLimit = s.eu.latches.get .apcLimit)

/-- A TEMP completion sets T by its code, recomputes the levels, with CURRENT_LIMIT latched at an entry into the
limited condition (R58), and makes STALE exactly the VALID records further than the stale span from T. -/
def Obligations.TemperatureCompletionActsOnLevelsAndRecords : Prop :=
  ∀ (s : State) (raw : RawCount), s.mon.inFlight = some .temp → s.mc.request = none →
    ∃ t, exec (.conversionComplete raw) s = .next t ∧
      t.temperature = clampInt (-400) 1250 (250 + divRound (((s.mon.correctedValue .temp raw : Int) - 1000) * 9) 8) ∧
      t.ldu = { s.ldu with levels := t.levelsNow } ∧ LimitIsLatched s t ∧
      (∀ (k : CalKey) (x : CalFields), s.ct.record k = { state := .valid, fields := some x } →
        (s.ct.staleSpan : Int) < |x.calTemp - t.temperature| →
        t.ct.record k = { state := .stale, fields := some x } ∧ t.eu.latches.get .calStale = true) ∧
      (∀ (k : CalKey) (x : CalFields), s.ct.record k = { state := .valid, fields := some x } →
        |x.calTemp - t.temperature| ≤ (s.ct.staleSpan : Int) → t.ct.record k = s.ct.record k) ∧
      (∀ k : CalKey, (s.ct.record k).state ≠ .valid → t.ct.record k = s.ct.record k) ∧
      t.ct.disc = s.ct.disc ∧ t.ct.zones = s.ct.zones ∧ t.ct.staleSpan = s.ct.staleSpan ∧ t.mc = s.mc ∧
      t.wgc = s.wgc ∧ t.tcu = s.tcu ∧ t.wsg = s.wsg ∧ t.pt = s.pt

/-- A TERR or VLD value out of its window, and a loss or a jump of the position, stop a segment that is writing at
once: the gate is IDLE, the head HALTED with its reason and damaged block, the latch clear, and SEGMENT_HALTED is
queued where there is room. A loss or a jump halts a WAITING segment too, without a damaged block. PT latches the
event in its own handling of the arrival, so that EVENT_RAISED, where the latch was clear and the event is unmasked,
joins ahead of SEGMENT_HALTED (R28, R177). The report that goes out, `Pt.report`, carries the held surface with the
current address, or with the predicted one and the arrival that jumped (R28). -/
def Obligations.TrackingSupplyOrPositionHaltsTheSegment : Prop :=
  (∀ (s : State) (raw : RawCount) (c : Channel) (why : SegReason) (g : Segment) (rest : List Segment),
    (c = .terr ∧ why = .tracking) ∨ (c = .vld ∧ why = .supply) → s.mon.inFlight = some c →
    s.mon.outOfWindow c (s.mon.correctedValue c raw) → s.mc.request = none → s.tcu.trial = none →
    s.wgc.queue = g :: rest → g.state = .writing ∨ g.state = .suspending →
    ∃ t, exec (.conversionComplete raw) s = .next t ∧
      t.wgc = { s.wgc with
        gate := .idle, user := none, arm := false, returns := { sum := 0, count := 0 }
        queue := { g with state := .halted, reason := some why, damaged := some g.next } :: rest } ∧
      t.ldu = { s.ldu with driven := .read } ∧ t.wsg = s.wsg.stop ∧ t.mc = s.mc ∧ t.ct = s.ct ∧ t.tcu = s.tcu ∧
      t.pt = s.pt ∧
      (s.room 2 → Notice.segmentHalted g.tag why g.done (some g.next) ∈ t.eu.notices)) ∧
  (∀ (s : State) (v : Bool) (f : Surface) (a : Nat) (g : Segment) (rest : List Segment) (e : Event)
    (told : List Notice),
    s.losesPosition v f a →
    (e = .positionJump ∧ s.ct.arrival v f a = some (f, a)) ∨ (e = .positionLost ∧ s.ct.arrival v f a = none) →
    told = (if s.eu.latches.get e = false ∧ s.eu.unmasked.get e = true then [.eventRaised e none] else []) →
    s.mc.mode = .record → s.mc.request = none → s.tcu.trial = none → s.wgc.queue = g :: rest →
    ∃ t, exec (.positionRecord v f a) s = .next t ∧ t.mc = s.mc ∧ t.ct = s.ct ∧ t.tcu = s.tcu ∧ t.mon = s.mon ∧
      t.pu = s.pu ∧ t.cl = s.cl ∧ t.cs = s.cs ∧ t.lines = s.lines ∧ t.pt.state ≠ .locked ∧
      t.eu.latches.get e = true ∧
      (g.state = .writing ∨ g.state = .suspending →
        t.wgc = { s.wgc with
          gate := .idle, user := none, arm := false, returns := { sum := 0, count := 0 }
          queue := { g with state := .halted, reason := some .position, damaged := some g.next } :: rest } ∧
        t.ldu = { s.ldu with driven := .read } ∧ t.wsg = s.wsg.stop ∧
        (s.room 2 → t.eu.notices = s.eu.notices ++ told ++ [.segmentHalted g.tag .position g.done (some g.next)])) ∧
      (g.state = .waiting →
        t.wgc = { s.wgc with
          gate := .idle, user := none, arm := false
          queue := { g with state := .halted, reason := some .position, damaged := none } :: rest } ∧
        t.ldu = { s.ldu with driven := .read } ∧ t.wsg = s.wsg.stop ∧
        (s.room 2 → t.eu.notices = s.eu.notices ++ told ++ [.segmentHalted g.tag .position g.done none])) ∧
      (g.state = .queued ∨ g.state = .suspended ∨ g.state = .halted →
        t.wgc = s.wgc ∧ t.ldu = s.ldu ∧ t.wsg = s.wsg)) ∧
  (∀ (s : State) (v : Bool) (f : Surface) (a : Nat),
    (v = true → a < s.ct.blocks → s.ct.hasSurface f = true →
      s.ct.arrival v f a = some (f, a) ∧
      s.pt.report (s.ct.arrival v f a) = .jump s.pt.surface s.pt.predicted f a) ∧
    (v = false ∨ s.ct.blocks ≤ a ∨ s.ct.hasSurface f = false →
      s.ct.arrival v f a = none ∧ s.pt.report (s.ct.arrival v f a) = .loss s.pt.surface s.pt.current))

/-- What LDU makes of a power above 0 and of a power of 0 (R55, R57, R58, R59). -/
def Sys2Proof.Machine.LevelState.converts (l : LevelState) (r : CharRecord) (t ioff : Int) (power : Nat) : Prop :=
  l.power = power ∧ (power = 0 → l.current = 0 ∧ l.code = 0 ∧ l.limited = false) ∧
    (0 < power → ∀ sum : Int,
      sum = clampInt 0 r.imax (r.ith0 + divRound (r.kI * (t - r.t0)) 10) + ioff +
        divRound (power * 1000) (clampInt 100 4000 (r.eta0 - divRound (r.kEta * (t - r.t0)) 10)) →
      (l.current : Int) = clampInt 0 r.imax sum ∧ l.limited = decide ((r.imax : Int) < sum) ∧
        (l.code : Int) = min 4095 (divRound l.current 50))

/-- SET_READ_POWER holds the power to 100 to max_read, stores it for the surface, and recomputes the levels; it is
refused WRONG_MODE without an active bank, whatever the surface (where that is above 1 too, the order is the model's
choice, log entry 18), and BAD_VALUE for a surface that is neither 0 nor 1. SET_APC sets the enable alone, in every
mode. CURRENT_LIMIT is latched at an entry into the limited condition, and raised where the latch was clear and the
event is unmasked; otherwise the Event Unit stands (R58, R173). The levels LDU computes: with an active bank in READ,
RECORD and SELFTEST each converts its own power, but in SELFTEST the write levels take the current, the code and the
flag of READ; otherwise every one is dark. -/
def Obligations.LaserSettingsAreTaken : Prop :=
  (∀ (s : State) (w : PowerSet), w = s.ldu.writeSet.getD { peak := 0, bias := 0, cool := 0 } →
    s.levelsNow.read.power = s.ldu.readPower.get s.pt.surface ∧ s.levelsNow.peak.power = w.peak ∧
    s.levelsNow.bias.power = w.bias ∧ s.levelsNow.cool.power = w.cool ∧
    (∀ r : CharRecord, s.cs.characterization = some r →
      s.mc.mode = .read ∨ s.mc.mode = .record ∨ s.mc.mode = .selftest →
      s.levelsNow.read.converts r s.temperature s.ldu.ioff (s.ldu.readPower.get s.pt.surface) ∧
      (s.mc.mode ≠ .selftest → s.levelsNow.peak.converts r s.temperature s.ldu.ioff w.peak ∧
        s.levelsNow.bias.converts r s.temperature s.ldu.ioff w.bias ∧
        s.levelsNow.cool.converts r s.temperature s.ldu.ioff w.cool) ∧
      (s.mc.mode = .selftest → ∀ l ∈ [s.levelsNow.peak, s.levelsNow.bias, s.levelsNow.cool],
        l = { s.levelsNow.read with power := l.power })) ∧
    (s.cs.characterization = none ∨ s.mc.mode = .configure ∨ s.mc.mode = .standby ∨ s.mc.mode = .fault →
      ∀ l ∈ [s.levelsNow.read, s.levelsNow.peak, s.levelsNow.bias, s.levelsNow.cool],
        l.current = 0 ∧ l.code = 0 ∧ l.limited = false)) ∧
  ∀ (s : State) (p : Nat), s.takesFrames → p < 65536 →
    (∀ (r : CharRecord) (f : Surface), s.cs.characterization = some r →
      ∃ t, exec (.setReadPower (ReadPowerFields.bytes ⟨f.code, p⟩)) s = .next t ∧
        t.ldu = { s.ldu with
          readPower := s.ldu.readPower.put f (max 100 (min r.maxRead p)), levels := t.levelsNow } ∧
        t.cl = Cl.answered 9 (ReadPowerFields.bytes ⟨f.code, p⟩) .ok (decide (max 100 (min r.maxRead p) ≠ p))
          (surfaceByte f ++ natBytes 2 (max 100 (min r.maxRead p))) ∧
        t.mc = s.mc ∧ t.pt = s.pt ∧ t.mon = s.mon ∧ t.ct = s.ct ∧ t.tcu = s.tcu ∧ t.wsg = s.wsg ∧ t.wgc = s.wgc ∧
        t.pu = s.pu ∧ t.cs = s.cs ∧ t.lines = s.lines ∧
        LimitIsLatched s t ∧
        (s.settled → ¬ s.ldu.levels.entersLimit s.mc.mode t.ldu.levels → t.eu = s.eu ∧ t.free = s.free) ∧
        (s.room 1 → s.ldu.levels.entersLimit s.mc.mode t.ldu.levels →
          (s.eu.latches.get .currentLimit = true → t.eu = s.eu) ∧
          (s.eu.latches.get .currentLimit = false → s.eu.unmasked.get .currentLimit = false →
            t.eu = { s.eu with latches := s.eu.latches.put .currentLimit true }) ∧
          (s.eu.latches.get .currentLimit = false → s.eu.unmasked.get .currentLimit = true →
            t.eu = { s.eu with
              latches := s.eu.latches.put .currentLimit true
              notices := s.eu.notices ++ [.eventRaised .currentLimit none] }))) ∧
    (∀ f : Nat, f < 256 → s.cs.characterization = none →
      exec (.setReadPower (ReadPowerFields.bytes ⟨f, p⟩)) s =
        .next (s.setCl (Cl.answered 9 (ReadPowerFields.bytes ⟨f, p⟩) .wrongMode false []))) ∧
    (∀ f : Nat, f < 256 → s.cs.characterization ≠ none → 2 ≤ f →
      exec (.setReadPower (ReadPowerFields.bytes ⟨f, p⟩)) s =
        .next (s.setCl (Cl.answered 9 (ReadPowerFields.bytes ⟨f, p⟩) .badValue false []))) ∧
    (∀ on : Bool, exec (.setApc (natBytes 1 on.toNat)) s = .next { s with
      ldu := { s.ldu with apcOn := on }, cl := Cl.answered 10 (natBytes 1 on.toNat) .ok false [] })

/-- The fields of GET_SAMPLES (R46) and of GET_LASER (R71), the two of Ith and η in the state of an active bank. -/
def Sys2Proof.Machine.ReadingsAreCarried (s : State) : Prop :=
  samplesBody s.mon = natBytes 1 s.mon.scanState.code ++ natBytes 1 s.mon.scanList.length ++
    s.mon.scanList.flatMap (fun c => natBytes 1 c.index) ++
    [Channel.fmon, .rsum, .rtop, .rbot, .temp, .vld, .terr, .aux].flatMap (fun c =>
      natBytes 2 (s.mon.latest.get c.index) ++ natBytes 2 (s.mon.counts.get c.index)) ∧
  ∀ tail : Body,
    (s.cs.characterization = none → tail = [0]) →
    (∀ r, s.cs.characterization = some r →
      tail = [1] ++ natBytes 3 (clampInt 0 r.imax (r.ith0 + divRound (r.kI * (s.temperature - r.t0)) 10)).toNat ++
        natBytes 2 (clampInt 100 4000 (r.eta0 - divRound (r.kEta * (s.temperature - r.t0)) 10)).toNat) →
    laserBody s = intBytes 2 s.temperature ++ intBytes 2 s.ldu.ioff ++ flagByte s.ldu.apcOn ++
      flagByte s.ldu.clampMark ++ natBytes 2 (s.ldu.readPower.get .zero) ++ natBytes 2 (s.ldu.readPower.get .one) ++
      natBytes 1 s.pt.surface.code ++ flagByte (decide (s.ldu.writeSet ≠ none)) ++ natBytes 1 s.ldu.driven.code ++
      [s.ldu.levels.read, s.ldu.levels.peak, s.ldu.levels.bias, s.ldu.levels.cool].flatMap (fun l =>
        natBytes 3 l.power ++ natBytes 3 l.current ++ natBytes 2 l.code ++ flagByte l.limited) ++ tail

/-- The fields of GET_CAL, single form and list form, whose list holds the usable records of a surface and speed
class in ascending zone order (R82), and of GET_STRATEGY (R119). -/
def Sys2Proof.Machine.TablesAreCarried (s : State) : Prop :=
  (∀ st : CalState, calRecordBody { state := st, fields := none } = natBytes 1 st.code ++ [0]) ∧
  (∀ (st : CalState) (x : CalFields),
    calRecordBody { state := st, fields := some x } = natBytes 1 st.code ++ [1] ++ natBytes 3 x.peak ++
      natBytes 2 x.bias ++ natBytes 2 x.cool ++ intBytes 2 x.target ++ intBytes 2 x.calTemp ++
      natBytes 1 x.source.code) ∧
  (∀ (f : Surface) (v : Speed), ∃ (l : List (Fin 8 × CalState × CalFields)) (tail : Body),
    l.Pairwise (fun x y => x.1 < y.1) ∧
    (∀ (z : Fin 8) (st : CalState) (x : CalFields), (z, st, x) ∈ l ↔
      s.ct.record { surface := f, speed := v, zone := z } = { state := st, fields := some x } ∧
        (st = .valid ∨ st = .stale)) ∧
    (s.ct.zones.get f = none → tail = [0]) ∧
    (∀ z, s.ct.zones.get f = some z →
      tail = [1] ++ [(z.t0, z.t1), (z.t1, z.t2), (z.t2, z.t3), (z.t3, z.t4), (z.t4, z.t5), (z.t5, z.t6), (z.t6, z.t7),
        (z.t7, s.ct.blocks)].flatMap (fun p => natBytes 3 p.1 ++ natBytes 3 (divRoundNat (p.1 + p.2) 2))) ∧
    calListBody s.ct f v = natBytes 1 l.length ++
      l.flatMap (fun e => natBytes 1 e.1 ++ natBytes 3 e.2.2.peak ++ natBytes 2 e.2.2.bias ++ natBytes 2 e.2.2.cool ++
        intBytes 2 e.2.2.target ++ natBytes 1 e.2.1.code ++ intBytes 2 e.2.2.calTemp ++ natBytes 1 e.2.2.source.code) ++
      natBytes 2 s.ct.staleSpan ++ tail) ∧
  (∀ v : Speed, s.wsg.complete v = true ↔
    ∀ m ∈ [MarkClass.m2, .m3, .m4, .m5p], (s.wsg.entries.get v.index).get m.index ≠ none) ∧
  (∀ head : Body, head = natBytes 1 s.wsg.speed.index ++
      [Speed.s1, .s2, .s3, .s4].flatMap (fun v => flagByte (s.wsg.complete v)) →
    strategyBody s.wsg none = head ++ [0] ∧
    ∀ v : Speed, strategyBody s.wsg (some v) = head ++ ([1] : Body) ++
      [MarkClass.m2, .m3, .m4, .m5p].flatMap (fun m => match (s.wsg.entries.get v.index).get m.index with
        | none => ([0] : Body)
        | some e =>
          ([1] : Body) ++
            [e.leadDelay, e.leadWidth, e.midWidth, e.tailWidth, e.coolWidth].flatMap (intBytes 1)))

/-- The fields of GET_TRIAL (R96), of GET_QUEUE with one entry for each segment, head first (R157), and of
GET_PROTECT (R169). -/
def Sys2Proof.Machine.RecordingIsCarried (s : State) : Prop :=
  trialBody s =
    presence [decide (s.tcu.areas.get .zero ≠ none), decide (s.tcu.areas.get .one ≠ none), decide (s.tcu.trial ≠ none),
      s.tcu.trial.any (fun t => t.inhibitMark || t.modeMark)] ++
    [Surface.zero, .one].flatMap (fun f => optionalBytes (fun a : TestArea => natBytes 3 a.first ++
      natBytes 2 a.length ++ natBytes 3 a.next ++ natBytes 2 (a.first + a.length - a.next)) (s.tcu.areas.get f)) ++
    optionalBytes (fun t : Trial => natBytes 1 t.key.surface.code ++ natBytes 1 t.key.speed.index ++
      natBytes 1 t.key.zone ++ natBytes 3 t.first ++ natBytes 1 t.steps.length ++ natBytes 1 t.sub.code ++
      natBytes 1 t.index ++
      natBytes 1 ((s.tcu.areas.get t.key.surface).elim 0 (fun a => a.next - t.first))) s.tcu.trial ++
    optionalBytes (fun t : Trial => if t.modeMark = true then [1] else if t.inhibitMark = true then [0] else [])
      s.tcu.trial ∧
  queueBody s.wgc = natBytes 1 s.wgc.gate.code ++ natBytes 1 (GateUser.code s.wgc.user) ++ flagByte s.wgc.arm ++
    flagByte s.wgc.exitMark ++ natBytes 2 s.wgc.correction ++ natBytes 3 s.wgc.wait ++ natBytes 2 s.wgc.waitLimit ++
    flagByte s.wgc.rpcOn ++ natBytes 1 s.wgc.deadband ++ natBytes 1 s.wgc.rpcStep ++
    natBytes 1 s.wgc.queue.length ++
    s.wgc.queue.flatMap (fun g => natBytes 2 g.tag ++ natBytes 1 g.surface.code ++ natBytes 1 g.link.code ++
      natBytes 3 g.start ++ natBytes 3 (g.start + g.count - 1) ++ natBytes 3 (g.start + g.done) ++ natBytes 2 g.done ++
      natBytes 2 (g.count - g.done) ++ natBytes 1 g.state.code ++
      presence [decide (g.reason ≠ none), decide (g.damaged ≠ none)] ++
      optionalBytes (fun r : SegReason => natBytes 1 r.code) g.reason ++ optionalBytes (natBytes 3) g.damaged) ++
    presence [decide (s.wgc.append ≠ none), decide (s.wgc.wRef ≠ none)] ++
    optionalBytes (fun a : Surface × Nat => natBytes 1 a.1.code ++ natBytes 3 a.2) s.wgc.append ++
    optionalBytes (natBytes 2) s.wgc.wRef ∧
  protectBody s =
    [s.pu.maps.get .zero, s.pu.maps.get .one].flatMap (fun m =>
      natBytes 1 m.code ++ natBytes 1 m.side.code ++ flagByte m.complement) ++
    [Surface.zero, .one].flatMap (fun f => match s.protRange f with
      | .empty => ([0] : Body)
      | .run first last => [1] ++ natBytes 3 first ++ natBytes 3 last
      | .absent => [2]) ++
    natBytes 1 s.pu.lock.code ++ natBytes 1 s.pu.sense.code

/-- The fields of GET_EVENTS (R176), of GET_STATUS, with the candidate in ACQUIRING and the held position in LOCKED
(R33, R192), and of GET_IDENT (R200). -/
def Sys2Proof.Machine.StatusIsCarried (s : State) : Prop :=
  (∀ events : List Event,
    events = [.winFmon, .winRsum, .winRtop, .winRbot, .winTemp, .winVld, .winTerr, .winAux, .positionLost,
      .positionJump, .currentLimit, .apcLimit, .rpcLimit, .calStale, .inhibitChanged, .linkError, .noticeOverflow,
      .faultEntered] →
    eventsBody s = events.flatMap (fun e => flagByte (s.eu.latches.get e)) ++
      events.flatMap (fun e => flagByte (s.eu.unmasked.get e)) ++
      [Channel.fmon, .rsum, .rtop, .rbot, .temp, .vld, .terr, .aux].flatMap (fun c =>
        natBytes 1 (s.eu.senses.get c.index).code) ++
      natBytes 1 s.eu.inhibitSense.code ++ natBytes 1 s.eu.dropped ++ natBytes 1 s.eu.notices.length ++
      natBytes 1 (40 - s.mc.segDepth) ∧
    ∀ position : Option (Surface × Nat),
      position = (match s.pt.state with
        | .lost => none
        | .acquiring => some (s.pt.candSurface, s.pt.candAddress)
        | .locked => some (s.pt.surface, s.pt.current)) →
      statusBody s = natBytes 1 s.mc.mode.code ++ natBytes 1 s.pt.state.code ++ natBytes 1 s.wgc.gate.code ++
        natBytes 1 (GateUser.code s.wgc.user) ++ natBytes 1 s.wgc.queue.length ++ natBytes 1 s.eu.notices.length ++
        flagByte s.wgc.arm ++ natBytes 1 s.pu.sense.code ++ flagByte (decide (s.tcu.trial ≠ none)) ++
        flagByte (events.any (fun e => s.eu.latches.get e)) ++ natBytes 1 s.eu.dropped ++
        presence [decide (s.mc.request ≠ none), decide (position ≠ none)] ++
        optionalBytes (fun m : Mode => natBytes 1 m.code) s.mc.request ++
        optionalBytes (fun a : Surface × Nat => natBytes 1 a.1.code ++ natBytes 3 a.2) position) ∧
  ∀ store : Nat × Option BankNo,
    store = (match s.cs.store with
      | .idle => (0, none)
      | .writing b _ => (1, some b)
      | .locking b => (2, some b)) →
    identBody s.cs = natBytes 2 0x4120 ++ natBytes 1 1 ++ natBytes 8 Config.dieSerial.toNat ++
      [s.cs.banks.get .b0, s.cs.banks.get .b1, s.cs.banks.get .b2].flatMap (fun b =>
        flagByte b.valid ++ flagByte b.locked) ++
      natBytes 1 store.1 ++ presence [decide (store.2 ≠ none), decide (s.cs.active ≠ none)] ++
      optionalBytes (fun b : BankNo => natBytes 1 b.code) store.2 ++
      optionalBytes (fun a : ActiveBank => natBytes 1 a.bank.code ++ natBytes 3 a.record.ith0 ++
        natBytes 2 a.record.eta0 ++ intBytes 2 a.record.t0 ++ natBytes 2 a.record.kI ++ natBytes 1 a.record.kEta ++
        natBytes 3 a.record.imax ++ natBytes 2 a.record.fmonGain ++ natBytes 2 a.record.maxRead) s.cs.active

/-- Every query answers OK with its body in every mode, and changes the link alone; the fields of the bodies are
those of the four propositions above, which the statement holds. GET_CAL and GET_STRATEGY are refused BAD_VALUE for a
surface, a speed class or a zone of no such number. The order of a body where R188 leaves it open is the model's (log
entry 11), and so are the step index that GET_TRIAL gives in READ_WAIT (log entry 19) and the absent fields that
GET_CAL gives of a record in TRIAL whose trial began on an EMPTY one (log entry 22). -/
def Obligations.QueriesAnswerAndChangeNothing : Prop :=
  ∀ s : State, s.takesFrames →
    exec (.getSamples []) s = .next (s.setCl (Cl.answered 8 [] .ok false (samplesBody s.mon))) ∧
    exec (.getLaser []) s = .next (s.setCl (Cl.answered 11 [] .ok false (laserBody s))) ∧
    (∀ (f : Surface) (v : Speed) (z : Fin 8),
      exec (.getCal (GetCalFields.bytes ⟨f.code, v.index, some z⟩)) s =
        .next (s.setCl (Cl.answered 17 (GetCalFields.bytes ⟨f.code, v.index, some z⟩) .ok false
          (calRecordBody (s.ct.record { surface := f, speed := v, zone := z }))))) ∧
    (∀ (f : Surface) (v : Speed),
      exec (.getCal (GetCalFields.bytes ⟨f.code, v.index, none⟩)) s =
        .next (s.setCl (Cl.answered 17 (GetCalFields.bytes ⟨f.code, v.index, none⟩) .ok false
          (calListBody s.ct f v)))) ∧
    exec (.getTrial []) s = .next (s.setCl (Cl.answered 22 [] .ok false (trialBody s))) ∧
    exec (.getStrategy (getStrategyBytes none)) s =
      .next (s.setCl (Cl.answered 25 (getStrategyBytes none) .ok false (strategyBody s.wsg none))) ∧
    (∀ v : Speed, exec (.getStrategy (getStrategyBytes (some v.index))) s =
      .next (s.setCl (Cl.answered 25 (getStrategyBytes (some v.index)) .ok false (strategyBody s.wsg (some v))))) ∧
    exec (.getQueue []) s = .next (s.setCl (Cl.answered 34 [] .ok false (queueBody s.wgc))) ∧
    exec (.getProtect []) s = .next (s.setCl (Cl.answered 37 [] .ok false (protectBody s))) ∧
    exec (.getEvents []) s = .next (s.setCl (Cl.answered 40 [] .ok false (eventsBody s))) ∧
    exec (.getStatus []) s = .next (s.setCl (Cl.answered 41 [] .ok false (statusBody s))) ∧
    exec (.getIdent []) s = .next (s.setCl (Cl.answered 47 [] .ok false (identBody s.cs))) ∧
    (∀ f : GetCalFields, f.surface < 256 → f.speed < 256 → (∀ z, f.zone = some z → z < 256) →
      2 ≤ f.surface ∨ 4 ≤ f.speed ∨ (∃ z, f.zone = some z ∧ 8 ≤ z) →
      exec (.getCal f.bytes) s = .next (s.setCl (Cl.answered 17 f.bytes .badValue false []))) ∧
    (∀ v : Nat, 4 ≤ v → v < 256 →
      exec (.getStrategy (getStrategyBytes (some v))) s =
        .next (s.setCl (Cl.answered 25 (getStrategyBytes (some v)) .badValue false []))) ∧
    ReadingsAreCarried s ∧ TablesAreCarried s ∧ RecordingIsCarried s ∧ StatusIsCarried s

/-- SET_DISC in STANDBY with no disc sets the disc and the default starts of each surface it has; SET_ZONES replaces
a surface's starts, and makes its records EMPTY when any start differs; the refusals of both. That SET_DISC answers
BUSY where a field is out of range too is the model's choice (log entry 18). Eight starts without a count byte are
the model's reading of R188 (log entry 11). -/
def Obligations.DiscAndZonesAreSet : Prop :=
  ∀ s : State, s.takesFrames →
    (∀ (m : Media) (dual : Bool) (n : Nat), s.mc.mode = .standby → s.ct.disc = none → 1024 ≤ n → n ≤ 1048576 →
      exec (.setDisc (DiscFields.bytes ⟨m.code, if dual then 2 else 1, n⟩)) s = .next { s with
        ct := { s.ct with
          disc := some { media := m, dual := dual, blocks := n }
          zones :=
            { t0 := some ⟨0, n / 8, 2 * (n / 8), 3 * (n / 8), 4 * (n / 8), 5 * (n / 8), 6 * (n / 8), 7 * (n / 8)⟩
              t1 := if dual then
                  some ⟨0, n / 8, 2 * (n / 8), 3 * (n / 8), 4 * (n / 8), 5 * (n / 8), 6 * (n / 8), 7 * (n / 8)⟩
                else none } }
        cl := Cl.answered 12 (DiscFields.bytes ⟨m.code, if dual then 2 else 1, n⟩) .ok false
          (natBytes 1 m.code ++ natBytes 1 (if dual then 2 else 1) ++ natBytes 3 n) }) ∧
    (∀ f : DiscFields, f.media < 256 → f.surfaces < 256 → f.blocks < 256 ^ 3 →
      (s.mc.mode ≠ .standby →
        exec (.setDisc f.bytes) s = .next (s.setCl (Cl.answered 12 f.bytes .wrongMode false []))) ∧
      (s.mc.mode = .standby → s.ct.disc ≠ none →
        exec (.setDisc f.bytes) s = .next (s.setCl (Cl.answered 12 f.bytes .busy false []))) ∧
      (s.mc.mode = .standby → s.ct.disc = none →
        2 ≤ f.media ∨ f.surfaces = 0 ∨ 3 ≤ f.surfaces ∨ f.blocks < 1024 ∨ 1048576 < f.blocks →
        exec (.setDisc f.bytes) s = .next (s.setCl (Cl.answered 12 f.bytes .badValue false [])))) ∧
    (∀ (f : Surface) (z : Eight Nat), s.mc.mode = .standby → s.ct.hasSurface f = true → s.ct.blocks ≤ 1048576 →
      z.t0 = 0 → z.t0 < z.t1 → z.t1 < z.t2 → z.t2 < z.t3 → z.t3 < z.t4 → z.t4 < z.t5 → z.t5 < z.t6 →
      z.t6 < z.t7 → z.t7 < s.ct.blocks →
      (s.ct.zones.get f = some z →
        exec (.setZones (ZoneFields.bytes ⟨f.code, z⟩)) s =
          .next (s.setCl (Cl.answered 13 (ZoneFields.bytes ⟨f.code, z⟩) .ok false [0]))) ∧
      (s.ct.zones.get f ≠ some z →
        ∃ t, exec (.setZones (ZoneFields.bytes ⟨f.code, z⟩)) s = .next t ∧
          t.ct.zones = s.ct.zones.put f (some z) ∧ t.ct.disc = s.ct.disc ∧ t.ct.staleSpan = s.ct.staleSpan ∧
          (∀ k : CalKey, k.surface = f → t.ct.record k = { state := .empty, fields := none }) ∧
          (∀ k : CalKey, k.surface ≠ f → t.ct.record k = s.ct.record k) ∧
          t = { s with
            ct := t.ct
            cl := Cl.answered 13 (ZoneFields.bytes ⟨f.code, z⟩) .ok false (natBytes 1 (s.ct.usableCount f)) })) ∧
    (∀ f : ZoneFields, f.surface < 256 → (∀ i : Fin 8, f.starts.get i < 256 ^ 3) →
      s.mc.mode ≠ .standby ∨ s.ct.disc = none →
      exec (.setZones f.bytes) s = .next (s.setCl (Cl.answered 13 f.bytes .wrongMode false []))) ∧
    (∀ f : ZoneFields, f.surface < 256 → (∀ i : Fin 8, f.starts.get i < 256 ^ 3) →
      s.mc.mode = .standby → s.ct.disc ≠ none →
      2 ≤ f.surface ∨ (∃ g : Surface, f.surface = g.code ∧ s.ct.hasSurface g = false) ∨ f.starts.t0 ≠ 0 ∨
        (∃ i j : Fin 8, i.val + 1 = j.val ∧ f.starts.get j ≤ f.starts.get i) ∨ s.ct.blocks ≤ f.starts.t7 →
      exec (.setZones f.bytes) s = .next (s.setCl (Cl.answered 13 f.bytes .badValue false [])))

/-- DISC_UNLOAD in STANDBY clears what belongs to the disc in five blocks, and PU by its lock mode. -/
def Obligations.DiscUnloadClearsWhatTheDiscBound : Prop :=
  ∀ s : State, s.takesFrames →
    (s.mc.mode ≠ .standby →
      exec (.discUnload []) s = .next (s.setCl (Cl.answered 14 [] .wrongMode false []))) ∧
    (s.mc.mode = .standby →
      ∃ t, exec (.discUnload []) s = .next t ∧ t.ct.disc = none ∧ (∀ f, t.ct.zones.get f = none) ∧
        (∀ k, t.ct.record k = { state := .empty, fields := none }) ∧ t.ct.staleSpan = s.ct.staleSpan ∧
        (∀ f, t.tcu.areas.get f = none) ∧ t.tcu.trial = s.tcu.trial ∧
        (∀ i j, (t.wsg.entries.get i).get j = none) ∧ t.wsg = { s.wsg with entries := t.wsg.entries } ∧
        t.wgc = { s.wgc with append := none } ∧ t.pu.sense = s.pu.sense ∧
        (s.pu.lock = .power → t.pu = s.pu) ∧
        (s.pu.lock ≠ .power → (∀ f, t.pu.maps.get f = { code := 0, side := .inner, complement := false }) ∧
          t.pu.lock = if s.pu.lock = .line then .line else .opened) ∧
        t = { s with ct := t.ct, tcu := t.tcu, wsg := t.wsg, wgc := t.wgc, pu := t.pu,
                     cl := Cl.answered 14 [] .ok false [] })

/-- PUT_CAL writes the record VALID with source HOST and the temperature of the moment, its peak held to 1,000 to
80,000; INVALIDATE_CAL makes it EMPTY. Both leave every other record, and both are BUSY on a record in TRIAL. The
refusals of both in the order of R80's checks: the mode, the disc, the key, the record in TRIAL whatever the other
fields, and for PUT_CAL the two ratios and the target; each changes the link alone. The order of the echoed record is
the model's (log entry 11). -/
def Obligations.RecordsArePutAndInvalidated : Prop :=
  (∀ (s : State) (f : KeyFields) (peak bias cool : Nat) (target : Int) (put : Body), s.takesFrames →
    f.surface < 256 → f.speed < 256 → f.zone < 256 → peak < 256 ^ 3 → bias < 65536 → cool < 65536 →
    -32768 ≤ target → target ≤ 32767 → put = PutCalFields.bytes ⟨f, peak, bias, cool, target⟩ →
    (s.mc.mode = .configure ∨ s.mc.mode = .fault ∨ s.ct.disc = none →
      exec (.putCal put) s = .next (s.setCl (Cl.answered 15 put .wrongMode false [])) ∧
      exec (.invalidateCal f.bytes) s = .next (s.setCl (Cl.answered 16 f.bytes .wrongMode false []))) ∧
    (s.mc.mode = .standby ∨ s.mc.mode = .read ∨ s.mc.mode = .record ∨ s.mc.mode = .selftest → s.ct.disc ≠ none →
      (2 ≤ f.surface ∨ (∃ g : Surface, f.surface = g.code ∧ s.ct.hasSurface g = false) ∨ 4 ≤ f.speed ∨ 8 ≤ f.zone →
        exec (.putCal put) s = .next (s.setCl (Cl.answered 15 put .badValue false [])) ∧
        exec (.invalidateCal f.bytes) s = .next (s.setCl (Cl.answered 16 f.bytes .badValue false []))) ∧
      (∀ k : CalKey, s.ct.hasSurface k.surface = true → f = ⟨k.surface.code, k.speed.index, k.zone⟩ →
        ((s.ct.record k).state = .trial →
          exec (.putCal put) s = .next (s.setCl (Cl.answered 15 put .busy false []))) ∧
        ((s.ct.record k).state ≠ .trial → 1000 < bias ∨ 1000 < cool ∨ target < -200 ∨ 200 < target →
          exec (.putCal put) s = .next (s.setCl (Cl.answered 15 put .badValue false [])))))) ∧
  ∀ (s : State) (k : CalKey), s.takesFrames →
    s.mc.mode = .standby ∨ s.mc.mode = .read ∨ s.mc.mode = .record ∨ s.mc.mode = .selftest →
    s.ct.hasSurface k.surface = true →
    (∀ (peak bias cool : Nat) (target : Int) (body : Body), peak < 256 ^ 3 → bias ≤ 1000 → cool ≤ 1000 →
      -200 ≤ target → target ≤ 200 →
      body = PutCalFields.bytes ⟨⟨k.surface.code, k.speed.index, k.zone⟩, peak, bias, cool, target⟩ →
      ((s.ct.record k).state ≠ .trial →
        ∃ t, exec (.putCal body) s = .next t ∧
          t.ct.record k = ⟨.valid, some ⟨max 1000 (min 80000 peak), bias, cool, target, s.temperature, .host⟩⟩ ∧
          (∀ j, j ≠ k → t.ct.record j = s.ct.record j) ∧
          t = { s with ct := { s.ct with records := t.ct.records }, cl := t.cl } ∧
          t.cl = Cl.answered 15 body .ok (decide (max 1000 (min 80000 peak) ≠ peak))
            (natBytes 3 (max 1000 (min 80000 peak)) ++ natBytes 2 bias ++ natBytes 2 cool ++ intBytes 2 target ++
              natBytes 1 2 ++ intBytes 2 s.temperature ++ natBytes 1 1)) ∧
      ((s.ct.record k).state = .trial →
        exec (.putCal body) s = .next (s.setCl (Cl.answered 15 body .busy false [])))) ∧
    (∀ body : Body, body = KeyFields.bytes ⟨k.surface.code, k.speed.index, k.zone⟩ →
      ((s.ct.record k).state ≠ .trial →
        ∃ t, exec (.invalidateCal body) s = .next t ∧ t.ct.record k = { state := .empty, fields := none } ∧
          (∀ j, j ≠ k → t.ct.record j = s.ct.record j) ∧
          t = { s with ct := { s.ct with records := t.ct.records }, cl := t.cl } ∧
          t.cl = Cl.answered 16 body .ok false (natBytes 1 (s.ct.record k).state.code)) ∧
      ((s.ct.record k).state = .trial →
        exec (.invalidateCal body) s = .next (s.setCl (Cl.answered 16 body .busy false []))))

/-- A boundary that does not begin what waits, being of kind COASTED, on another surface or at another address,
raises the wait counter of a WAITING segment or of a trial that waits to write or to read; a count past the wait
limit ends the wait with START_NOT_FOUND: the segment is HALTED without a damaged block and the latch is clear, and
the trial ends with its record restored. -/
def Obligations.WaitingCountsBoundaries : Prop :=
  (∀ (s : State) (v : Bool) (g : Segment) (rest : List Segment), s.mc.mode = .record → s.mc.request = none →
    s.tcu.trial = none → s.wgc.queue = g :: rest → g.state = .waiting → s.holdsPosition →
    (v = true ∧ (s.pt.surface ≠ g.surface ∨ s.pt.predicted ≠ g.next)) ∨ (v = false ∧ s.pt.coast < 3) →
    ∃ t, exec (.positionRecord v s.pt.surface s.pt.predicted) s = .next t ∧ BoundaryKeeps s t ∧ t.ct = s.ct ∧
      t.tcu = s.tcu ∧
      (s.wgc.wait + 1 ≤ s.wgc.waitLimit →
        t.wgc = { s.wgc with wait := s.wgc.wait + 1 } ∧ t.ldu = s.ldu ∧ t.wsg = s.wsg ∧
        (s.settled → t.eu = s.eu)) ∧
      (s.wgc.waitLimit < s.wgc.wait + 1 →
        t.wgc = { s.wgc with
          wait := s.wgc.wait + 1, gate := .idle, user := none, arm := false
          queue := { g with state := .halted, reason := some .startNotFound, damaged := none } :: rest } ∧
        t.ldu = { s.ldu with driven := .read } ∧ t.wsg = s.wsg.stop ∧
        (s.room 1 → t.eu.notices = s.eu.notices ++ [.segmentHalted g.tag .startNotFound g.done none]))) ∧
  (∀ (s : State) (v : Bool) (x : Trial), s.mc.mode = .record → s.mc.request = none → s.headOffGate →
    s.tcu.trial = some x → x.mark = none → x.sub = .writeWait ∨ x.sub = .readWait → s.holdsPosition →
    (v = true ∧ (s.pt.surface ≠ x.key.surface ∨ s.pt.predicted ≠ x.first)) ∨ (v = false ∧ s.pt.coast < 3) →
    ∃ t, exec (.positionRecord v s.pt.surface s.pt.predicted) s = .next t ∧ BoundaryKeeps s t ∧
      (x.wait + 1 ≤ s.wgc.waitLimit →
        t.tcu = { s.tcu with trial := some { x with wait := x.wait + 1 } } ∧ t.ct = s.ct ∧ t.wgc = s.wgc ∧
        t.ldu = s.ldu ∧ t.wsg = s.wsg) ∧
      (s.wgc.waitLimit < x.wait + 1 → s.wgc.queue = [] →
        t.tcu = { s.tcu with trial := none } ∧ t.ct = s.ct.putRecord x.key x.saved ∧
        t.wgc = { s.wgc with gate := .idle, user := none } ∧ t.ldu = { s.ldu with driven := .read } ∧
        t.wsg = s.wsg.stop ∧
        (s.room 1 → t.eu.notices = s.eu.notices ++ [.calDone (s.calDone x .startNotFound none none)])))

/-- With starts that begin at 0 and strictly ascend, every block lies in its zone and in no other, and the centres
strictly ascend. -/
def Obligations.EveryBlockLiesInOneZone : Prop :=
  ∀ (z : Eight Nat) (n a : Nat), startsGood z n = true → a < n →
    z.get (zoneOf z a) ≤ a ∧ a < zoneEnd z n (zoneOf z a) ∧
      (∀ y : Fin 8, z.get y ≤ a → a < zoneEnd z n y → y = zoneOf z a) ∧
      (∀ x y : Fin 8, x.val + 1 = y.val → zoneCentre z n x < zoneCentre z n y)

/-- The answer to a power request: none without a zone table of the surface or a usable record of the block's own
zone; with the zone below as neighbour for a block below its zone's centre and the zone above otherwise, flat where
there is no such zone or its record is not usable; on the line between the two centres otherwise, and between the two
peaks. The ratios, the zone and the state are those of the own record. -/
def Obligations.PowerRequestInterpolates : Prop :=
  (∀ (c : Ct) (v : Speed) (f : Surface) (a : Nat), c.zones.get f = none → c.powerFor v f a = none) ∧
  ∀ (c : Ct) (v : Speed) (f : Surface) (starts : Eight Nat) (a : Nat), c.zones.get f = some starts →
    startsGood starts c.blocks = true → a < c.blocks →
    ((c.record { surface := f, speed := v, zone := zoneOf starts a }).usable = none → c.powerFor v f a = none) ∧
    (∀ (r : CalFields) (below : Bool),
      (c.record { surface := f, speed := v, zone := zoneOf starts a }).usable = some r →
      below = decide (a < zoneCentre starts c.blocks (zoneOf starts a)) →
      ∃ p, c.powerFor v f a = some p ∧ p.bias = r.bias ∧ p.cool = r.cool ∧ p.zone = zoneOf starts a ∧
        p.state = (c.record { surface := f, speed := v, zone := zoneOf starts a }).state ∧
        ((below = true ∧ zoneOf starts a = 0) ∨ (below = false ∧ zoneOf starts a = 7) → p.peak = r.peak) ∧
        (∀ y : Fin 8, (below = true ∧ y.val + 1 = (zoneOf starts a).val) ∨
            (below = false ∧ y.val = (zoneOf starts a).val + 1) →
          ((c.record { surface := f, speed := v, zone := y }).usable = none → p.peak = r.peak) ∧
          (∀ q, (c.record { surface := f, speed := v, zone := y }).usable = some q →
            min r.peak q.peak ≤ p.peak ∧ p.peak ≤ max r.peak q.peak ∧
            (below = false → (p.peak : Int) = r.peak + divRound (((q.peak : Int) - r.peak) *
                ((a : Int) - zoneCentre starts c.blocks (zoneOf starts a)))
              ((zoneCentre starts c.blocks y : Int) - zoneCentre starts c.blocks (zoneOf starts a))) ∧
            (below = true → (p.peak : Int) = q.peak + divRound (((r.peak : Int) - q.peak) *
                ((a : Int) - zoneCentre starts c.blocks y))
              ((zoneCentre starts c.blocks (zoneOf starts a) : Int) - zoneCentre starts c.blocks y)))))

/-- SET_TEST_AREA in STANDBY or READ with a disc replaces the surface's area and sets the pointer to its first block. -/
def Obligations.SetTestAreaSetsThePointer : Prop :=
  ∀ (s : State) (a n : Nat), s.takesFrames → a < 256 ^ 3 → n < 65536 →
    (∀ f : Surface, s.mc.mode = .standby ∨ s.mc.mode = .read → s.ct.hasSurface f = true → 16 ≤ n → n ≤ 4096 →
      a + n ≤ s.ct.blocks →
      exec (.setTestArea (AreaFields.bytes ⟨f.code, a, n⟩)) s = .next { s with
        tcu := { s.tcu with areas := s.tcu.areas.put f (some { first := a, length := n, next := a }) }
        cl := Cl.answered 19 (AreaFields.bytes ⟨f.code, a, n⟩) .ok false
          (surfaceByte f ++ natBytes 3 a ++ natBytes 2 n ++ natBytes 3 a ++ natBytes 2 n) }) ∧
    (∀ f : Nat, f < 256 → (s.mc.mode ≠ .standby ∧ s.mc.mode ≠ .read) ∨ s.ct.disc = none →
      exec (.setTestArea (AreaFields.bytes ⟨f, a, n⟩)) s =
        .next (s.setCl (Cl.answered 19 (AreaFields.bytes ⟨f, a, n⟩) .wrongMode false []))) ∧
    (∀ f : Surface, s.mc.mode = .standby ∨ s.mc.mode = .read → s.ct.disc ≠ none →
      s.ct.hasSurface f = false ∨ n < 16 ∨ 4096 < n ∨ s.ct.blocks < a + n →
      exec (.setTestArea (AreaFields.bytes ⟨f.code, a, n⟩)) s =
        .next (s.setCl (Cl.answered 19 (AreaFields.bytes ⟨f.code, a, n⟩) .badValue false []))) ∧
    (∀ f : Nat, 2 ≤ f → f < 256 → s.mc.mode = .standby ∨ s.mc.mode = .read → s.ct.disc ≠ none →
      exec (.setTestArea (AreaFields.bytes ⟨f, a, n⟩)) s =
        .next (s.setCl (Cl.answered 19 (AreaFields.bytes ⟨f, a, n⟩) .badValue false [])))

/-- The widths of a CALIBRATE's fields (R188). -/
def Sys2Proof.Machine.CalibrateFields.fits (f : CalibrateFields) : Prop :=
  f.surface < 256 ∧ f.zone < 256 ∧ f.steps < 256 ∧ f.start < 256 ^ 3 ∧ f.step < 256 ^ 2 ∧
    (∀ x, f.target = some x → -32768 ≤ x ∧ x ≤ 32767) ∧ (∀ x, f.bias = some x → x < 256 ^ 2) ∧
    (∀ x, f.cool = some x → x < 256 ^ 2)

/-- CALIBRATE: a command that passes its ten checks creates the trial, with target, bias and cool each from the
command where present and from the usable record of the key where absent, puts the record in TRIAL and takes the
gate; one that fails a check changes the link alone, and its reply is that check's. -/
def Obligations.CalibrateBeginsATrial : Prop :=
  (∀ (s : State) (f : CalibrateFields), s.takesFrames → f.fits →
    (s.mc.mode ≠ .record →
      exec (.calibrate f.bytes) s = .next (s.setCl (Cl.answered 20 f.bytes .wrongMode false []))) ∧
    (s.mc.mode = .record →
      2 ≤ f.surface ∨ (∃ g : Surface, f.surface = g.code ∧ s.ct.hasSurface g = false) ∨ 8 ≤ f.zone ∨ f.steps < 5 ∨
        15 < f.steps ∨ f.start < 1000 ∨ 80000 < f.start ∨ f.step < 100 ∨ 5000 < f.step ∨
        (∃ x, f.target = some x ∧ (x < -200 ∨ 200 < x)) ∨ (∃ x, f.bias = some x ∧ 1000 < x) ∨
        (∃ x, f.cool = some x ∧ 1000 < x) →
      exec (.calibrate f.bytes) s = .next (s.setCl (Cl.answered 20 f.bytes .badValue false [])))) ∧
  ∀ (s : State) (g : Surface) (z : Fin 8) (steps start step : Nat) (target : Option Int) (bias cool : Option Nat)
    (body : Body),
    s.takesFrames → s.mc.mode = .record → s.ct.hasSurface g = true → 5 ≤ steps → steps ≤ 15 → 1000 ≤ start →
    start ≤ 80000 → 100 ≤ step → step ≤ 5000 → (∀ x, bias = some x → x ≤ 1000) → (∀ x, cool = some x → x ≤ 1000) →
    (∀ x, target = some x → -200 ≤ x ∧ x ≤ 200) →
    body = CalibrateFields.bytes ⟨g.code, z, steps, start, step, target, bias, cool⟩ →
    (s.wgc.gate ≠ .idle → exec (.calibrate body) s = .next (s.setCl (Cl.answered 20 body .busy false []))) ∧
    (s.wgc.gate = .idle → s.pu.sense = .asserted →
      exec (.calibrate body) s = .next (s.setCl (Cl.answered 20 body .inhibited false []))) ∧
    (s.wgc.gate = .idle → s.pu.sense = .released → s.tcu.areas.get g = none →
      exec (.calibrate body) s = .next (s.setCl (Cl.answered 20 body .testAreaFull false []))) ∧
    (∀ a : TestArea, s.wgc.gate = .idle → s.pu.sense = .released → s.tcu.areas.get g = some a →
      (a.first + a.length - a.next < steps →
        exec (.calibrate body) s = .next (s.setCl (Cl.answered 20 body .testAreaFull false []))) ∧
      (steps ≤ a.first + a.length - a.next → s.runProtected g a.next (a.next + steps - 1) = true →
        exec (.calibrate body) s = .next (s.setCl (Cl.answered 20 body .isProtected false []))) ∧
      (steps ≤ a.first + a.length - a.next → s.runProtected g a.next (a.next + steps - 1) = false →
        s.wsg.complete s.wsg.speed = false →
        exec (.calibrate body) s = .next (s.setCl (Cl.answered 20 body .noStrategy false []))) ∧
      (steps ≤ a.first + a.length - a.next → s.runProtected g a.next (a.next + steps - 1) = false →
        s.wsg.complete s.wsg.speed = true → s.mon.serves [.rsum, .rtop, .rbot, .terr] = false →
        exec (.calibrate body) s = .next (s.setCl (Cl.answered 20 body .scanRequired false []))) ∧
      (steps ≤ a.first + a.length - a.next → s.runProtected g a.next (a.next + steps - 1) = false →
        s.wsg.complete s.wsg.speed = true → s.mon.serves [.rsum, .rtop, .rbot, .terr] = true →
        (80000 < start + (steps - 1) * step →
          exec (.calibrate body) s = .next (s.setCl (Cl.answered 20 body .badValue false []))) ∧
        (start + (steps - 1) * step ≤ 80000 →
          ∀ k : CalKey, k = { surface := g, speed := s.wsg.speed, zone := z } →
          (target = none ∨ bias = none ∨ cool = none → (s.ct.record k).state = .empty ∨ (s.ct.record k).state = .trial →
            exec (.calibrate body) s = .next (s.setCl (Cl.answered 20 body .noCalibration false []))) ∧
          (∀ (x : CalFields) (t : Trial),
            s.ct.record k = { state := .valid, fields := some x } ∨
              s.ct.record k = { state := .stale, fields := some x } ∨
              (target ≠ none ∧ bias ≠ none ∧ cool ≠ none) →
            t = { key := k, start := start, step := step, target := target.getD x.target, bias := bias.getD x.bias,
                  cool := cool.getD x.cool, first := a.next, saved := s.ct.record k, sub := .writeWait, index := 0,
                  wait := 0, steps := List.replicate steps TrialStep.fresh, inhibitMark := false,
                  modeMark := s.mc.request.isSome } →
            exec (.calibrate body) s = .next { s with
              tcu := { s.tcu with trial := some t }
              ct := s.ct.putRecord k { (s.ct.record k) with state := .trial }
              wgc := { s.wgc with gate := .waiting, user := some .trial }
              wsg := s.wsg.stop
              ldu := { s.ldu with driven := .read }
              cl := Cl.answered 20 body .pending false
                (keyBytes k ++ natBytes 3 a.next ++ natBytes 1 steps ++ intBytes 2 t.target ++ natBytes 2 t.bias ++
                  natBytes 2 t.cool) }))))

/-- A trial without an abort mark begins to write at the boundary of its first block, with the first step's powers,
the pointer moved past that block and the pattern at its first run; each boundary that follows, until the last step,
begins the next step, be it VALID or COASTED (R100). The gate does not open there while the record-inhibit line is
asserted (R101). -/
def Obligations.TrialWritesStepByStep : Prop :=
  ∀ (s : State) (t : Trial) (a : TestArea) (valid : Bool), s.mc.mode = .record → s.mc.request = none → s.headOffGate →
    s.tcu.trial = some t → t.mark = none → s.tcu.areas.get t.key.surface = some a →
    s.passesBoundary valid →
    ∃ u, exec (.positionRecord valid s.pt.surface s.pt.predicted) s = .next u ∧ BoundaryKeeps s u ∧
      (t.sub = .writeWait → valid = true → s.pt.surface = t.key.surface → s.pt.predicted = t.first →
        s.pu.sense = .released →
        u.ct = s.ct ∧
        u.tcu = {
          areas := s.tcu.areas.put t.key.surface (some { a with next := t.first + 1 })
          trial := some { t with sub := .writing, index := 1, wait := 0 } } ∧
        u.wgc = { s.wgc with gate := .opened, user := some .trial } ∧
        u.ldu.writeSet =
          some { peak := t.start, bias := divRoundNat (t.start * t.bias) 1000
                 cool := divRoundNat (t.start * t.cool) 1000 } ∧
        u.wsg.pattern = some 0 ∧ u.wsg.run = some { kind := .mark, length := 2, start := 0 } ∧
        u.wsg.ahead = some { kind := .space, length := 2 } ∧ u.ldu.levels = u.levelsNow) ∧
      (t.sub = .writeWait → valid = true → s.pt.surface = t.key.surface → s.pt.predicted = t.first →
        s.pu.sense = .asserted → s.wgc.queue = [] →
        u.tcu = { s.tcu with trial := none } ∧ u.wgc = { s.wgc with gate := .idle, user := none }) ∧
      (t.sub = .writing → t.index < t.steps.length →
        u.ct = s.ct ∧
        u.tcu = {
          areas := s.tcu.areas.put t.key.surface (some { a with next := t.first + t.index + 1 })
          trial := some { t with index := t.index + 1 } } ∧
        u.wgc = s.wgc ∧
        (∀ p, p = t.start + t.index * t.step →
          u.ldu.writeSet = some { peak := p, bias := divRoundNat (p * t.bias) 1000
                                  cool := divRoundNat (p * t.cool) 1000 }) ∧
        u.wsg.pattern = some 0 ∧ u.ldu.levels = u.levelsNow)

/-- What ends a trial with outcome ABORTED: ABORT_CAL at once, which finds nothing without a trial; a loss or a jump
of the position at once, in every sub-state; an INHIBIT mark at the next boundary while it waits to write or writes;
a TERR value out of window at once while it writes or measures and a VLD value while it writes, neither in another
sub-state; an entry into FAULT and a change from RECORD to CONFIGURE at once, in every sub-state. Each restores the
record, releases the gate and queues CAL_DONE where there is room. At the release a QUEUED head takes the gate and
waits for its start, with no exit pending, or is refused where it is protected, which is announced after CAL_DONE; a
SUSPENDED or HALTED head stays so with the gate IDLE (R107, R136, R177). -/
def Obligations.AbortsEndTheTrial : Prop :=
  (∀ s : State, s.takesFrames → s.tcu.trial = none →
    exec (.abortCal []) s = .next (s.setCl (Cl.answered 21 [] .nothingPending false []))) ∧
  (∀ (s : State) (t : Trial), s.takesFrames → s.tcu.trial = some t → s.mc.request = none →
    (s.wgc.queue = [] →
      ∃ u, exec (.abortCal []) s = .next u ∧ u.tcu = { s.tcu with trial := none } ∧
        u.ct = s.ct.putRecord t.key t.saved ∧ u.wgc = { s.wgc with gate := .idle, user := none } ∧
        u.ldu = { s.ldu with driven := .read } ∧ u.wsg = s.wsg.stop ∧ u.mc = s.mc ∧ u.pt = s.pt ∧ u.mon = s.mon ∧
        u.pu = s.pu ∧ u.cs = s.cs ∧ u.lines = s.lines ∧
        u.cl = Cl.answered 21 [] .ok false
          (keyBytes t.key ++ natBytes 3 t.first ++ natBytes 1 (s.blocksWritten t)) ∧
        (s.room 1 → u.eu.notices = s.eu.notices ++
          [.calDone (s.calDone t .aborted (some .command) none)])) ∧
    (∀ (g : Segment) (rest : List Segment), s.wgc.queue = g :: rest →
      g.state = .suspended ∨ g.state = .halted ∨
        (g.state = .queued ∧ s.wgc.exitMark = false ∧ s.mc.mode = .record ∧
          s.runProtected g.surface g.next g.last = false) →
      ∃ u, exec (.abortCal []) s = .next u ∧ u.tcu = { s.tcu with trial := none } ∧
        u.ct = s.ct.putRecord t.key t.saved ∧ u.ldu = { s.ldu with driven := .read } ∧ u.wsg = s.wsg.stop ∧
        u.mc = s.mc ∧
        (g.state = .queued →
          u.wgc = { s.wgc with
            gate := .waiting, user := some .segment, wait := 0, queue := { g with state := .waiting } :: rest }) ∧
        (g.state ≠ .queued → u.wgc = { s.wgc with gate := .idle, user := none }) ∧
        (s.room 1 → u.eu.notices = s.eu.notices ++ [.calDone (s.calDone t .aborted (some .command) none)])) ∧
    (∀ g : Segment, s.wgc.queue = [g] → g.state = .queued → s.wgc.exitMark = false → s.mc.mode = .record →
      s.runProtected g.surface g.next g.last = true →
      ∃ u, exec (.abortCal []) s = .next u ∧ u.tcu = { s.tcu with trial := none } ∧
        u.wgc = { s.wgc with gate := .idle, user := none, queue := [] } ∧
        (s.room 2 → u.eu.notices = s.eu.notices ++
          [.calDone (s.calDone t .aborted (some .command) none), .segmentRefused g.tag]))) ∧
  (∀ (s : State) (t : Trial) (v : Bool) (f : Surface) (a : Nat) (why : TrialReason), s.mc.mode = .record →
    s.mc.request = none → s.tcu.trial = some t → s.wgc.queue = [] →
    (why = .position ∧ s.losesPosition v f a) ∨
      (v = true ∧ f = s.pt.surface ∧ a = s.pt.predicted ∧ s.holdsPosition ∧
        why = .inhibit ∧ t.mark = some .inhibit ∧
        (t.sub = .writeWait ∨ (t.sub = .writing ∧ t.index < t.steps.length))) →
    ∃ u, exec (.positionRecord v f a) s = .next u ∧ u.tcu = { s.tcu with trial := none } ∧
      u.ct = s.ct.putRecord t.key t.saved ∧ u.wgc = { s.wgc with gate := .idle, user := none } ∧
      u.ldu = { s.ldu with driven := .read } ∧ u.wsg = s.wsg.stop ∧ BoundaryKeeps s u ∧
      (s.room 2 → Notice.calDone (s.calDone t .aborted (some why) none) ∈ u.eu.notices)) ∧
  (∀ (s : State) (raw : RawCount) (c : Channel) (t : Trial) (why : TrialReason),
    (c = .terr ∧ why = .tracking) ∨ (c = .vld ∧ why = .supply) → s.mon.inFlight = some c →
    s.mon.outOfWindow c (s.mon.correctedValue c raw) → s.mc.request = none → s.tcu.trial = some t →
    s.wgc.queue = [] →
    ∃ u, exec (.conversionComplete raw) s = .next u ∧ u.mc = s.mc ∧ u.pt = s.pt ∧ u.pu = s.pu ∧ u.cl = s.cl ∧
      u.cs = s.cs ∧ u.lines = s.lines ∧
      (t.sub = .writing ∨ (t.sub = .measuring ∧ c = .terr) →
        u.tcu = { s.tcu with trial := none } ∧ u.ct = s.ct.putRecord t.key t.saved ∧
        u.wgc = { s.wgc with gate := .idle, user := none } ∧ u.ldu = { s.ldu with driven := .read } ∧
        u.wsg = s.wsg.stop ∧
        (s.room 2 → Notice.calDone (s.calDone t .aborted (some why) none) ∈ u.eu.notices)) ∧
      (t.sub = .writeWait ∨ t.sub = .readWait ∨ (t.sub = .measuring ∧ c = .vld) →
        u.tcu = s.tcu ∧ u.ct = s.ct ∧ u.wgc = s.wgc ∧ u.ldu = s.ldu ∧ u.wsg = s.wsg)) ∧
  (∀ (s : State) (raw : RawCount) (t : Trial), s.mon.inFlight = some .fmon →
    (s.mon.windows.get Channel.fmon.index).enabled = true →
    (s.mon.windows.get Channel.fmon.index).high < s.mon.correctedValue .fmon raw → s.wgc.gate ≠ .opened →
    s.mc.mode ≠ .fault → s.tcu.trial = some t → s.wgc.queue = [] →
    ∃ u, exec (.conversionComplete raw) s = .next u ∧ u.mc = { s.mc with mode := .fault, request := none } ∧
      u.tcu = { s.tcu with trial := none } ∧ u.ct = s.ct.putRecord t.key t.saved ∧ u.wgc.gate = .idle ∧
      u.wgc.user = none ∧
      (s.room 6 → Notice.calDone (s.calDone t .aborted (some .fault) none) ∈ u.eu.notices)) ∧
  (∀ (s : State) (t : Trial), s.takesFrames → s.mc.mode = .record → s.tcu.trial = some t → s.wgc.queue = [] →
    ∃ u, exec (.requestMode (ModeFields.bytes ⟨0, none⟩)) s = .next u ∧
      u.mc = { s.mc with mode := .configure, request := none } ∧ u.tcu = { s.tcu with trial := none } ∧
      u.ct = s.ct.putRecord t.key t.saved ∧ u.wgc.gate = .idle ∧ u.wgc.user = none ∧ u.ldu.driven = .read ∧
      u.wsg = s.wsg.stop ∧
      (s.room 2 → Notice.calDone (s.calDone t .aborted (some .mode) none) ∈ u.eu.notices ∧
        Notice.modeChanged .record .configure ∈ u.eu.notices))

/-- The READ phase of a trial, boundary by boundary, VALID or COASTED but where it begins (R100). The boundary that
ends the last step closes the gate, removes an INHIBIT mark, and the trial waits to read; the VALID boundary of its
first block begins the measurement; each boundary of it closes the step by R105 and begins the next; the one that
closes the last step makes the fit over the valid steps and ends the trial: the record is set to the fitted power, or
restored, the gate is released, and CAL_DONE is queued where there is room. The step index of READ_WAIT is the
model's choice (log entry 19). -/
def Obligations.TrialReadsAndEnds : Prop :=
  ∀ (s : State) (t : Trial) (valid : Bool), s.mc.mode = .record → s.mc.request = none → s.headOffGate →
    s.tcu.trial = some t → s.passesBoundary valid →
    ∃ u, exec (.positionRecord valid s.pt.surface s.pt.predicted) s = .next u ∧ BoundaryKeeps s u ∧
      (t.sub = .writing → t.steps.length ≤ t.index → t.modeMark = false →
        u.tcu = { s.tcu with trial := some { t with sub := .readWait, wait := 0, inhibitMark := false } } ∧
        u.ct = s.ct ∧ u.wgc = { s.wgc with gate := .waiting, user := some .trial } ∧
        u.ldu = { s.ldu with driven := .read } ∧ u.wsg = s.wsg.stop) ∧
      (t.sub = .readWait → t.modeMark = false → valid = true → s.pt.surface = t.key.surface → s.pt.predicted = t.first →
        u.tcu = { s.tcu with trial := some { t with sub := .measuring, index := 1, wait := 0 } } ∧ u.ct = s.ct ∧
        u.wgc = s.wgc ∧ u.ldu = s.ldu ∧ u.wsg = s.wsg) ∧
      (t.sub = .measuring → t.index < t.steps.length → t.modeMark = false →
        u.tcu = { s.tcu with
          trial := some { t with
            steps := t.steps.modify (t.index - 1) TrialStep.close, index := t.index + 1 } } ∧
        u.ct = s.ct ∧ u.wgc = s.wgc ∧ u.ldu = s.ldu ∧ u.wsg = s.wsg) ∧
      (t.sub = .measuring → t.steps.length ≤ t.index → s.wgc.queue = [] →
        ∀ (x : Trial) (outcome : TrialOutcome) (power : Option Nat),
          x = { t with steps := t.steps.modify (t.index - 1) TrialStep.close } →
          fit t.target (validSteps x.results) = (outcome, power) →
          u.tcu = { s.tcu with trial := none } ∧ u.wgc = { s.wgc with gate := .idle, user := none } ∧
          u.ldu = { s.ldu with driven := .read } ∧ u.wsg = s.wsg.stop ∧
          (power = none → u.ct = s.ct.putRecord t.key t.saved) ∧
          (∀ p, power = some p →
            u.ct = s.ct.putRecord t.key { state := .valid, fields := some {
              peak := clampNat 1000 80000 p, bias := t.bias, cool := t.cool, target := t.target
              calTemp := s.temperature, source := .trial } }) ∧
          (s.room 1 → u.eu.notices = s.eu.notices ++ [.calDone (s.calDone x outcome none power)]))

/-- No step of a list rises across the target from the one before it. -/
def Sys2Proof.Machine.NoRise (target : Int) (l : List (Nat × Int)) : Prop :=
  ∀ before x y after, l = before ++ x :: y :: after → ¬ (x.2 < target ∧ target ≤ y.2)

/-- A step closes with the asymmetry of its three means, or INVALID (R105). The fit over the valid steps: at the
first rise across the target the power on the line between the two steps, which lies from the one to the other;
without a rise, the outcome by the order of the four conditions (R106). -/
def Obligations.StepsAreClosedAndFitted : Prop :=
  (∀ g : TrialStep,
    (g.rtop.count = 0 ∨ g.rbot.count = 0 ∨ g.rsum.count = 0 → g.close = { g with result := .invalid }) ∧
    (0 < g.rtop.count → 0 < g.rbot.count → 0 < g.rsum.count → ∀ h l m : Int,
      h = divRound g.rtop.sum g.rtop.count → l = divRound g.rbot.sum g.rbot.count →
      m = divRound g.rsum.sum g.rsum.count →
      (h - l < 64 → g.close = { g with result := .invalid }) ∧
      (64 ≤ h - l → g.close = { g with
        result := .beta (clampInt (-32768) 32767 (divRound (1000 * (h + l - 2 * m)) (h - l))) }))) ∧
  ∀ target : Int,
    (∀ (before after : List (Nat × Int)) (pj pk : Nat) (bj bk : Int), NoRise target (before ++ [(pj, bj)]) →
      bj < target → target ≤ bk → pj ≤ pk →
      ∃ p : Nat, fit target (before ++ (pj, bj) :: (pk, bk) :: after) = (.set, some p) ∧ pj ≤ p ∧ p ≤ pk ∧
        (p : Int) = pj + divRound (((pk : Int) - pj) * (target - bj)) (bk - bj)) ∧
    (∀ l : List (Nat × Int), NoRise target l →
      (l.length < 2 → fit target l = (.weakSignal, none)) ∧
      (2 ≤ l.length → (∀ x ∈ l, x.2 < target) → fit target l = (.notReached, none)) ∧
      (2 ≤ l.length → (∀ x ∈ l, target ≤ x.2) → fit target l = (.overshot, none)) ∧
      (2 ≤ l.length → (∃ x ∈ l, x.2 < target) → (∃ x ∈ l, target ≤ x.2) → fit target l = (.notReached, none)))

/-- A field of PUT_STRATEGY fits its signed byte (R188). -/
def Sys2Proof.Machine.StrategyEntry.fits (e : StrategyEntry) : Prop := ∀ x ∈ e.fields, -128 ≤ x ∧ x ≤ 127

/-- SET_SPEED sets the class while no segment is queued and no trial is in flight, in every mode, and refuses a value
that is no class with BAD_VALUE (with a segment queued or a trial in flight too, the model's choice, log entry 18).
PUT_STRATEGY loads the entry with its fields held to their ranges and the lead pulse held inside its bound; the reply
names the fields changed. The yes-or-no byte and the list of changed fields are the model's encoding (log entry 11). -/
def Obligations.SpeedAndStrategyAreSet : Prop :=
  (∀ s : State, s.takesFrames →
    (∀ v : Speed, s.wgc.queue = [] → s.tcu.trial = none →
      exec (.setSpeed (natBytes 1 v.index)) s = .next { s with
        wsg := { s.wsg with speed := v }
        cl := Cl.answered 23 (natBytes 1 v.index) .ok false (speedByte v ++ flagByte (s.wsg.complete v)) }) ∧
    (∀ v : Speed, s.wgc.queue ≠ [] ∨ s.tcu.trial ≠ none →
      exec (.setSpeed (natBytes 1 v.index)) s =
        .next (s.setCl (Cl.answered 23 (natBytes 1 v.index) .busy false []))) ∧
    (∀ n : Nat, n < 256 → 4 ≤ n →
      exec (.setSpeed (natBytes 1 n)) s = .next (s.setCl (Cl.answered 23 (natBytes 1 n) .badValue false [])))) ∧
  (∀ (s : State) (f : StrategyFields), s.takesFrames → f.speed < 256 → f.mark < 256 → f.entry.fits →
    4 ≤ f.speed ∨ 4 ≤ f.mark →
    exec (.putStrategy f.bytes) s = .next (s.setCl (Cl.answered 24 f.bytes .badValue false []))) ∧
  ∀ (s : State) (v : Speed) (m : MarkClass) (e : StrategyEntry) (d w : Int) (body : Body), s.takesFrames → e.fits →
    d = clampInt (-8) 8 e.leadDelay →
    w = min (clampInt 4 32 e.leadWidth) ((if m = .m2 then 32 else 16) - d) →
    body = StrategyFields.bytes ⟨v.index, m.index, e⟩ →
    ∃ new : StrategyEntry,
      new = { leadDelay := d, leadWidth := w, midWidth := clampInt 4 16 e.midWidth,
              tailWidth := clampInt 0 16 e.tailWidth, coolWidth := clampInt 0 40 e.coolWidth } ∧
      4 ≤ w ∧ d + w ≤ (if m = .m2 then 32 else 16) ∧
      exec (.putStrategy body) s = .next { s with
        wsg := { s.wsg with
          entries := s.wsg.entries.put v.index ((s.wsg.entries.get v.index).put m.index (some new)) }
        cl := Cl.answered 24 body .ok (decide (new ≠ e)) (new.bytes ++ nameListBytes (changedFields e new)) }

/-- A mark of length n has its class and layout length, and its pulse train is PEAK in a pulse, COOL in the gap after
the last pulse, and BIAS elsewhere. CHANNEL_RUN with the gate OPEN for a segment: the first run is laid out at once
where the ready line is high, a mark beginning its train with the entry of its class and a space leaving BIAS; a run
behind one on the disc is held ahead, and where one is held already the run on the disc has passed. A mark held ahead
begins its train at the instant R123 gives: before its run where the lead delay is negative, and with its run
otherwise; where that instant has passed, at the next one (log entry 21). ENCODER_READY_CHANGE sets the line; its
fall cuts the train, and its rise leaves the run in progress as it is and begins the train of a mark held ahead whose
train start has come (log entry 21). TRIAL_PATTERN_RUN passes to the next of the sixteen runs. The instants are the
model's (log entry 8), and so is it that a run without the gate for its user, and the level a line already has,
change nothing (log entry 13). -/
def Obligations.StreamAndPatternAreLaidOut : Prop :=
  (∀ n : Nat, 1 ≤ n →
    markClass n = (if n ≤ 2 then .m2 else if n = 3 then .m3 else if n = 4 then .m4 else .m5p) ∧
    layoutLength n = (if n = 1 then 2 else n)) ∧
  (∀ (e : StrategyEntry) (n : Nat) (x last : Int) (pulse : Prop), 2 ≤ n →
    (pulse ↔ (e.leadDelay ≤ x ∧ x < e.leadDelay + e.leadWidth) ∨
      (∃ k : Nat, 2 ≤ k ∧ k + 2 ≤ n ∧ 16 * (k : Int) ≤ x ∧ x < 16 * (k : Int) + e.midWidth) ∨
      (3 ≤ n ∧ 0 < e.tailWidth ∧ 16 * ((n : Int) - 1) ≤ x ∧ x < 16 * ((n : Int) - 1) + e.tailWidth)) →
    last = (if 3 ≤ n ∧ 0 < e.tailWidth then 16 * ((n : Int) - 1) + e.tailWidth
      else if 4 ≤ n then 16 * ((n : Int) - 2) + e.midWidth else e.leadDelay + e.leadWidth) →
    (pulse → trainLevel e n x = .peak) ∧
      (¬ pulse → last ≤ x → x < last + e.coolWidth → trainLevel e n x = .cool) ∧
      (¬ pulse → x < last ∨ last + e.coolWidth ≤ x → trainLevel e n x = .bias)) ∧
  ((List.range 16).map patternRun = [⟨.mark, 2⟩, ⟨.space, 2⟩, ⟨.mark, 3⟩, ⟨.space, 3⟩, ⟨.mark, 4⟩, ⟨.space, 4⟩,
    ⟨.mark, 5⟩, ⟨.space, 5⟩, ⟨.mark, 6⟩, ⟨.space, 6⟩, ⟨.mark, 7⟩, ⟨.space, 7⟩, ⟨.mark, 8⟩, ⟨.space, 8⟩, ⟨.mark, 9⟩,
    ⟨.space, 9⟩]) ∧
  (∀ i : Nat, patternRun (i + 16) = patternRun i) ∧
  (∀ (s : State) (n : Nat) (e : StrategyEntry), s.wgc.gate = .opened → s.wgc.user = some .segment →
    s.lines.encoderReady = true → s.wsg.run = none → 1 ≤ n →
    (s.wsg.entries.get s.wsg.speed.index).get (markClass n).index = some e →
    exec (.channelRun { kind := .mark, length := n }) s = .next { s with
      wsg := { s.wsg with
        run := some { kind := .mark, length := n, start := s.wsg.now }
        train := some { cls := markClass n, length := layoutLength n, window := s.wsg.now, start := s.wsg.now,
                        entry := e } }
      ldu := { s.ldu with driven := trainLevel e (layoutLength n) 0 } }) ∧
  (∀ (s : State) (n : Nat), s.wgc.gate = .opened → s.wgc.user = some .segment → s.wsg.run = none →
    s.wsg.train = none → 1 ≤ n →
    exec (.channelRun { kind := .space, length := n }) s = .next { s with
      wsg := { s.wsg with run := some { kind := .space, length := n, start := s.wsg.now } }
      ldu := { s.ldu with driven := .bias } }) ∧
  (∀ (s : State) (r : PlacedRun) (a : Run), s.wgc.gate = .opened → s.wgc.user = some .segment → s.wsg.run = some r →
    1 ≤ a.length →
    ∃ t, exec (.channelRun a) s = .next t ∧ t.ldu = { s.ldu with driven := t.wsg.select } ∧
      t = { s with wsg := t.wsg, ldu := t.ldu } ∧
      (s.wsg.ahead = none → t.wsg = { s.wsg with ahead := some a, train := t.wsg.train } ∧
        (a.kind = .space → t.wsg.train = s.wsg.train)) ∧
      (∀ b : Run, s.wsg.ahead = some b →
        t.wsg = { s.wsg with
          now := max s.wsg.now (r.start + 16 * r.length)
          run := some { kind := if s.streamLive = true then b.kind else .space, length := b.length
                        start := r.start + 16 * r.length }
          pattern := s.wsg.pattern.map (fun i => (i + 1) % 16)
          ahead := some a
          train := t.wsg.train })) ∧
  (∀ (s : State) (r : PlacedRun) (a : Run) (e : StrategyEntry) (window : Nat), s.pending = [] →
    s.wgc.gate = .opened → s.wsg.run = some r → s.wsg.ahead = some a → a.kind = .mark → s.streamLive = true →
    (s.wsg.entries.get s.wsg.speed.index).get (markClass a.length).index = some e →
    window = r.start + 16 * r.length → s.wsg.now + 1 < window → (∀ x, s.wsg.train = some x → x.window ≠ window) →
    ∃ t, step s = .next t ∧
      t.wsg.train = (if (window : Int) + min 0 e.leadDelay ≤ s.wsg.now + 1 then
          some { cls := markClass a.length, length := layoutLength a.length, window := window
                 start := max (s.wsg.now + 1) ((window : Int) + min 0 e.leadDelay).toNat, entry := e }
        else s.wsg.train)) ∧
  (∀ (s : State) (r : PlacedRun) (a : Run) (e : StrategyEntry) (window : Nat), s.pending = [] →
    s.wgc.gate = .opened → s.wgc.user = some .segment → s.wsg.pattern = none → s.wsg.run = some r →
    s.wsg.ahead = some a → a.kind = .mark → s.lines.encoderReady = true →
    (s.wsg.entries.get s.wsg.speed.index).get (markClass a.length).index = some e →
    window = r.start + 16 * r.length → s.wsg.now + 1 = window → (∀ x, s.wsg.train = some x → x.window ≠ window) →
    step s = .next { s with
      wsg := { s.wsg with
        now := window, ahead := none, run := some { kind := .mark, length := a.length, start := window }
        train := some { cls := markClass a.length, length := layoutLength a.length, window := window
                        start := window, entry := e } }
      ldu := { s.ldu with driven := trainLevel e (layoutLength a.length) 0 } }) ∧
  (∀ (s : State) (r : Run), s.wgc.gate ≠ .opened ∨ s.wgc.user ≠ some .segment → exec (.channelRun r) s = .next s) ∧
  (∀ s : State, exec (.encoderReadyChange s.lines.encoderReady) s = .next s) ∧
  (∀ s : State, s.wgc.gate ≠ .opened ∨ s.wgc.user ≠ some .segment →
    exec (.encoderReadyChange (!s.lines.encoderReady)) s =
      .next { s with lines := { s.lines with encoderReady := !s.lines.encoderReady } }) ∧
  (∀ (s : State) (r : PlacedRun), s.wgc.gate = .opened → s.wgc.user = some .segment →
    s.lines.encoderReady = true → s.wsg.run = some r →
    exec (.encoderReadyChange false) s = .next { s with
      lines := { s.lines with encoderReady := false }
      wsg := { s.wsg with train := none, run := some { r with kind := .space } }
      ldu := { s.ldu with driven := .bias } }) ∧
  (∀ s : State, s.wgc.gate = .opened → s.wgc.user = some .segment → s.lines.encoderReady = false →
    ∃ t, exec (.encoderReadyChange true) s = .next t ∧
      t = { s with
        lines := { s.lines with encoderReady := true }
        wsg := { s.wsg with train := t.wsg.train }
        ldu := { s.ldu with driven := t.wsg.select } } ∧
      (s.wsg.ahead = none → t.wsg.train = s.wsg.train) ∧
      (∀ (r : PlacedRun) (a : Run) (e : StrategyEntry) (window : Nat), s.wsg.run = some r → s.wsg.ahead = some a →
        a.kind = .mark → (s.wsg.entries.get s.wsg.speed.index).get (markClass a.length).index = some e →
        window = r.start + 16 * r.length → s.wsg.train = none →
        t.wsg.train = (if (window : Int) + min 0 e.leadDelay ≤ s.wsg.now then
            some { cls := markClass a.length, length := layoutLength a.length, window := window
                   start := max s.wsg.now ((window : Int) + min 0 e.leadDelay).toNat, entry := e }
          else none))) ∧
  (∀ s : State, s.wgc.gate ≠ .opened ∨ s.wgc.user ≠ some .trial → exec .trialPatternRun s = .next s) ∧
  (∀ (s : State) (r : PlacedRun) (a : Run) (i : Nat), s.wgc.gate = .opened → s.wgc.user = some .trial →
    s.wsg.run = some r → s.wsg.ahead = some a → s.wsg.pattern = some i →
    ∃ t, exec .trialPatternRun s = .next t ∧ t.wsg.pattern = some ((i + 1) % 16) ∧
      t.wsg.run = some { kind := a.kind, length := a.length, start := r.start + 16 * r.length } ∧
      t.wsg.ahead = some (patternRun (i + 2)) ∧ t.wsg.entries = s.wsg.entries ∧
      t = { s with wsg := t.wsg, ldu := { s.ldu with driven := t.wsg.select } })

/-- R131: ARM sets the latch when its three checks pass, DISARM clears it, and both replies show it as it stands
afterwards, a refused ARM among them. -/
def Obligations.ArmAndDisarmTheLatch : Prop :=
  ∀ s : State, s.takesFrames →
    (s.mc.mode ≠ .record ∧ s.mc.mode ≠ .selftest →
      exec (.arm []) s = .next (s.setCl (Cl.answered 26 [] .wrongMode false (flagByte s.wgc.arm)))) ∧
    (s.mc.mode = .record ∨ s.mc.mode = .selftest → s.pu.sense = .asserted →
      exec (.arm []) s = .next (s.setCl (Cl.answered 26 [] .inhibited false (flagByte s.wgc.arm)))) ∧
    (s.mc.mode = .record ∨ s.mc.mode = .selftest → s.pu.sense = .released →
      s.mon.scanState ≠ .running ∨ Channel.terr ∉ s.mon.scanList ∨ Channel.rsum ∉ s.mon.scanList →
      exec (.arm []) s = .next (s.setCl (Cl.answered 26 [] .scanRequired false (flagByte s.wgc.arm)))) ∧
    (s.mc.mode = .record ∨ s.mc.mode = .selftest → s.pu.sense = .released → s.mon.scanState = .running →
      Channel.terr ∈ s.mon.scanList → Channel.rsum ∈ s.mon.scanList →
      exec (.arm []) s = .next { s with
        wgc := { s.wgc with arm := true }, cl := Cl.answered 26 [] .ok false [1] }) ∧
    exec (.disarm []) s = .next { s with
      wgc := { s.wgc with arm := false }, cl := Cl.answered 27 [] .ok false [0] }

/-- SEGMENT: a segment that passes its checks joins the tail with the latch cleared. As the head of an empty queue it
takes an IDLE gate and waits; it stays QUEUED while a trial holds the gate; and with an exit pending it is SUSPENDED
with reason MODE, whatever the gate, while the exit still waits for the trial (R134, R136, R154). -/
def Obligations.SegmentJoinsTheQueue : Prop :=
  ∀ (s : State) (f : SegmentFields) (g : Segment), s.takesFrames → s.settled →
    s.mc.request = none ∨ s.stopped = false → f.tag < 65536 → f.surface = g.surface.code → f.link = g.link.code →
    s.mc.mode = .record ∨ s.mc.mode = .selftest → s.wgc.startFor g.link g.surface f.start = some g.start →
    g.start < 256 ^ 3 → s.ct.hasSurface g.surface = true → 1 ≤ f.count → f.count ≤ 256 →
    g.start + f.count - 1 < s.ct.blocks → s.wgc.queue.length < s.mc.segDepth →
    s.wgc.arm = true → s.pu.sense = .released →
    s.runProtected g.surface g.start (g.start + f.count - 1) = false →
    g = { tag := f.tag, surface := g.surface, link := g.link, start := g.start, count := f.count, done := 0,
          state := .queued, reason := none, damaged := none, largest := 0, limitMark := false } →
    (s.wgc.queue ≠ [] →
      exec (.segment f.bytes) s = .next { s with
        wgc := { s.wgc with arm := false, queue := s.wgc.queue ++ [g] }
        cl := Cl.answered 28 f.bytes .ok false
          (natBytes 2 f.tag ++ surfaceByte g.surface ++ natBytes 3 g.start ++ natBytes 3 (g.start + f.count - 1) ++
            natBytes 1 (s.wgc.queue.length + 1) ++ [0]) }) ∧
    (s.wgc.queue = [] → s.wgc.exitMark = false → s.wgc.gate = .idle →
      exec (.segment f.bytes) s = .next { s with
        wgc := { s.wgc with
          arm := false, gate := .waiting, user := some .segment, wait := 0, queue := [{ g with state := .waiting }] }
        wsg := s.wsg.stop
        ldu := { s.ldu with driven := .read }
        cl := Cl.answered 28 f.bytes .ok false
          (natBytes 2 f.tag ++ surfaceByte g.surface ++ natBytes 3 g.start ++ natBytes 3 (g.start + f.count - 1) ++
            [1] ++ [1]) }) ∧
    (s.wgc.queue = [] → s.wgc.exitMark = false → s.wgc.gate ≠ .idle →
      exec (.segment f.bytes) s = .next { s with
        wgc := { s.wgc with arm := false, queue := [g] }
        cl := Cl.answered 28 f.bytes .ok false
          (natBytes 2 f.tag ++ surfaceByte g.surface ++ natBytes 3 g.start ++ natBytes 3 (g.start + f.count - 1) ++
            [1] ++ [0]) }) ∧
    (s.wgc.queue = [] → s.wgc.exitMark = true → s.room 1 →
      exec (.segment f.bytes) s = .next { s with
        wgc := { s.wgc with
          arm := false, queue := [{ g with state := .suspended, reason := some .mode }] }
        eu := { s.eu with notices := s.eu.notices ++ [.segmentSuspended f.tag g.start f.count .mode] }
        cl := Cl.answered 28 f.bytes .ok false
          (natBytes 2 f.tag ++ surfaceByte g.surface ++ natBytes 3 g.start ++ natBytes 3 (g.start + f.count - 1) ++
            [1] ++ [4]) })

/-- The refusals of SEGMENT in the order of its checks, for a surface and a link byte of no such name too. Each
changes the link alone, but PROTECTED, which clears the latch as well. -/
def Obligations.SegmentRefusals : Prop :=
  (∀ (s : State) (f : SegmentFields), s.takesFrames → f.tag < 65536 → f.surface < 256 → f.link < 256 →
    f.count < 65536 → (∀ a, f.start = some a → a < 256 ^ 3) → 2 ≤ f.surface ∨ 2 ≤ f.link →
    (s.mc.mode ≠ .record ∧ s.mc.mode ≠ .selftest →
      exec (.segment f.bytes) s = .next (s.setCl (Cl.answered 28 f.bytes .wrongMode false []))) ∧
    (s.mc.mode = .record ∨ s.mc.mode = .selftest →
      exec (.segment f.bytes) s = .next (s.setCl (Cl.answered 28 f.bytes .badValue false [])))) ∧
  ∀ (s : State) (f : SegmentFields) (g : Surface) (l : SegLink), s.takesFrames → f.tag < 65536 →
    f.surface = g.code → f.link = l.code → f.count < 65536 → (∀ a, f.start = some a → a < 256 ^ 3) →
    (s.mc.mode ≠ .record ∧ s.mc.mode ≠ .selftest →
      exec (.segment f.bytes) s = .next (s.setCl (Cl.answered 28 f.bytes .wrongMode false []))) ∧
    (s.mc.mode = .record ∨ s.mc.mode = .selftest →
      (s.wgc.startFor l g f.start = none ∨ s.ct.hasSurface g = false ∨ f.count = 0 ∨ 256 < f.count →
        exec (.segment f.bytes) s = .next (s.setCl (Cl.answered 28 f.bytes .badValue false []))) ∧
      (∀ a, s.wgc.startFor l g f.start = some a → 1 ≤ f.count → s.ct.blocks ≤ a + f.count - 1 →
        exec (.segment f.bytes) s = .next (s.setCl (Cl.answered 28 f.bytes .badValue false []))) ∧
      (∀ a, s.wgc.startFor l g f.start = some a → s.ct.hasSurface g = true → 1 ≤ f.count → f.count ≤ 256 →
        a + f.count - 1 < s.ct.blocks →
        (s.mc.segDepth ≤ s.wgc.queue.length →
          exec (.segment f.bytes) s = .next (s.setCl (Cl.answered 28 f.bytes .full false []))) ∧
        (s.wgc.queue.length < s.mc.segDepth → s.wgc.arm = false →
          exec (.segment f.bytes) s = .next (s.setCl (Cl.answered 28 f.bytes .notArmed false []))) ∧
        (s.wgc.queue.length < s.mc.segDepth → s.wgc.arm = true → s.pu.sense = .asserted →
          exec (.segment f.bytes) s = .next (s.setCl (Cl.answered 28 f.bytes .inhibited false []))) ∧
        (s.wgc.queue.length < s.mc.segDepth → s.wgc.arm = true → s.pu.sense = .released →
          s.runProtected g a (a + f.count - 1) = true →
          exec (.segment f.bytes) s = .next { s with
            wgc := { s.wgc with arm := false }, cl := Cl.answered 28 f.bytes .isProtected false [] })))

/-- PAUSE by the head's state, and RESUME: its refusals by the mode, the head, the trial and the pending exit; and a
SUSPENDED head, which takes the gate without the latch, or is removed with SEGMENT_REFUSED where the rest of it is
protected (R137). -/
def Obligations.PauseAndResumeTheHead : Prop :=
  (∀ s : State, s.takesFrames → s.wgc.queue = [] →
    exec (.pause []) s = .next (s.setCl (Cl.answered 29 [] .nothingPending false []))) ∧
  (∀ (s : State) (g : Segment) (rest : List Segment), s.takesFrames → s.settled → s.mc.request = none →
    s.wgc.queue = g :: rest →
    (g.state = .writing →
      exec (.pause []) s = .next { s with
        wgc := { s.wgc with queue := { g with state := .suspending, reason := some .command } :: rest }
        cl := Cl.answered 29 [] .ok false (natBytes 2 g.tag ++ [3]) }) ∧
    (g.state = .suspending ∨ g.state = .suspended ∨ g.state = .halted →
      exec (.pause []) s =
        .next (s.setCl (Cl.answered 29 [] .ok false (natBytes 2 g.tag ++ natBytes 1 g.state.code)))) ∧
    (g.state = .waiting → s.room 1 →
      exec (.pause []) s = .next { s with
        wgc := { s.wgc with
          gate := .idle, user := none, queue := { g with state := .suspended, reason := some .command } :: rest }
        wsg := s.wsg.stop
        ldu := { s.ldu with driven := .read }
        eu := { s.eu with
          notices := s.eu.notices ++ [.segmentSuspended g.tag g.next (g.count - g.done) .command] }
        cl := Cl.answered 29 [] .ok false (natBytes 2 g.tag ++ [4]) }) ∧
    (g.state = .queued → s.room 1 →
      exec (.pause []) s = .next { s with
        wgc := { s.wgc with queue := { g with state := .suspended, reason := some .command } :: rest }
        eu := { s.eu with
          notices := s.eu.notices ++ [.segmentSuspended g.tag g.next (g.count - g.done) .command] }
        cl := Cl.answered 29 [] .ok false (natBytes 2 g.tag ++ [4]) }) ∧
    (g.state = .suspended → g.damaged = none → s.mc.mode = .record ∨ s.mc.mode = .selftest → s.wgc.gate = .idle →
      s.wgc.user = none → s.wgc.exitMark = false → s.runProtected g.surface g.next g.last = false →
      exec (.resume []) s = .next { s with
        wgc := { s.wgc with
          gate := .waiting, user := some .segment, wait := 0
          queue := { g with state := .waiting, reason := none } :: rest }
        wsg := s.wsg.stop
        ldu := { s.ldu with driven := .read }
        cl := Cl.answered 30 [] .ok false (natBytes 2 g.tag ++ natBytes 3 g.next) }) ∧
    (g.state = .suspended → s.room 1 → rest = [] → s.mc.mode = .record ∨ s.mc.mode = .selftest →
      s.wgc.gate = .idle → s.wgc.user = none → s.wgc.exitMark = false →
      s.runProtected g.surface g.next g.last = true →
      exec (.resume []) s = .next { s with
        wgc := { s.wgc with queue := [] }
        eu := { s.eu with notices := s.eu.notices ++ [.segmentRefused g.tag] }
        cl := Cl.answered 30 [] .ok false (natBytes 2 g.tag ++ natBytes 3 g.next) })) ∧
  (∀ s : State, s.takesFrames →
    (s.mc.mode ≠ .record → s.mc.mode ≠ .selftest →
      exec (.resume []) s = .next (s.setCl (Cl.answered 30 [] .wrongMode false []))) ∧
    (s.mc.mode = .record ∨ s.mc.mode = .selftest →
      (s.wgc.queue = [] → exec (.resume []) s = .next (s.setCl (Cl.answered 30 [] .nothingPending false []))) ∧
      (∀ (g : Segment) (rest : List Segment), s.wgc.queue = g :: rest →
        (g.state ≠ .suspended → g.state ≠ .halted →
          exec (.resume []) s = .next (s.setCl (Cl.answered 30 [] .nothingPending false []))) ∧
        (g.state = .suspended ∨ g.state = .halted → s.wgc.user = some .trial ∨ s.wgc.exitMark = true →
          exec (.resume []) s = .next (s.setCl (Cl.answered 30 [] .busy false []))))))

/-- RESUME of a HALTED head with a damaged block clears the latch. On rewritable media that block is written again;
on write-once media it counts as done, the append point becomes it, and the segment may be complete with it. The
yes-or-no byte of the reply is the model's encoding (log entry 11). -/
def Obligations.ResumeOfAHaltedHead : Prop :=
  (∀ (s : State) (g : Segment) (d : Disc), s.takesFrames → s.room 1 → s.mc.request = none →
    s.mc.mode = .record ∨ s.mc.mode = .selftest → s.wgc.queue = [g] → g.state = .halted →
    g.damaged = some g.next → s.wgc.gate = .idle → s.wgc.user = none → s.wgc.exitMark = false →
    s.ct.disc = some d →
    (s.wgc.arm = false → exec (.resume []) s = .next (s.setCl (Cl.answered 30 [] .notArmed false []))) ∧
    (s.wgc.arm = true → d.media = .rewritable → s.runProtected g.surface g.next g.last = false →
      exec (.resume []) s = .next { s with
        wgc := { s.wgc with
          arm := false, gate := .waiting, user := some .segment, wait := 0
          queue := [{ g with state := .waiting, reason := none, damaged := none }] }
        wsg := s.wsg.stop
        ldu := { s.ldu with driven := .read }
        cl := Cl.answered 30 [] .ok false (natBytes 2 g.tag ++ natBytes 3 g.next ++ [0]) }) ∧
    (s.wgc.arm = true → d.media = .writeOnce → g.done + 1 < g.count →
      s.runProtected g.surface (g.next + 1) g.last = false →
      exec (.resume []) s = .next { s with
        wgc := { s.wgc with
          arm := false, gate := .waiting, user := some .segment, wait := 0, append := some (g.surface, g.next)
          queue := [{ g with state := .waiting, reason := none, damaged := none, done := g.done + 1 }] }
        wsg := s.wsg.stop
        ldu := { s.ldu with driven := .read }
        cl := Cl.answered 30 [] .ok false (natBytes 2 g.tag ++ natBytes 3 (g.next + 1) ++ [0]) }) ∧
    (s.wgc.arm = true → d.media = .writeOnce → g.done + 1 = g.count →
      exec (.resume []) s = .next { s with
        wgc := { s.wgc with arm := false, append := some (g.surface, g.next), queue := [] }
        eu := { s.eu with
          notices := s.eu.notices ++ [.segmentDone g.tag g.count g.last s.wgc.correction g.largest] }
        cl := Cl.answered 30 [] .ok false (natBytes 2 g.tag ++ natBytes 3 (g.next + 1) ++ [1]) })) ∧
  ∀ (s : State) (g : Segment) (rest : List Segment), s.takesFrames → s.settled → s.mc.request = none →
    s.mc.mode = .record ∨ s.mc.mode = .selftest → s.wgc.queue = g :: rest → g.state = .halted → g.damaged = none →
    s.wgc.gate = .idle → s.wgc.user = none → s.wgc.exitMark = false →
    (s.wgc.arm = false → exec (.resume []) s = .next (s.setCl (Cl.answered 30 [] .notArmed false []))) ∧
    (s.wgc.arm = true → s.runProtected g.surface g.next g.last = false →
      exec (.resume []) s = .next { s with
        wgc := { s.wgc with
          arm := false, gate := .waiting, user := some .segment, wait := 0
          queue := { g with state := .waiting, reason := none, damaged := none } :: rest }
        wsg := s.wsg.stop
        ldu := { s.ldu with driven := .read }
        cl := Cl.answered 30 [] .ok false (natBytes 2 g.tag ++ natBytes 3 g.next ++ [0]) })

/-- ABORT_SEGMENT removes the head whatever its state, cuts a block it is writing, and leaves the arm latch. -/
def Obligations.AbortSegmentRemovesTheHead : Prop :=
  (∀ s : State, s.takesFrames → s.wgc.queue = [] →
    exec (.abortSegment []) s = .next (s.setCl (Cl.answered 31 [] .nothingPending false []))) ∧
  (∀ (s : State) (g : Segment), s.takesFrames → s.room 1 → s.mc.request = none → s.wgc.queue = [g] →
    (g.state = .writing ∨ g.state = .suspending →
      exec (.abortSegment []) s = .next { s with
        wgc := { s.wgc with gate := .idle, user := none, returns := { sum := 0, count := 0 }, queue := [] }
        wsg := s.wsg.stop
        ldu := { s.ldu with driven := .read }
        eu := { s.eu with notices := s.eu.notices ++ [.segmentHalted g.tag .aborted g.done (some g.next)] }
        cl := Cl.answered 31 [] .ok false
          (natBytes 2 g.tag ++ natBytes 2 g.done ++ [1] ++ natBytes 3 g.next) }) ∧
    (g.state = .waiting →
      exec (.abortSegment []) s = .next { s with
        wgc := { s.wgc with gate := .idle, user := none, queue := [] }
        wsg := s.wsg.stop
        ldu := { s.ldu with driven := .read }
        eu := { s.eu with notices := s.eu.notices ++ [.segmentHalted g.tag .aborted g.done none] }
        cl := Cl.answered 31 [] .ok false (natBytes 2 g.tag ++ natBytes 2 g.done ++ [0]) }) ∧
    (g.state = .queued ∨ g.state = .suspended ∨ g.state = .halted →
      exec (.abortSegment []) s = .next { s with
        wgc := { s.wgc with queue := [] }
        eu := { s.eu with notices := s.eu.notices ++ [.segmentHalted g.tag .aborted g.done none] }
        cl := Cl.answered 31 [] .ok false (natBytes 2 g.tag ++ natBytes 2 g.done ++ [0]) }))

/-- SET_STALE_SPAN holds the span to 10 to 600 and judges no record; SET_RPC holds deadband and step to their ranges
and replaces the settings; SET_WAIT_LIMIT replaces the limit or is refused. None changes anything else. -/
def Obligations.SpanCorrectionAndWaitSettings : Prop :=
  ∀ s : State, s.takesFrames →
    (∀ n : Nat, n < 65536 →
      exec (.setStaleSpan (natBytes 2 n)) s = .next { s with
        ct := { s.ct with staleSpan := max 10 (min 600 n) }
        cl := Cl.answered 18 (natBytes 2 n) .ok (decide (n < 10 ∨ 600 < n)) (natBytes 2 (max 10 (min 600 n))) }) ∧
    (∀ (on : Bool) (d k : Nat), d < 256 → k < 256 →
      exec (.setRpc (RpcFields.bytes ⟨on.toNat, d, k⟩)) s = .next { s with
        wgc := { s.wgc with rpcOn := on, deadband := min 100 d, rpcStep := max 1 (min 20 k) }
        cl := Cl.answered 32 (RpcFields.bytes ⟨on.toNat, d, k⟩) .ok (decide (100 < d ∨ k < 1 ∨ 20 < k))
          (flagByte on ++ natBytes 1 (min 100 d) ++ natBytes 1 (max 1 (min 20 k))) }) ∧
    (∀ n : Nat, 16 ≤ n → n ≤ 65535 →
      exec (.setWaitLimit (natBytes 2 n)) s = .next { s with
        wgc := { s.wgc with waitLimit := n }, cl := Cl.answered 33 (natBytes 2 n) .ok false [] }) ∧
    (∀ n : Nat, n < 16 →
      exec (.setWaitLimit (natBytes 2 n)) s = .next (s.setCl (Cl.answered 33 (natBytes 2 n) .badValue false [])))

/-- The judgement of a WAITING head at its opening boundary (R139): with the line released, the encoder ready, a
power and a complete strategy set the gate opens and the segment writes, with CURRENT_LIMIT latched at an entry into
the limited condition; each condition that fails stops it cleanly, with its notice where there is room. -/
def Sys2Proof.Machine.JudgedAtOpening (s t : State) (g : Segment) (rest : List Segment) : Prop :=
  t.mc = s.mc ∧ t.ct = s.ct ∧ t.mon = s.mon ∧ t.pu = s.pu ∧ t.tcu = s.tcu ∧ t.cl = s.cl ∧ t.cs = s.cs ∧
    t.lines = s.lines ∧
    (s.pu.sense = .asserted →
      t.wgc = { s.wgc with
        gate := .idle, user := none
        queue := { g with state := .suspended, reason := some .inhibit } :: rest } ∧
      t.ldu = { s.ldu with driven := .read } ∧ t.wsg = s.wsg.stop ∧
      (s.room 1 → t.eu = { s.eu with
        notices := s.eu.notices ++ [.segmentSuspended g.tag g.next (g.count - g.done) .inhibit] })) ∧
    (∀ why : SegReason, s.pu.sense = .released →
      (why = .underrun ∧ s.lines.encoderReady = false) ∨
        (why = .noCalibration ∧ s.lines.encoderReady = true ∧ s.power g.surface g.next = none) ∨
        (why = .noStrategy ∧ s.lines.encoderReady = true ∧ s.power g.surface g.next ≠ none ∧
          s.wsg.complete s.wsg.speed = false) →
      t.wgc = { s.wgc with
        gate := .idle, user := none, arm := false
        queue := { g with state := .halted, reason := some why, damaged := none } :: rest } ∧
      t.ldu = { s.ldu with driven := .read } ∧ t.wsg = s.wsg.stop ∧
      (s.room 1 → t.eu = { s.eu with notices := s.eu.notices ++ [.segmentHalted g.tag why g.done none] })) ∧
    (∀ p : Power, s.pu.sense = .released → s.lines.encoderReady = true → s.power g.surface g.next = some p →
      s.wsg.complete s.wsg.speed = true →
      t.wgc = { s.wgc with
        gate := .opened, user := some .segment, correction := 1000, wRef := none
        returns := { sum := 0, count := 0 }, wait := 0, queue := { g with state := .writing } :: rest } ∧
      t.ldu.writeSet = some { peak := min 80000 p.peak, bias := divRoundNat (min 80000 p.peak * p.bias) 1000
                              cool := divRoundNat (min 80000 p.peak * p.cool) 1000 } ∧
      t.ldu.driven = .bias ∧ t.ldu.levels = t.levelsNow ∧ LimitIsLatched s t)

/-- A VALID boundary at a WAITING head's next block judges it: in RECORD the record of a block of the disc, and in
SELFTEST the arrival that the running generator delivers (R31, R32, R139). -/
def Obligations.OpeningBoundaryJudgesTheSegment : Prop :=
  ∀ (s : State) (g : Segment) (rest : List Segment), s.mc.request = none → s.tcu.trial = none →
    s.wgc.queue = g :: rest → g.state = .waiting → s.pt.state = .locked → s.pt.surface = g.surface →
    s.pt.predicted = g.next →
    (s.mc.mode = .record → s.ct.hasSurface g.surface = true → g.next < s.ct.blocks →
      ∃ t, exec (.positionRecord true g.surface g.next) s = .next t ∧ JudgedAtOpening s t g rest ∧
        t.pt = { s.pt with current := g.next, predicted := successor s.ct.blocks g.next, coast := 0 }) ∧
    (s.mc.mode = .selftest → s.pt.genRunning = true → s.pt.genSurface = g.surface → s.pt.genNext = g.next →
      ∃ t, exec .generatedArrival s = .next t ∧ JudgedAtOpening s t g rest ∧
        t.pt = { s.pt with
          current := g.next, predicted := successor s.ct.blocks g.next, coast := 0
          genNext := successor s.ct.blocks g.next })

/-- A boundary that ends a block: the block is counted and becomes the append point, and the running correction makes
its update (`v`, by R151). Then the segment is complete and leaves the queue with the gate IDLE; or it was SUSPENDING
and is SUSPENDED with its reason; or it halts with UNDERRUN or NO_CALIBRATION, without a damaged block; or it goes on
with the next block's powers: the peak under the correction as updated, held to 80,000, and the two ratios of it
(R87, R153). A VALID boundary and a COASTED one do the same (R141). -/
def Obligations.BoundaryEndsTheBlock : Prop :=
  ∀ (s v : State) (g h : Segment) (rest : List Segment) (valid : Bool), s.mc.mode = .record → s.mc.request = none →
    s.tcu.trial = none → s.wgc.queue = g :: rest → g.state = .writing ∨ g.state = .suspending →
    s.passesBoundary valid →
    v = rpcUpdate (s.setWgc { s.wgc with
      append := some (g.surface, g.next), queue := { g with done := g.done + 1 } :: rest }) →
    v.wgc.queue = h :: rest →
    ∃ t, exec (.positionRecord valid s.pt.surface s.pt.predicted) s = .next t ∧ BoundaryKeeps s t ∧ t.ct = s.ct ∧
      t.tcu = s.tcu ∧ t.wgc.append = some (g.surface, g.next) ∧ t.wgc.returns = { sum := 0, count := 0 } ∧
      t.wgc.correction = v.wgc.correction ∧ t.wgc.wRef = v.wgc.wRef ∧
      (s.wgc.rpcOn = false → v.wgc.correction = s.wgc.correction ∧ h = { g with done := g.done + 1 }) ∧
      (g.state = .suspending → g.done + 1 < g.count →
        t.wgc = { v.wgc with
          gate := .idle, user := none, returns := { sum := 0, count := 0 }
          queue := { h with state := .suspended, reason := some (g.reason.getD .command) } :: rest } ∧
        t.ldu = { s.ldu with driven := .read } ∧
        (s.room 2 → Notice.segmentSuspended g.tag (g.next + 1) (g.count - (g.done + 1)) (g.reason.getD .command) ∈
          t.eu.notices)) ∧
      (g.state = .writing → g.done + 1 < g.count →
        (s.lines.encoderReady = false →
          t.wgc = { v.wgc with
            gate := .idle, user := none, arm := false, returns := { sum := 0, count := 0 }
            queue := { h with state := .halted, reason := some .underrun, damaged := none } :: rest } ∧
          t.ldu = { s.ldu with driven := .read }) ∧
        (s.lines.encoderReady = true → s.power g.surface s.pt.predicted = none →
          t.wgc = { v.wgc with
            gate := .idle, user := none, arm := false, returns := { sum := 0, count := 0 }
            queue := { h with state := .halted, reason := some .noCalibration, damaged := none } :: rest } ∧
          t.ldu = { s.ldu with driven := .read }) ∧
        (∀ p : Power, s.lines.encoderReady = true → s.power g.surface s.pt.predicted = some p →
          t.wgc = { v.wgc with returns := { sum := 0, count := 0 } } ∧
          (∀ e : Nat, e = min 80000 (divRoundNat (p.peak * v.wgc.correction) 1000) →
            t.ldu.writeSet = some { peak := e, bias := divRoundNat (e * p.bias) 1000,
                                    cool := divRoundNat (e * p.cool) 1000 }) ∧
          t.ldu.levels = t.levelsNow ∧ t.wsg = s.wsg)) ∧
      (g.done + 1 = g.count → rest = [] →
        t.wgc.queue = [] ∧ t.wgc.gate = .idle ∧ t.wgc.user = none ∧ t.ldu.driven = .read ∧
        (s.room 4 → Notice.segmentDone g.tag g.count g.last v.wgc.correction h.largest ∈ t.eu.notices))

/-- The return level W of a block: the rounded mean of what was gathered for it, and none for a count or a mean of 0
(R150). The running correction's update from it, in RECORD with the correction enabled. -/
def Obligations.RunningCorrectionFollowsTheReturn : Prop :=
  (∀ x : Tally, (x.count = 0 → returnLevel x = none) ∧
    (0 < x.count → ∀ w : Nat, (w : Int) = divRound x.sum x.count →
      (w = 0 → returnLevel x = none) ∧ (0 < w → returnLevel x = some w))) ∧
  ∀ (s : State) (g : Segment) (rest : List Segment), s.wgc.queue = g :: rest →
    (s.wgc.rpcOn = false ∨ s.mc.mode ≠ .record ∨ returnLevel s.wgc.returns = none → rpcUpdate s = s) ∧
    (∀ w : Nat, s.wgc.rpcOn = true → s.mc.mode = .record → returnLevel s.wgc.returns = some w →
      (s.wgc.wRef = none → rpcUpdate s = s.setWgc { s.wgc with wRef := some w }) ∧
      (∀ (ref : Nat) (d c : Int), s.wgc.wRef = some ref → d = divRound (1000 * ((w : Int) - ref)) ref →
        c = (if d < -(s.wgc.deadband : Int) then (s.wgc.correction : Int) + s.wgc.rpcStep
             else if (s.wgc.deadband : Int) < d then (s.wgc.correction : Int) - s.wgc.rpcStep
             else s.wgc.correction) →
        ((rpcUpdate s).wgc.correction : Int) = clampInt 850 1150 c ∧
        (rpcUpdate s).wgc.wRef = some ref ∧
        (∃ h, (rpcUpdate s).wgc.queue = h :: rest ∧ h.largest = max g.largest d.natAbs ∧
          h.limitMark = (g.limitMark || decide (c < 850 ∨ 1150 < c)) ∧ h.done = g.done ∧ h.state = g.state) ∧
        (c < 850 ∨ 1150 < c → g.limitMark = false → (rpcUpdate s).eu = s.eu.trigger .rpcLimit)))

/-- R159: the protected range of a map on a surface of so many blocks, and of a surface while no disc with it is set.
The query of a run is PROTECTED exactly when some block from its first to its last lies in the range (R160). -/
def Obligations.ProtectedRangeOfAMap : Prop :=
  (∀ (s : State) (f : Surface),
    (s.ct.hasSurface f = true → s.protRange f = (s.pu.maps.get f).rangeOn s.ct.blocks) ∧
    (s.ct.hasSurface f = false → s.protRange f = .absent ∧ ∀ first last, s.runProtected f first last = false)) ∧
  (∀ (s : State) (f : Surface) (first last : Nat), first ≤ last →
    (s.runProtected f first last = true ↔ ∃ b, first ≤ b ∧ b ≤ last ∧ (s.protRange f).meets b b = true)) ∧
  ∀ (c n a : Nat) (side : Side), c ≤ 7 → 1024 ≤ n → a < n → ∀ length : Nat,
    length = (if c = 0 then 0 else n / 2 ^ (7 - c)) →
    (({ code := c, side := .inner, complement := false } : ProtMap).rangeOn n).meets a a = decide (a < length) ∧
    (({ code := c, side := .outer, complement := false } : ProtMap).rangeOn n).meets a a = decide (n ≤ a + length) ∧
    (({ code := c, side := side, complement := true } : ProtMap).rangeOn n).meets a a =
      !(({ code := c, side := side, complement := false } : ProtMap).rangeOn n).meets a a

/-- SET_PROTECT replaces the map of its surface when its four checks pass; each check that fails is its reply, and
nothing but the link changes. A complement byte above 1 is refused like the other values outside their sets (log
entry 12). The byte that tells an empty range from a run and from none is the model's (log entry 11). -/
def Obligations.SetProtectReplacesTheMap : Prop :=
  (∀ (s : State) (f : ProtectFields), s.takesFrames → f.surface < 256 → f.code < 256 → f.side < 256 →
    f.complement < 256 → s.mc.mode = .standby ∨ s.mc.mode = .read ∨ s.mc.mode = .record →
    2 ≤ f.surface ∨ 8 ≤ f.code ∨ 2 ≤ f.side ∨ 2 ≤ f.complement →
    exec (.setProtect f.bytes) s = .next (s.setCl (Cl.answered 35 f.bytes .badValue false []))) ∧
  ∀ (s : State) (g : Surface) (c : Nat) (side : Side) (on : Bool) (body : Body) (m : ProtMap), s.takesFrames →
    c ≤ 7 → body = ProtectFields.bytes ⟨g.code, c, side.code, on.toNat⟩ →
    m = { code := c, side := side, complement := on } →
    (s.mc.mode = .configure ∨ s.mc.mode = .selftest ∨ s.mc.mode = .fault →
      exec (.setProtect body) s = .next (s.setCl (Cl.answered 35 body .wrongMode false []))) ∧
    (s.mc.mode = .standby ∨ s.mc.mode = .read ∨ s.mc.mode = .record →
      (s.pu.lock = .session ∨ s.pu.lock = .power ∨ (s.pu.lock = .line ∧ s.pu.sense = .asserted) →
        exec (.setProtect body) s = .next (s.setCl (Cl.answered 35 body .locked false []))) ∧
      (s.pu.lock = .opened ∨ (s.pu.lock = .line ∧ s.pu.sense = .released) →
        (s.wgc.gate ≠ .idle →
          exec (.setProtect body) s = .next (s.setCl (Cl.answered 35 body .busy false []))) ∧
        (s.wgc.gate = .idle →
          exec (.setProtect body) s = .next { s with
            pu := { s.pu with maps := s.pu.maps.put g m }
            cl := Cl.answered 35 body .ok false
              (surfaceByte g ++ mapBytes m ++
                rangeBytes (if s.ct.hasSurface g then m.rangeOn s.ct.blocks else .absent)) })))

/-- SET_LOCK: the same or a stronger mode is taken, LINE is released to OPEN while the line is released, and every
other weakening is refused LOCKED; the reply body holds lock and sense on acceptance and on refusal. -/
def Obligations.SetLockStrengthens : Prop :=
  ∀ s : State, s.takesFrames →
    (∀ n : Nat, 4 ≤ n → n < 256 →
      exec (.setLock (natBytes 1 n)) s =
        .next (s.setCl (Cl.answered 36 (natBytes 1 n) .badValue false (lockBody s.pu)))) ∧
    (∀ l : Lock, s.pu.lock.code ≤ l.code ∨ (s.pu.lock = .line ∧ l = .opened ∧ s.pu.sense = .released) →
      exec (.setLock (natBytes 1 l.code)) s = .next { s with
        pu := { s.pu with lock := l }
        cl := Cl.answered 36 (natBytes 1 l.code) .ok false (natBytes 1 l.code ++ natBytes 1 s.pu.sense.code) }) ∧
    (∀ l : Lock, l.code < s.pu.lock.code → ¬ (s.pu.lock = .line ∧ l = .opened ∧ s.pu.sense = .released) →
      exec (.setLock (natBytes 1 l.code)) s =
        .next (s.setCl (Cl.answered 36 (natBytes 1 l.code) .locked false (lockBody s.pu))))

/-- A change of the record-inhibit line: both senses follow and INHIBIT_CHANGED is latched; an assertion clears the
arm latch, turns a WRITING head SUSPENDING and marks a trial that waits to write or writes; a release changes nothing
of the recording path; the level the line has is no change (the model's choice, log entry 13). While the exit's MODE
mark stands the trial shows MODE, and INHIBIT once it is withdrawn (log entry 10). -/
def Obligations.InhibitLineActsOnRecording : Prop :=
  ∀ s : State,
    exec (.inhibitLineChange s.lines.inhibit) s = .next s ∧
    (∀ l : Inhibit, l ≠ s.lines.inhibit →
      ∃ t, exec (.inhibitLineChange l) s = .next t ∧ t.lines = { s.lines with inhibit := l } ∧
        t.pu = { s.pu with sense := l } ∧ t.eu.inhibitSense = l ∧ t.eu.latches.get .inhibitChanged = true ∧
        t.eu.senses = s.eu.senses ∧ t.eu.unmasked = s.eu.unmasked ∧
        t.mc = s.mc ∧ t.pt = s.pt ∧ t.mon = s.mon ∧ t.ldu = s.ldu ∧ t.ct = s.ct ∧ t.wsg = s.wsg ∧ t.cl = s.cl ∧
        t.cs = s.cs ∧
        (l = .released → t.wgc = s.wgc ∧ t.tcu = s.tcu) ∧
        (l = .asserted →
          t.wgc.arm = false ∧ t.wgc.gate = s.wgc.gate ∧
          (∀ g rest, s.wgc.queue = g :: rest → g.state = .writing →
            t.wgc.queue = { g with state := .suspending, reason := some .inhibit } :: rest) ∧
          (∀ g rest, s.wgc.queue = g :: rest → g.state ≠ .writing → t.wgc.queue = s.wgc.queue) ∧
          (∀ x, s.tcu.trial = some x → x.sub = .writeWait ∨ x.sub = .writing →
            ∃ y : Trial, y = { x with inhibitMark := true } ∧ t.tcu = { s.tcu with trial := some y } ∧
              (x.modeMark = false → y.mark = some .inhibit) ∧ (x.modeMark = true → y.mark = some .mode)) ∧
          (∀ x, s.tcu.trial = some x → x.sub = .readWait ∨ x.sub = .measuring → t.tcu = s.tcu)))

/-- SET_MASK with distinct events sets their masks alone, and announces, in the order of the entries, each event it
unmasks while its latch is set; a list that is empty, too long or names an event twice is refused, and so is one with
a byte that names no event, or with a setting byte above 1 (the model's reading, log entry 12). Where its notices do
not fit, the count of its reply is the model's choice (log entry 20). CLEAR_EVENTS clears the named latches alone,
and with NOTICE_OVERFLOW the dropped count. -/
def Obligations.MasksAndLatchesAreSet : Prop :=
  (∀ (s : State) (l : List Nat), s.takesFrames → (∀ x ∈ l, x < 256) → l.length ≤ 61 → (∃ x ∈ l, 18 ≤ x) →
    exec (.clearEvents (nameListBytes l)) s =
      .next (s.setCl (Cl.answered 39 (nameListBytes l) .badValue false []))) ∧
  (∀ (s : State) (l : List MaskFields), s.takesFrames → (∀ x ∈ l, x.event < 256 ∧ x.setting < 256) →
    l.length ≤ 30 → (∃ x ∈ l, 18 ≤ x.event ∨ 2 ≤ x.setting) →
    exec (.setMask (maskListBytes l)) s =
      .next (s.setCl (Cl.answered 38 (maskListBytes l) .badValue false []))) ∧
  (∀ (s : State) (l : List Event) (body : Body), s.takesFrames → body = nameListBytes (l.map Event.code) →
    l.length ≤ 61 →
    (l = [] ∨ 18 < l.length →
      exec (.clearEvents body) s = .next (s.setCl (Cl.answered 39 body .badValue false []))) ∧
    (1 ≤ l.length → l.length ≤ 18 →
      ∃ t, exec (.clearEvents body) s = .next t ∧ (∀ e ∈ l, t.eu.latches.get e = false) ∧
        (∀ e, e ∉ l → t.eu.latches.get e = s.eu.latches.get e) ∧
        t.eu.dropped = (if Event.noticeOverflow ∈ l then 0 else s.eu.dropped) ∧
        t = { s with
          eu := { s.eu with latches := t.eu.latches, dropped := t.eu.dropped }
          cl := Cl.answered 39 body .ok false (eventFlags t.eu.latches ++ natBytes 1 t.eu.dropped) })) ∧
  ∀ (s : State) (l : List (Event × Bool)) (body : Body), s.takesFrames → s.settled →
    body = maskListBytes (l.map (fun x => ⟨x.1.code, x.2.toNat⟩)) → l.length ≤ 30 →
    (l = [] ∨ 18 < l.length ∨ ¬ (l.map Prod.fst).Nodup →
      exec (.setMask body) s = .next (s.setCl (Cl.answered 38 body .badValue false []))) ∧
    (1 ≤ l.length → l.length ≤ 18 → (l.map Prod.fst).Nodup →
      ∃ t, exec (.setMask body) s = .next t ∧
        (∀ e on, (e, on) ∈ l → t.eu.unmasked.get e = on) ∧
        (∀ e, e ∉ l.map Prod.fst → t.eu.unmasked.get e = s.eu.unmasked.get e) ∧
        t.eu.senses = s.eu.senses ∧ t.eu.inhibitSense = s.eu.inhibitSense ∧
        t.cl = Cl.answered 38 body .ok false (eventFlags t.eu.unmasked ++
          natBytes 1 (l.filter (fun x => x.2 && !s.eu.unmasked.get x.1 && s.eu.latches.get x.1)).length) ∧
        t.mc = s.mc ∧ t.pt = s.pt ∧ t.mon = s.mon ∧ t.ldu = s.ldu ∧ t.ct = s.ct ∧ t.tcu = s.tcu ∧ t.wsg = s.wsg ∧
        t.wgc = s.wgc ∧ t.pu = s.pu ∧ t.cs = s.cs ∧ t.lines = s.lines ∧
        (s.room 18 →
          t.eu.latches = s.eu.latches ∧ t.eu.dropped = s.eu.dropped ∧
          t.eu.notices = s.eu.notices ++
            (l.filter (fun x => x.2 && !s.eu.unmasked.get x.1 && s.eu.latches.get x.1)).map
              (fun x => .eventRaised x.1 (s.eu.senseOf x.1))))

/-- A trigger, by latch and mask; a notice that joins, by the room in the queue; and a notice that finds it full,
which is dropped with the count and NOTICE_OVERFLOW. At the end of a step with room, a notice joins after those that
its own poster generated before it and after those whose handlings its own followed (R177; log entry 5). -/
def Obligations.TriggersAndDrops : Prop :=
  (∀ (s : State) (x y : Posted) (a b c : List Posted), s.eu.outbox = a ++ x :: (b ++ y :: c) →
    y.poster = x.poster ∨ x.poster ∈ y.after →
    s.eu.notices.length + s.eu.outbox.length ≤ s.mc.noticeDepth →
    ∃ p q r, (finish s).eu.notices = s.eu.notices ++ (p ++ x.notice :: (q ++ y.notice :: r))) ∧
  ∀ u : Eu,
    (∀ e : Event,
      (u.latches.get e = true → u.trigger e = u) ∧
      (u.latches.get e = false → u.unmasked.get e = false →
        u.trigger e = { u with latches := u.latches.put e true }) ∧
      (u.latches.get e = false → u.unmasked.get e = true →
        u.trigger e = { u with
          latches := u.latches.put e true
          outbox := u.outbox ++ [⟨.event e, [], .eventRaised e (match e.channel with
            | some c => some (.window (u.senses.get c.index))
            | none => if e = .inhibitChanged then some (.inhibit u.inhibitSense) else none)⟩] })) ∧
    (∀ (depth : Nat) (n : Notice),
      (u.notices.length < depth → u.join depth n = { u with notices := u.notices ++ [n] }) ∧
      (depth ≤ u.notices.length → u.latches.get .noticeOverflow = true ∨ u.unmasked.get .noticeOverflow = false →
        u.join depth n = { u with
          dropped := min 255 (u.dropped + 1), latches := u.latches.put .noticeOverflow true }) ∧
      (depth ≤ u.notices.length → u.latches.get .noticeOverflow = false → u.unmasked.get .noticeOverflow = true →
        u.join depth n = { u with
          dropped := min 255 (u.dropped + 2), latches := u.latches.put .noticeOverflow true }))

/-- The commands whose bodies have one permitted length, with that length (R188). -/
def Sys2Proof.Machine.fixedLengths : List ((Body → Instr) × Nat) :=
  [(.setPool, 1), (.startScan, 0), (.stopScan, 0), (.setOffset, 3), (.setWindow, 6), (.getSamples, 0),
   (.setReadPower, 3), (.setApc, 1), (.getLaser, 0), (.setDisc, 5), (.setZones, 25), (.discUnload, 0), (.putCal, 12)] ++
  [(.invalidateCal, 3), (.setStaleSpan, 2), (.setTestArea, 6), (.abortCal, 0), (.getTrial, 0), (.setSpeed, 1),
   (.putStrategy, 7), (.arm, 0), (.disarm, 0), (.pause, 0), (.resume, 0), (.abortSegment, 0), (.setRpc, 3)] ++
  [(.setWaitLimit, 2), (.getQueue, 0), (.setProtect, 4), (.setLock, 1), (.getProtect, 0), (.getEvents, 0),
   (.getStatus, 0), (.resetEnable, 0), (.resetDevice, 0), (.writeBank, 18), (.lockBank, 1), (.selectBank, 1),
   (.getIdent, 0)]

/-- The other commands, each with the bodies of its permitted lengths: those of a presence byte with no bit beyond
its fields and the fields it names, and those of a list of as many entries as its count byte says (R188). -/
def Sys2Proof.Machine.permittedBodies : List ((Body → Instr) × (Body → Prop)) :=
  [(.requestMode, fun b => ∃ m rest, b = [m, 0] ∨ (b = m :: 1 :: rest ∧ rest.length = 6)),
   (.setScan, fun b => ∃ n rest, b = n :: rest ∧ rest.length = n.toNat),
   (.getCal, fun b => ∃ f v z, b = [f, v, 0] ∨ b = [f, v, 1, z]),
   (.calibrate, fun b => ∃ head p rest, b = head ++ p :: rest ∧ head.length = 8 ∧ p.toNat < 8 ∧
      rest.length = 2 * (p.toNat % 2 + p.toNat / 2 % 2 + p.toNat / 4)),
   (.getStrategy, fun b => ∃ v, b = [0] ∨ b = [1, v]),
   (.segment, fun b => ∃ head p rest, b = head ++ p :: rest ∧ head.length = 6 ∧ p.toNat < 2 ∧
      rest.length = 3 * p.toNat),
   (.setMask, fun b => ∃ n rest, b = n :: rest ∧ rest.length = 2 * n.toNat),
   (.clearEvents, fun b => ∃ n rest, b = n :: rest ∧ rest.length = n.toNat)]

/-- CL's own judgements: a well-formed frame of any command that finds a reply in the slot is discarded and counted
to 15, and nothing but the link changes, the reset-enable flag among what stands; DISCARDED_FRAME is that row, and
with an EMPTY slot it is the command its bytes are (the model's choice, log entry 13); a kind byte of no command is
answered UNKNOWN_KIND; a body of a length its command does not permit is answered BAD_LENGTH, whatever the command; a
badly framed window latches LINK_ERROR and leaves slot, count and flag. -/
def Obligations.FramesAreJudgedByKindAndLength : Prop :=
  (∀ (c : Instr) (kind : Byte) (body : Body) (s : State), c.frame = some (kind, body) → body.length ≤ 62 →
    exec (.discardedFrame kind body) s = exec c s) ∧
  (∀ (kind : Byte) (body : Body) (s : State) (r : Reply), opensFrame kind = true → body.length ≤ 62 →
    s.cl.receive ≠ .blocked → s.cl.slot = .full r →
    exec (.discardedFrame kind body) s = .next (s.setCl { s.cl with
      discard := min 15 (s.cl.discard + 1), receive := .idle, dataOut := zeros (2 + body.length) })) ∧
  (∀ (kind : Byte) (body : Body) (s : State), s.takesFrames → body.length ≤ 62 → namesCommand kind = false →
    opensFrame kind = true →
    exec (.unknownKindFrame kind body) s = .next (s.setCl (Cl.answered kind body .unknownKind false []))) ∧
  (∀ (body : Body) (s : State), s.takesFrames → body.length ≤ 62 →
    (∀ p ∈ fixedLengths, body.length ≠ p.2 →
      ∃ kind, (p.1 body).frame = some (kind, body) ∧
        exec (p.1 body) s = .next (s.setCl (Cl.answered kind body .badLength false []))) ∧
    (∀ p ∈ permittedBodies, ¬ p.2 body →
      ∃ kind, (p.1 body).frame = some (kind, body) ∧
        exec (p.1 body) s = .next (s.setCl (Cl.answered kind body .badLength false [])))) ∧
  (∀ (bytes : List Byte) (extra : Fin 8) (s : State), isBadlyFramed bytes extra = true → s.cl.receive ≠ .blocked →
    ∃ t, exec (.badlyFramedFrame bytes extra) s = .next t ∧
      t.cl = { s.cl with receive := .idle, dataOut := zeros bytes.length } ∧
      t.eu.latches.get .linkError = true ∧ t.mc = s.mc ∧ t.pt = s.pt ∧ t.mon = s.mon ∧ t.ldu = s.ldu ∧
      t.ct = s.ct ∧ t.tcu = s.tcu ∧ t.wsg = s.wsg ∧ t.wgc = s.wgc ∧ t.pu = s.pu ∧ t.cs = s.cs ∧ t.lines = s.lines)

/-- The kind byte and the fields of each notice (R181, R195). -/
def Sys2Proof.Machine.NoticesAreCarried : Prop :=
  (∀ a b : Mode, (Notice.modeChanged a b).kind = 1 ∧
    (Notice.modeChanged a b).body = natBytes 1 a.code ++ natBytes 1 b.code) ∧
  (∀ tag done last c largest : Nat, (Notice.segmentDone tag done last c largest).kind = 2 ∧
    (Notice.segmentDone tag done last c largest).body =
      natBytes 2 tag ++ natBytes 2 done ++ natBytes 3 last ++ natBytes 2 c ++ natBytes 3 largest) ∧
  (∀ (tag next remaining : Nat) (why : SegReason), (Notice.segmentSuspended tag next remaining why).kind = 3 ∧
    (Notice.segmentSuspended tag next remaining why).body =
      natBytes 2 tag ++ natBytes 3 next ++ natBytes 2 remaining ++ natBytes 1 why.code) ∧
  (∀ (tag done : Nat) (why : SegReason) (damaged : Option Nat), (Notice.segmentHalted tag why done damaged).kind = 4 ∧
    (Notice.segmentHalted tag why done damaged).body = natBytes 2 tag ++ natBytes 1 why.code ++ natBytes 2 done ++
      presence [decide (damaged ≠ none)] ++ optionalBytes (natBytes 3) damaged) ∧
  (∀ tag : Nat, (Notice.segmentRefused tag).kind = 5 ∧ (Notice.segmentRefused tag).body = natBytes 2 tag ++ [0]) ∧
  (∀ n : Nat, (Notice.queueFlushed n).kind = 6 ∧ (Notice.queueFlushed n).body = natBytes 1 n) ∧
  (∀ d : CalDone, (Notice.calDone d).kind = 7 ∧ (Notice.calDone d).body =
    natBytes 1 d.key.surface.code ++ natBytes 1 d.key.speed.index ++ natBytes 1 d.key.zone ++
      natBytes 1 d.outcome.code ++ presence [decide (d.reason ≠ none), decide (d.fitted ≠ none)] ++
      optionalBytes (fun r : TrialReason => natBytes 1 r.code) d.reason ++ optionalBytes (natBytes 3) d.fitted ++
      intBytes 2 d.target ++ natBytes 2 d.bias ++ natBytes 2 d.cool ++ natBytes 3 d.first ++ natBytes 1 d.written ++
      natBytes 1 d.steps.length ++
      d.steps.flatMap (fun r => natBytes 3 r.1 ++ (match r.2 with
        | .beta b => ([0] : Body) ++ intBytes 2 b
        | .invalid => [1, 0, 0]
        | .unmeasured => [2, 0, 0]))) ∧
  (∀ e : Event, (∀ x, (Notice.eventRaised e x).kind = 8) ∧
    (Notice.eventRaised e none).body = natBytes 1 e.code ++ [0] ∧
    (∀ x : WindowSense, (Notice.eventRaised e (some (.window x))).body =
      natBytes 1 e.code ++ [1] ++ natBytes 1 x.code) ∧
    (∀ x : Inhibit, (Notice.eventRaised e (some (.inhibit x))).body = natBytes 1 e.code ++ [1] ++ natBytes 1 x.code)) ∧
  (∀ (b : BankNo) (x : BankOutcome), (Notice.bankWritten b x).kind = 9 ∧
    (Notice.bankWritten b x).body = natBytes 1 b.code ++ natBytes 1 x.code)

/-- A REPLY window carries out the record of the slot, then zero bytes; the reply is removed with its last byte and
kept by a shorter window; the NONE record removes nothing. A NOTICE window carries out the oldest notice in the same
way, its kind, the length of its body and the fields of its kind (R181, R195); with an empty queue it carries the
NONE record. The reason byte of SEGMENT_REFUSED and the width of the largest deviation are the model's (log entry
11). -/
def Obligations.ReadWindowsCarryTheRecord : Prop :=
  NoticesAreCarried ∧ ∀ (s : State) (edges : Nat), s.cl.receive ≠ .blocked →
    (s.cl.slot = .empty →
      exec (.replyWindow edges) s = .next (s.setCl { s.cl with
        receive := .idle, dataOut := (([0, 0, 0] : Body) ++ zeros (edges / 8)).take (edges / 8) })) ∧
    (∀ (r : Reply) (record : Body), s.cl.slot = .full r →
      record = r.kind :: (natBytes 1 r.status.code ++ natBytes 1 (128 * r.clamped.toNat + s.cl.discard) ++
        natBytes 2 r.body.length ++ r.body) →
      (8 * record.length ≤ edges →
        exec (.replyWindow edges) s = .next (s.setCl { s.cl with
          slot := .empty, discard := 0, receive := .idle
          dataOut := record ++ zeros (edges / 8 - record.length) })) ∧
      (edges < 8 * record.length →
        exec (.replyWindow edges) s = .next (s.setCl { s.cl with
          receive := .idle, dataOut := record.take (edges / 8) }))) ∧
    (s.eu.notices = [] →
      exec (.noticeWindow edges) s = .next (s.setCl { s.cl with
        receive := .idle, dataOut := (([0, 0, 0] : Body) ++ zeros (edges / 8)).take (edges / 8) })) ∧
    (∀ (n : Notice) (rest : List Notice) (record : Body), s.eu.notices = n :: rest →
      record = natBytes 1 n.kind ++ natBytes 2 n.body.length ++ n.body →
      (8 * record.length ≤ edges →
        exec (.noticeWindow edges) s = .next { s with
          eu := { s.eu with notices := rest }
          cl := { s.cl with receive := .idle, dataOut := record ++ zeros (edges / 8 - record.length) } }) ∧
      (edges < 8 * record.length →
        exec (.noticeWindow edges) s = .next (s.setCl { s.cl with
          receive := .idle, dataOut := record.take (edges / 8) })))

/-- R142 at the boundary that completes the head of a segment queue: the next head goes on through the open gate when
it is an APPEND segment whose start is the boundary's block, with the correction and the reference of the one before;
a condition that fails closes the gate and stops it without a damaged block, or removes it; a head that does not
continue waits for its own start block. A COASTED boundary carries a continuation as a VALID one does. SEGMENT_DONE
is queued where there is room. -/
def Obligations.AppendContinuesThroughTheOpenGate : Prop :=
  ∀ (s v : State) (g g' h : Segment) (rest : List Segment) (valid : Bool), s.mc.mode = .record → s.mc.request = none →
    s.wgc.exitMark = false → s.tcu.trial = none → s.wgc.queue = g :: h :: rest →
    g.state = .writing ∨ g.state = .suspending → g.done + 1 = g.count → h.state = .queued → s.passesBoundary valid →
    v = rpcUpdate (s.setWgc { s.wgc with
      append := some (g.surface, g.next), queue := { g with done := g.done + 1 } :: h :: rest }) →
    v.wgc.queue = g' :: h :: rest →
    ∃ t, exec (.positionRecord valid s.pt.surface s.pt.predicted) s = .next t ∧ BoundaryKeeps s t ∧ t.ct = s.ct ∧
      t.tcu = s.tcu ∧
      (s.room 5 → Notice.segmentDone g.tag g.count g.last v.wgc.correction g'.largest ∈ t.eu.notices) ∧
      (h.link = .append → h.surface = s.pt.surface → h.start = s.pt.predicted →
        (s.runProtected h.surface h.start h.last = true → rest = [] →
          t.wgc = { v.wgc with gate := .idle, user := none, returns := { sum := 0, count := 0 }, queue := [] }) ∧
        (s.runProtected h.surface h.start h.last = false →
          (s.pu.sense = .asserted →
            t.wgc = { v.wgc with
              gate := .idle, user := none, returns := { sum := 0, count := 0 }
              queue := { h with state := .suspended, reason := some .inhibit } :: rest }) ∧
          (s.pu.sense = .released → s.lines.encoderReady = false →
            t.wgc = { v.wgc with
              gate := .idle, user := none, arm := false, returns := { sum := 0, count := 0 }
              queue := { h with state := .halted, reason := some .underrun, damaged := none } :: rest }) ∧
          (s.pu.sense = .released → s.lines.encoderReady = true → s.power h.surface h.start = none →
            t.wgc = { v.wgc with
              gate := .idle, user := none, arm := false, returns := { sum := 0, count := 0 }
              queue := { h with state := .halted, reason := some .noCalibration, damaged := none } :: rest }) ∧
          (∀ p : Power, s.pu.sense = .released → s.lines.encoderReady = true → s.power h.surface h.start = some p →
            t.wgc = { v.wgc with
              returns := { sum := 0, count := 0 }, queue := { h with state := .writing } :: rest } ∧
            (∀ e : Nat, e = min 80000 (divRoundNat (p.peak * v.wgc.correction) 1000) →
              t.ldu.writeSet = some { peak := e, bias := divRoundNat (e * p.bias) 1000,
                                      cool := divRoundNat (e * p.cool) 1000 }) ∧ t.ldu.driven = s.ldu.driven ∧
            t.wsg = s.wsg))) ∧
      (h.link = .fresh ∨ h.surface ≠ s.pt.surface ∨ h.start ≠ s.pt.predicted →
        s.runProtected h.surface h.next h.last = false →
        t.wgc = { v.wgc with
          gate := .waiting, user := some .segment, wait := 0, returns := { sum := 0, count := 0 }
          queue := { h with state := .waiting } :: rest } ∧
        t.ldu = { s.ldu with driven := .read } ∧ t.wsg = s.wsg.stop)

/-- What every reset leaves, whatever the state before it: each block at its reset values, the laser dark, the banks
kept and the active bank chosen; the read powers held to the bank's max_read. -/
def Sys2Proof.Machine.ResetLeaves (s : State) (line : Inhibit) (t : State) : Prop :=
  t.mc = { mode := .configure, request := none, segDepth := 12 } ∧ t.pt = Pt.afterReset ∧ t.mon = Mon.afterReset ∧
    t.ct = Ct.afterReset ∧ t.tcu = Tcu.afterReset ∧ t.wsg = Wsg.afterReset ∧ t.wgc = Wgc.afterReset ∧
    t.eu = Eu.afterReset line ∧ t.cs.banks = s.cs.banks ∧ t.cs.store = .idle ∧
    t.ldu.apcOn = true ∧ t.ldu.ioff = 0 ∧ t.ldu.clampMark = false ∧ t.ldu.writeSet = none ∧ t.ldu.driven = .read ∧
    t.ldu.outputCode = 0 ∧ t.ldu.levels = t.levelsNow ∧ t.pending = s.pending ∧
    (t.cs.active = none → t.ldu.readPower = { t0 := 500, t1 := 500 } ∧ ∀ b, (s.cs.banks.get b).valid = false) ∧
    (∀ a, t.cs.active = some a →
      a.record = (s.cs.banks.get a.bank).record ∧ (s.cs.banks.get a.bank).valid = true ∧
      t.ldu.readPower = { t0 := min 500 a.record.maxRead, t1 := min 500 a.record.maxRead } ∧
      (∀ b, b.code < a.bank.code → (s.cs.banks.get b).valid = true →
        (s.cs.banks.get b).locked = false ∧ (s.cs.banks.get a.bank).locked = true) ∧
      (∀ b, (s.cs.banks.get b).valid = true → (s.cs.banks.get b).locked = true →
        (s.cs.banks.get a.bank).locked = true))

/-- Every reset leaves the reset values; a power-on reset and the reset line clear the protection, and the end of a
window left open across one makes the link IDLE. In another receive state that row ends no such window and changes
nothing (the model's choice, log entry 13). -/
def Obligations.ResetsGiveTheResetValues : Prop :=
  (∀ (s : State) (l : ResetLines), ∀ c ∈ [Instr.powerOnReset l, .resetLine l],
    ∃ t, exec c s = .next t ∧ ResetLeaves s l.inhibit t ∧ t.pu = Pu.afterReset l.inhibit ∧
      t.cl = Cl.afterReset l.selectLow ∧ t.lines = { inhibit := l.inhibit, encoderReady := l.encoderReady }) ∧
  (∀ s : State, s.cl.receive = .blocked →
    exec .blockedWindowEnd s = .next (s.setCl { s.cl with receive := .idle })) ∧
  (∀ s : State, s.cl.receive ≠ .blocked → exec .blockedWindowEnd s = .next s)

/-- The commanded reset takes two frames: RESET_ENABLE sets the flag, and RESET_DEVICE resets the part when the flag
is set, keeping a POWER lock and its maps, and is NOTHING_PENDING when it is clear. -/
def Obligations.CommandedResetTakesTwoFrames : Prop :=
  ∀ s : State, s.takesFrames →
    exec (.resetEnable []) s = .next (s.setCl { (Cl.answered 42 [] .ok false []) with resetEnable := true }) ∧
    (s.cl.resetEnable = false →
      exec (.resetDevice []) s = .next (s.setCl (Cl.answered 43 [] .nothingPending false []))) ∧
    (s.cl.resetEnable = true →
      ∃ t, exec (.resetDevice []) s = .next t ∧ ResetLeaves s s.lines.inhibit t ∧ t.cl = Cl.afterReset false ∧
        t.lines = s.lines ∧
        (s.pu.lock = .power → t.pu = { s.pu with sense := s.lines.inhibit }) ∧
        (s.pu.lock ≠ .power → t.pu = Pu.afterReset s.lines.inhibit))

/-- The ranges of a characterization record's fields (R197, check 2). -/
def Sys2Proof.CharRecord.inRanges (r : CharRecord) : Prop :=
  5000 ≤ r.ith0 ∧ r.ith0 ≤ 100000 ∧ 200 ≤ r.eta0 ∧ r.eta0 ≤ 3000 ∧ -200 ≤ r.t0 ∧ r.t0 ≤ 800 ∧ r.kI ≤ 2000 ∧
    r.kEta ≤ 50 ∧ 20000 ≤ r.imax ∧ r.imax ≤ 204750 ∧ 10 ≤ r.fmonGain ∧ r.fmonGain ≤ 2000 ∧ 300 ≤ r.maxRead ∧
    r.maxRead ≤ 2000

/-- The widths of a WRITE_BANK's fields (R188). -/
def Sys2Proof.Machine.BankFields.fits (f : BankFields) : Prop :=
  f.bank < 256 ∧ f.record.ith0 < 256 ^ 3 ∧ f.record.eta0 < 256 ^ 2 ∧ -32768 ≤ f.record.t0 ∧ f.record.t0 ≤ 32767 ∧
    f.record.kI < 256 ^ 2 ∧ f.record.kEta < 256 ∧ f.record.imax < 256 ^ 3 ∧ f.record.fmonGain < 256 ^ 2 ∧
    f.record.maxRead < 256 ^ 2

/-- The store's commands, each by its checks in order: in CONFIGURE, with its fields in range, WRITE_BANK and
LOCK_BANK begin their operation on a bank that is not locked while the store is idle, and SELECT_BANK makes a valid
bank active with the trim cleared; each check that fails changes the link alone. -/
def Obligations.StoreCommandsActInConfigure : Prop :=
  ∀ s : State, s.takesFrames →
    (∀ f : BankFields, f.fits →
      (s.mc.mode ≠ .configure →
        exec (.writeBank f.bytes) s = .next (s.setCl (Cl.answered 44 f.bytes .wrongMode false []))) ∧
      (s.mc.mode = .configure → 3 ≤ f.bank ∨ ¬ f.record.inRanges →
        exec (.writeBank f.bytes) s = .next (s.setCl (Cl.answered 44 f.bytes .badValue false [])))) ∧
    (∀ n : Nat, n < 256 →
      (s.mc.mode ≠ .configure →
        exec (.lockBank (natBytes 1 n)) s = .next (s.setCl (Cl.answered 45 (natBytes 1 n) .wrongMode false [])) ∧
        exec (.selectBank (natBytes 1 n)) s = .next (s.setCl (Cl.answered 46 (natBytes 1 n) .wrongMode false []))) ∧
      (s.mc.mode = .configure → 3 ≤ n →
        exec (.lockBank (natBytes 1 n)) s = .next (s.setCl (Cl.answered 45 (natBytes 1 n) .badValue false [])) ∧
        exec (.selectBank (natBytes 1 n)) s = .next (s.setCl (Cl.answered 46 (natBytes 1 n) .badValue false [])))) ∧
    (s.mc.mode = .configure → ∀ (b : BankNo) (number : Body), number = natBytes 1 b.code →
      (∀ (r : CharRecord) (body : Body), body = BankFields.bytes ⟨b.code, r⟩ → r.inRanges →
        (s.cs.store ≠ .idle →
          exec (.writeBank body) s = .next (s.setCl (Cl.answered 44 body .busy false []))) ∧
        (s.cs.store = .idle → (s.cs.banks.get b).locked = true →
          exec (.writeBank body) s = .next (s.setCl (Cl.answered 44 body .storeLocked false []))) ∧
        (s.cs.store = .idle → (s.cs.banks.get b).locked = false →
          exec (.writeBank body) s = .next { s with
            cs := { s.cs with
              banks := s.cs.banks.put b { (s.cs.banks.get b) with valid := false }, store := .writing b r }
            cl := Cl.answered 44 body .pending false [] })) ∧
      (s.cs.store ≠ .idle →
        exec (.lockBank number) s = .next (s.setCl (Cl.answered 45 number .busy false []))) ∧
      (s.cs.store = .idle → (s.cs.banks.get b).locked = true →
        exec (.lockBank number) s = .next (s.setCl (Cl.answered 45 number .storeLocked false []))) ∧
      (s.cs.store = .idle → (s.cs.banks.get b).locked = false → (s.cs.banks.get b).valid = false →
        exec (.lockBank number) s = .next (s.setCl (Cl.answered 45 number .badValue false []))) ∧
      (s.cs.store = .idle → (s.cs.banks.get b).locked = false → (s.cs.banks.get b).valid = true →
        exec (.lockBank number) s = .next { s with
          cs := { s.cs with store := .locking b }, cl := Cl.answered 45 number .pending false [] }) ∧
      (∀ r, s.cs.store = .writing b r →
        exec (.selectBank number) s = .next (s.setCl (Cl.answered 46 number .busy false []))) ∧
      ((∀ r, s.cs.store ≠ .writing b r) → (s.cs.banks.get b).valid = false →
        exec (.selectBank number) s = .next (s.setCl (Cl.answered 46 number .badValue false []))) ∧
      ((∀ r, s.cs.store ≠ .writing b r) → (s.cs.banks.get b).valid = true →
        ∃ t, exec (.selectBank number) s = .next t ∧
          t.cs = { s.cs with active := some { bank := b, record := (s.cs.banks.get b).record } } ∧
          t.ldu = { s.ldu with
            ioff := 0, clampMark := false, levels := t.levelsNow
            readPower := { t0 := min s.ldu.readPower.t0 (s.cs.banks.get b).record.maxRead
                           t1 := min s.ldu.readPower.t1 (s.cs.banks.get b).record.maxRead } } ∧
          t.cl = Cl.answered 46 number .ok false number ∧ t.mc = s.mc ∧ t.pt = s.pt ∧
          t.mon = s.mon ∧ t.ct = s.ct ∧ t.tcu = s.tcu ∧ t.wsg = s.wsg ∧ t.wgc = s.wgc ∧ t.pu = s.pu ∧
          t.lines = s.lines ∧ (s.settled → t.eu = s.eu ∧ t.free = s.free)))

/-- The store's completions: a write ends WRITTEN with the bank valid when the read-back equals the record, and
FAILED with it not valid otherwise; a lock ends LOCKED or FAILED; BANK_WRITTEN is queued where there is room. Without
an operation nothing happens (the model's choice, log entry 13), and whether a failed write clears the trim is left
open (log entry 9). -/
def Obligations.StoreCompletionsEndTheOperation : Prop :=
  ∀ (s : State) (x : CharRecord) (set : Bool),
    (s.cs.store = .idle →
      exec (.storeWriteComplete x) s = .next s ∧ exec (.storeLockComplete set) s = .next s) ∧
    (∀ (b : BankNo) (r : CharRecord), s.cs.store = .writing b r →
      ∃ t, exec (.storeWriteComplete x) s = .next t ∧ t.cs.store = .idle ∧
        (t.cs.banks.get b).valid = decide (x = r) ∧ (t.cs.banks.get b).locked = (s.cs.banks.get b).locked ∧
        (x = r → (t.cs.banks.get b).record = r) ∧ (∀ c, c ≠ b → t.cs.banks.get c = s.cs.banks.get c) ∧
        (∀ a, s.cs.active = some a → a.bank ≠ b → t.cs.active = s.cs.active ∧ t.ldu = s.ldu) ∧
        (∀ a, s.cs.active = some a → a.bank = b →
          (x = r → t.cs.active = some { bank := b, record := r } ∧ t.ldu.ioff = 0 ∧ t.ldu.clampMark = false) ∧
          (x ≠ r → t.cs.active = none)) ∧
        (s.room 2 → Notice.bankWritten b (if x = r then .written else .failed) ∈ t.eu.notices) ∧
        t.mc = s.mc ∧ t.pt = s.pt ∧ t.mon = s.mon ∧ t.ct = s.ct ∧ t.tcu = s.tcu ∧ t.wsg = s.wsg ∧ t.wgc = s.wgc ∧
        t.pu = s.pu ∧ t.cl = s.cl ∧ t.lines = s.lines) ∧
    (∀ b : BankNo, s.cs.store = .locking b → s.room 1 →
      exec (.storeLockComplete set) s = .next { s with
        cs := { s.cs with
          banks := s.cs.banks.put b { (s.cs.banks.get b) with locked := set }, store := .idle }
        eu := { s.eu with
          notices := s.eu.notices ++ [.bankWritten b (if set then .locked else .failed)] } })

/-- The tracker in READ and RECORD, by its state and the arrival: in ACQUIRING the candidate's successor locks, and
any other valid arrival becomes the candidate (R23); in the other modes the port is ignored. -/
def Obligations.TrackerTakesThePort : Prop :=
  (∀ (s : State) (v : Bool) (f : Surface) (a : Nat), s.mc.mode ≠ .read → s.mc.mode ≠ .record →
    exec (.positionRecord v f a) s = .next s) ∧
  (∀ (s : State) (f : Surface) (a : Nat), s.mc.mode = .read ∨ s.mc.mode = .record → s.mc.request = none →
    ∃ good bad, exec (.positionRecord true f a) s = .next good ∧ exec (.positionRecord false f a) s = .next bad ∧
      (a < s.ct.blocks → s.ct.hasSurface f = true →
        (s.pt.state = .lost →
          good.pt = { s.pt with state := .acquiring, candSurface := f, candAddress := a, coast := 0 }) ∧
        (s.pt.state = .acquiring → s.pt.candSurface = f → a = successor s.ct.blocks s.pt.candAddress →
          good.pt = { s.pt with
            state := .locked, surface := f, current := a, predicted := successor s.ct.blocks a, coast := 0 }) ∧
        (s.pt.state = .acquiring → s.pt.candSurface ≠ f ∨ a ≠ successor s.ct.blocks s.pt.candAddress →
          good.pt = { s.pt with state := .acquiring, candSurface := f, candAddress := a, coast := 0 }) ∧
        (s.pt.state = .locked → s.pt.surface = f → s.pt.predicted = a →
          good.pt = { s.pt with current := a, predicted := successor s.ct.blocks a, coast := 0 }) ∧
        (s.pt.state = .locked → s.pt.surface ≠ f ∨ s.pt.predicted ≠ a →
          good.pt = { s.pt with state := .acquiring, candSurface := f, candAddress := a, coast := 0 } ∧
          good.eu.latches.get .positionJump = true)) ∧
      (s.ct.blocks ≤ a ∨ s.ct.hasSurface f = false → good = bad) ∧
      (s.pt.state = .lost → bad.pt = s.pt) ∧
      (s.pt.state = .acquiring → bad.pt = { s.pt with state := .lost }) ∧
      (s.pt.state = .locked → s.pt.coast < 3 →
        bad.pt = { s.pt with
          current := s.pt.predicted, predicted := successor s.ct.blocks s.pt.predicted, coast := s.pt.coast + 1 }) ∧
      (s.pt.state = .locked → 3 ≤ s.pt.coast →
        bad.pt = { s.pt with state := .lost, coast := 0 } ∧ bad.eu.latches.get .positionLost = true) ∧
      good.mc = s.mc ∧ bad.mc = s.mc ∧ good.mon = s.mon ∧ bad.mon = s.mon ∧ good.pu = s.pu ∧ bad.pu = s.pu ∧
      good.cl = s.cl ∧ bad.cl = s.cl ∧ good.cs = s.cs ∧ bad.cs = s.cs ∧ good.lines = s.lines ∧ bad.lines = s.lines)

/-- The self-test generator: running it delivers its next address as a valid record, and that address becomes its
successor; stopped it delivers nothing (the model's choice, log entry 13). -/
def Obligations.GeneratorDeliversItsNextAddress : Prop :=
  (∀ s : State, s.pt.genRunning = false → exec .generatedArrival s = .next s) ∧
  (∀ s : State, s.pt.genRunning = true → s.mc.request = none →
    ∃ t, exec .generatedArrival s = .next t ∧ t.pt.genNext = successor s.ct.blocks s.pt.genNext ∧
      t.pt.genRunning = true ∧ t.pt.genSurface = s.pt.genSurface ∧ t.pt.genInterval = s.pt.genInterval ∧
      (s.pt.state = .lost →
        t.pt.state = .acquiring ∧ t.pt.candSurface = s.pt.genSurface ∧ t.pt.candAddress = s.pt.genNext) ∧
      (s.pt.state = .acquiring → s.pt.candSurface = s.pt.genSurface →
        s.pt.genNext = successor s.ct.blocks s.pt.candAddress →
        t.pt.state = .locked ∧ t.pt.surface = s.pt.genSurface ∧ t.pt.current = s.pt.genNext ∧
          t.pt.predicted = successor s.ct.blocks s.pt.genNext) ∧
      (s.pt.state = .locked → s.pt.surface = s.pt.genSurface → s.pt.predicted = s.pt.genNext →
        t.pt.state = .locked ∧ t.pt.current = s.pt.genNext ∧
          t.pt.predicted = successor s.ct.blocks s.pt.genNext) ∧
      t.mc = s.mc ∧ t.mon = s.mon ∧ t.pu = s.pu ∧ t.cl = s.cl ∧ t.cs = s.cs ∧ t.lines = s.lines)

/-- The invariants hold at State.reset. The line levels of State.reset are the model's (log entry 2). -/
def Obligations.InvariantsHoldAtReset : Prop :=
  QueuesFit State.reset ∧ LevelsAgree State.reset ∧ ArmSound State.reset ∧ RangesHold State.reset ∧
    ScanSound State.reset ∧ RecordingSound State.reset

/-- After every step the levels are those computed from their inputs, and READ is driven unless the gate is OPEN. -/
def Obligations.EveryStepKeepsLevelsAgree : Prop :=
  ∀ s t : State, LevelsAgree s → step s = .next t → LevelsAgree t

/-- Every step keeps the two queues within their depths with no notice waiting, the arm latch clear outside RECORD
and SELFTEST, the counters and settings in their ranges, and the scan's position in its list. -/
def Obligations.EveryStepKeepsSettings : Prop :=
  (∀ s t : State, QueuesFit s → step s = .next t → QueuesFit t) ∧
    (∀ s t : State, ArmSound s → step s = .next t → ArmSound t) ∧
    (∀ s t : State, RangesHold s → step s = .next t → RangesHold t) ∧
    (∀ s t : State, ScanSound s → step s = .next t → ScanSound t)

/-- Every step keeps the recording path sound: the gate has the one user that the trial or the head calls for, a
pending exit waits only while recording runs, segments stay within their bounds and the disc, and the one record in
TRIAL is that of the trial in flight. -/
def Obligations.EveryStepKeepsRecordingSound : Prop :=
  ∀ s t : State, RecordingSound s → step s = .next t → RecordingSound t

/-- The byte of each enumerated value of a body: its place, from 0, in the list where its owner first gives it
(R188). -/
def Sys2Proof.Machine.NamesAreTheirPlaces : Prop :=
  [Mode.configure, .standby, .read, .record, .selftest, .fault].map Mode.code = List.range 6 ∧
  [Surface.zero, .one].map Surface.code = List.range 2 ∧
  [TrackerState.lost, .acquiring, .locked].map TrackerState.code = List.range 3 ∧
  [Channel.fmon, .rsum, .rtop, .rbot, .temp, .vld, .terr, .aux].map (fun c => c.index.val) = List.range 8 ∧
  [ScanState.stopped, .running, .stopping].map ScanState.code = List.range 3 ∧
  [Level.read, .peak, .bias, .cool].map Level.code = List.range 4 ∧
  [Media.writeOnce, .rewritable].map Media.code = List.range 2 ∧
  [CalState.empty, .trial, .valid, .stale].map CalState.code = List.range 4 ∧
  [CalSource.trial, .host].map CalSource.code = List.range 2 ∧
  [Speed.s1, .s2, .s3, .s4].map (fun v => v.index.val) = List.range 4 ∧
  [MarkClass.m2, .m3, .m4, .m5p].map (fun m => m.index.val) = List.range 4 ∧
  [SubState.writeWait, .writing, .readWait, .measuring].map SubState.code = List.range 4 ∧
  [AbortMark.inhibit, .mode].map AbortMark.code = List.range 2 ∧
  [TrialOutcome.set, .weakSignal, .notReached, .overshot, .startNotFound, .aborted].map TrialOutcome.code =
    List.range 6 ∧
  [TrialReason.command, .tracking, .position, .supply, .fault, .inhibit, .mode].map TrialReason.code = List.range 7 ∧
  [SegLink.fresh, .append].map SegLink.code = List.range 2 ∧
  [SegState.queued, .waiting, .writing, .suspending, .suspended, .halted].map SegState.code = List.range 6 ∧
  [SegReason.command, .inhibit, .mode, .startNotFound, .position, .underrun, .noCalibration, .noStrategy, .tracking,
    .supply, .fault, .aborted].map SegReason.code = List.range 12 ∧
  [GateState.idle, .waiting, .opened].map GateState.code = List.range 3 ∧
  [none, some GateUser.segment, some .trial].map GateUser.code = List.range 3 ∧
  [Side.inner, .outer].map Side.code = List.range 2 ∧
  [Lock.opened, .line, .session, .power].map Lock.code = List.range 4 ∧
  [Inhibit.asserted, .released].map Inhibit.code = List.range 2 ∧
  [WindowSense.inside, .outside].map WindowSense.code = List.range 2 ∧
  [Event.winFmon, .winRsum, .winRtop, .winRbot, .winTemp, .winVld, .winTerr, .winAux, .positionLost, .positionJump,
    .currentLimit, .apcLimit, .rpcLimit, .calStale, .inhibitChanged, .linkError, .noticeOverflow, .faultEntered].map
      Event.code = List.range 18 ∧
  [BankNo.b0, .b1, .b2].map BankNo.code = List.range 3 ∧
  [BankOutcome.written, .failed, .locked].map BankOutcome.code = List.range 3 ∧
  [Status.ok, .pending, .unknownKind, .badLength, .badValue, .wrongMode, .busy, .full, .notArmed, .isProtected,
    .inhibited, .locked, .noCalibration, .noStrategy, .scanRequired, .testAreaFull, .nothingPending, .storeLocked].map
      Status.code = List.range 18

/-- Every body is read back as the fields it was made from, at every value the widths admit. An integer is sent most
significant byte first and in two's complement, a presence byte has its first optional field lowest, and an
enumerated value is its place in its owner's list. The encodings R188 leaves open, the byte of the gate user among
them, are the model's (log entry 11). The encodings R188 leaves open are the model's (log entry 11). -/
def Obligations.BodiesAreReadBack : Prop :=
  (∀ f : ModeFields, f.fits → readMode f.bytes = some f) ∧
  (∀ l : List Nat, l.length < 256 → (∀ x ∈ l, x < 256) → readNames (nameListBytes l) = some l) ∧
  (∀ f : OffsetFields, f.channel < 256 → f.sign < 256 → f.magnitude < 256 → readOffset f.bytes = some f) ∧
  (∀ f : WindowFields, f.channel < 256 → f.low < 256 ^ 2 → f.high < 256 ^ 2 → f.enable < 256 →
    readWindow f.bytes = some f) ∧
  (∀ f : ReadPowerFields, f.surface < 256 → f.power < 256 ^ 2 → readReadPower f.bytes = some f) ∧
  (∀ f : DiscFields, f.media < 256 → f.surfaces < 256 → f.blocks < 256 ^ 3 → readDisc f.bytes = some f) ∧
  (∀ f : ZoneFields, f.surface < 256 → (∀ i : Fin 8, f.starts.get i < 256 ^ 3) → readZones f.bytes = some f) ∧
  (∀ f : PutCalFields, f.key.surface < 256 → f.key.speed < 256 → f.key.zone < 256 → f.peak < 256 ^ 3 →
    f.bias < 256 ^ 2 → f.cool < 256 ^ 2 → -32768 ≤ f.target → f.target ≤ 32767 → readPutCal f.bytes = some f) ∧
  (∀ f : KeyFields, f.surface < 256 → f.speed < 256 → f.zone < 256 → readKey f.bytes = some f) ∧
  (∀ f : GetCalFields, f.surface < 256 → f.speed < 256 → (∀ z, f.zone = some z → z < 256) →
    readGetCal f.bytes = some f) ∧
  (∀ f : AreaFields, f.surface < 256 → f.first < 256 ^ 3 → f.length < 256 ^ 2 → readArea f.bytes = some f) ∧
  (∀ f : CalibrateFields, f.fits → readCalibrate f.bytes = some f) ∧
  (∀ f : StrategyFields, f.speed < 256 → f.mark < 256 → f.entry.fits → readStrategy f.bytes = some f) ∧
  (∀ v : Option Nat, (∀ x, v = some x → x < 256) → readGetStrategy (getStrategyBytes v) = some v) ∧
  (∀ f : SegmentFields, f.tag < 256 ^ 2 → f.surface < 256 → f.link < 256 → f.count < 256 ^ 2 →
    (∀ x, f.start = some x → x < 256 ^ 3) → readSegment f.bytes = some f) ∧
  (∀ f : RpcFields, f.enable < 256 → f.deadband < 256 → f.step < 256 → readRpc f.bytes = some f) ∧
  (∀ f : ProtectFields, f.surface < 256 → f.code < 256 → f.side < 256 → f.complement < 256 →
    readProtect f.bytes = some f) ∧
  (∀ l : List MaskFields, l.length < 256 → (∀ x ∈ l, x.event < 256 ∧ x.setting < 256) →
    readMasks (maskListBytes l) = some l) ∧
  (∀ f : BankFields, f.fits → readBank f.bytes = some f) ∧
  (∀ n v : Nat, v < 256 ^ n → readNat n (natBytes n v) = some v) ∧
  (∀ v : Nat, natBytes 1 v = [BitVec.ofNat 8 v] ∧ ∀ n : Nat,
    natBytes (n + 1) v = BitVec.ofNat 8 (v / 256 ^ n) :: natBytes n v) ∧
  (∀ (n : Nat) (v : Int), (0 ≤ v → v < 256 ^ n → intBytes n v = natBytes n v.toNat) ∧
    (v < 0 → -(256 ^ n) ≤ v → intBytes n v = natBytes n (256 ^ n + v).toNat)) ∧
  (∀ a b c d : Bool, flagByte a = natBytes 1 a.toNat ∧ presence [a] = natBytes 1 a.toNat ∧
    presence [a, b] = natBytes 1 (a.toNat + 2 * b.toNat) ∧
    presence [a, b, c] = natBytes 1 (a.toNat + 2 * b.toNat + 4 * c.toNat) ∧
    presence [a, b, c, d] = natBytes 1 (a.toNat + 2 * b.toNat + 4 * c.toNat + 8 * d.toNat)) ∧
  (∀ (α : Type) (f : α → Body) (x : α), optionalBytes f none = [] ∧ optionalBytes f (some x) = f x) ∧
  NamesAreTheirPlaces

end
end

