-- ==== Sys2Proof/Laws/Codec.lean ====
section
/-! SUPPORT. Reading back what was encoded: an integer, a signed integer, a presence byte and optional field, and a list, each in front of any further bytes (R188). -/

namespace Sys2Proof.Machine

@[simp] theorem natBytes_length (n v : Nat) : (natBytes n v).length = n := by
  induction n with
  | zero => rfl
  | succ n ih => simp [natBytes, ih]

@[simp] theorem intBytes_length (n : Nat) (v : Int) : (intBytes n v).length = n := natBytes_length _ _

/-- The fold of natOf starts anywhere. -/
theorem natOf_foldl (b : Body) (v : Nat) :
    b.foldl (fun v x => 256 * v + x.toNat) v = v * 256 ^ b.length + natOf b := by
  induction b generalizing v with
  | nil => simp [natOf]
  | cons x xs ih =>
    have h0 := ih (256 * v + x.toNat)
    have h1 := ih (x.toNat)
    simp only [List.foldl_cons, List.length_cons, natOf, Nat.mul_zero, Nat.zero_add] at *
    rw [h0, h1]
    ring

theorem natOf_cons (x : Byte) (b : Body) : natOf (x :: b) = x.toNat * 256 ^ b.length + natOf b := by
  have := natOf_foldl b x.toNat
  simpa [natOf] using this

/-- Bytes hold the integer they were made from, up to their width. -/
theorem natOf_natBytes (n v : Nat) : natOf (natBytes n v) = v % 256 ^ n := by
  induction n with
  | zero => simp [natBytes, natOf, Nat.mod_one]
  | succ n ih =>
    rw [natBytes, natOf_cons, natBytes_length, ih]
    simp only [BitVec.toNat_ofNat]
    have h2 : (2 : Nat) ^ 8 = 256 := by norm_num
    rw [h2, pow_succ, Nat.mod_mul]
    ring

/-- An integer that fits its width is read back, in front of any further bytes. -/
@[simp] theorem takeNat_natBytes (n v : Nat) (t : Body) (h : v < 256 ^ n) :
    takeNat n (natBytes n v ++ t) = some (v, t) := by
  have hl : n ≤ (natBytes n v ++ t).length := by simp
  have ht : (natBytes n v ++ t).take n = natBytes n v := by
    rw [List.take_append_of_le_length (by simp)]
    exact List.take_of_length_le (by simp)
  have hd : (natBytes n v ++ t).drop n = t := by
    simp
  rw [takeNat, if_pos hl, ht, hd, natOf_natBytes, Nat.mod_eq_of_lt h]

/-- The two's complement of an integer within its width is read back. -/
theorem signed_mod (n : Nat) (v : Int) (h0 : -(256 ^ n : Int) ≤ 2 * v) (h1 : 2 * v < 256 ^ n) :
    signed n (v % 256 ^ n).toNat = v := by
  have hp : (0 : Int) < 256 ^ n := by positivity
  unfold signed
  rcases lt_or_ge v 0 with hv | hv
  · have hm : v % 256 ^ n = v + 256 ^ n := by
      rw [← Int.add_emod_right]
      exact Int.emod_eq_of_lt (by omega) (by omega)
    have hc : ((v % 256 ^ n).toNat : Int) = v + 256 ^ n := by
      rw [Int.toNat_of_nonneg (Int.emod_nonneg _ (by omega)), hm]
    have hN : (((256 : Nat) ^ n : Nat) : Int) = (256 : Int) ^ n := by push_cast; rfl
    rw [if_neg (by
      intro hlt
      have : (2 : Int) * ((v % 256 ^ n).toNat : Int) < 256 ^ n := by rw [← hN]; exact_mod_cast hlt
      omega), hc]
    ring
  · have hm : v % 256 ^ n = v := Int.emod_eq_of_lt hv (by omega)
    have hc : ((v % 256 ^ n).toNat : Int) = v := by rw [hm, Int.toNat_of_nonneg hv]
    have hN : (((256 : Nat) ^ n : Nat) : Int) = (256 : Int) ^ n := by push_cast; rfl
    rw [if_pos (by
      have : ((2 * (v % 256 ^ n).toNat : Nat) : Int) < ((256 ^ n : Nat) : Int) := by
        rw [hN]; push_cast; rw [hc]; omega
      exact_mod_cast this), hc]

/-- A signed integer that fits its width is read back, in front of any further bytes. -/
@[simp] theorem takeInt_intBytes (n : Nat) (v : Int) (t : Body) (h0 : -(256 ^ n : Int) ≤ 2 * v)
    (h1 : 2 * v < 256 ^ n) : takeInt n (intBytes n v ++ t) = some (v, t) := by
  have hp : (0 : Int) < 256 ^ n := by positivity
  have hlt : (v % 256 ^ n).toNat < 256 ^ n := by
    have h := Int.emod_lt_of_pos v hp
    have hN : (((256 : Nat) ^ n : Nat) : Int) = (256 : Int) ^ n := by push_cast; rfl
    have : ((v % 256 ^ n).toNat : Int) < ((256 ^ n : Nat) : Int) := by
      rw [hN, Int.toNat_of_nonneg (Int.emod_nonneg _ (by omega))]; exact h
    exact_mod_cast this
  rw [takeInt, intBytes, takeNat_natBytes n _ t hlt]
  simp [signed_mod n v h0 h1]

/-- A presence byte is read back. -/
@[simp] theorem takePresence_one (a : Bool) (t : Body) : takePresence 1 (presence [a] ++ t) = some (a.toNat, t) := by
  cases a <;> rfl

@[simp] theorem takePresence_three (a b c : Bool) (t : Body) :
    takePresence 3 (presence [a, b, c] ++ t) = some (a.toNat + 2 * (b.toNat + 2 * c.toNat), t) := by
  cases a <;> cases b <;> cases c <;> rfl

/-- An optional field is read back when its value is. -/
theorem takeOptional_bytes {α : Type} (f : Body → Option (α × Body)) (e : α → Body) (x : Option α) (t : Body)
    (h : ∀ y, x = some y → f (e y ++ t) = some (y, t)) :
    takeOptional x.isSome f (optionalBytes e x ++ t) = some (x, t) := by
  cases x with
  | none => rfl
  | some y => simp [takeOptional, optionalBytes, h y rfl]

/-- The entries of a list are read back when each entry is. -/
theorem takeEntries_flatMap {α : Type} (f : Body → Option (α × Body)) (e : α → Body) (l : List α) (t : Body)
    (h : ∀ x ∈ l, ∀ u, f (e x ++ u) = some (x, u)) :
    takeEntries f l.length (l.flatMap e ++ t) = some (l, t) := by
  induction l with
  | nil => rfl
  | cons x xs ih =>
    simp only [List.length_cons, takeEntries, List.flatMap_cons, List.append_assoc]
    rw [h x (by simp)]
    simp only []
    rw [ih (fun y hy => h y (by simp [hy]))]
    rfl

/-- A list is read back when each entry is and its count fits the count byte. -/
theorem takeList_listBytes {α : Type} (f : Body → Option (α × Body)) (e : α → Body) (l : List α) (t : Body)
    (hl : l.length < 256) (h : ∀ x ∈ l, ∀ u, f (e x ++ u) = some (x, u)) :
    takeList f (listBytes e l ++ t) = some (l, t) := by
  rw [takeList, listBytes, List.append_assoc, takeNat_natBytes 1 _ _ (by omega)]
  exact takeEntries_flatMap f e l t h

@[simp] theorem whole_nil {α : Type} (x : α) : whole (some (x, ([] : Body))) = some x := rfl

end Sys2Proof.Machine
end

