-- ==== Sys2Proof/Laws/State.lean ====
section
/-! SUPPORT. One lemma for each field and each update of the state, true by definition, so that no proof unfolds a record update. -/

namespace Sys2Proof.Machine

@[simp] theorem State.setMc_mc (s : State) x : (s.setMc x).mc = x := rfl
@[simp] theorem State.setMc_pt (s : State) x : (s.setMc x).pt = s.pt := rfl
@[simp] theorem State.setMc_mon (s : State) x : (s.setMc x).mon = s.mon := rfl
@[simp] theorem State.setMc_ldu (s : State) x : (s.setMc x).ldu = s.ldu := rfl
@[simp] theorem State.setMc_ct (s : State) x : (s.setMc x).ct = s.ct := rfl
@[simp] theorem State.setMc_tcu (s : State) x : (s.setMc x).tcu = s.tcu := rfl
@[simp] theorem State.setMc_wsg (s : State) x : (s.setMc x).wsg = s.wsg := rfl
@[simp] theorem State.setMc_wgc (s : State) x : (s.setMc x).wgc = s.wgc := rfl
@[simp] theorem State.setMc_pu (s : State) x : (s.setMc x).pu = s.pu := rfl
@[simp] theorem State.setMc_eu (s : State) x : (s.setMc x).eu = s.eu := rfl
@[simp] theorem State.setMc_cl (s : State) x : (s.setMc x).cl = s.cl := rfl
@[simp] theorem State.setMc_cs (s : State) x : (s.setMc x).cs = s.cs := rfl
@[simp] theorem State.setMc_lines (s : State) x : (s.setMc x).lines = s.lines := rfl
@[simp] theorem State.setMc_free (s : State) x : (s.setMc x).free = s.free := rfl
@[simp] theorem State.setMc_pending (s : State) x : (s.setMc x).pending = s.pending := rfl
@[simp] theorem State.setMc_setMc (s : State) x y : (s.setMc x).setMc y = s.setMc y := rfl
@[simp] theorem State.setMc_self (s : State) : s.setMc s.mc = s := rfl

@[simp] theorem State.setPt_mc (s : State) x : (s.setPt x).mc = s.mc := rfl
@[simp] theorem State.setPt_pt (s : State) x : (s.setPt x).pt = x := rfl
@[simp] theorem State.setPt_mon (s : State) x : (s.setPt x).mon = s.mon := rfl
@[simp] theorem State.setPt_ldu (s : State) x : (s.setPt x).ldu = s.ldu := rfl
@[simp] theorem State.setPt_ct (s : State) x : (s.setPt x).ct = s.ct := rfl
@[simp] theorem State.setPt_tcu (s : State) x : (s.setPt x).tcu = s.tcu := rfl
@[simp] theorem State.setPt_wsg (s : State) x : (s.setPt x).wsg = s.wsg := rfl
@[simp] theorem State.setPt_wgc (s : State) x : (s.setPt x).wgc = s.wgc := rfl
@[simp] theorem State.setPt_pu (s : State) x : (s.setPt x).pu = s.pu := rfl
@[simp] theorem State.setPt_eu (s : State) x : (s.setPt x).eu = s.eu := rfl
@[simp] theorem State.setPt_cl (s : State) x : (s.setPt x).cl = s.cl := rfl
@[simp] theorem State.setPt_cs (s : State) x : (s.setPt x).cs = s.cs := rfl
@[simp] theorem State.setPt_lines (s : State) x : (s.setPt x).lines = s.lines := rfl
@[simp] theorem State.setPt_free (s : State) x : (s.setPt x).free = s.free := rfl
@[simp] theorem State.setPt_pending (s : State) x : (s.setPt x).pending = s.pending := rfl
@[simp] theorem State.setPt_setPt (s : State) x y : (s.setPt x).setPt y = s.setPt y := rfl
@[simp] theorem State.setPt_self (s : State) : s.setPt s.pt = s := rfl

@[simp] theorem State.setMon_mc (s : State) x : (s.setMon x).mc = s.mc := rfl
@[simp] theorem State.setMon_pt (s : State) x : (s.setMon x).pt = s.pt := rfl
@[simp] theorem State.setMon_mon (s : State) x : (s.setMon x).mon = x := rfl
@[simp] theorem State.setMon_ldu (s : State) x : (s.setMon x).ldu = s.ldu := rfl
@[simp] theorem State.setMon_ct (s : State) x : (s.setMon x).ct = s.ct := rfl
@[simp] theorem State.setMon_tcu (s : State) x : (s.setMon x).tcu = s.tcu := rfl
@[simp] theorem State.setMon_wsg (s : State) x : (s.setMon x).wsg = s.wsg := rfl
@[simp] theorem State.setMon_wgc (s : State) x : (s.setMon x).wgc = s.wgc := rfl
@[simp] theorem State.setMon_pu (s : State) x : (s.setMon x).pu = s.pu := rfl
@[simp] theorem State.setMon_eu (s : State) x : (s.setMon x).eu = s.eu := rfl
@[simp] theorem State.setMon_cl (s : State) x : (s.setMon x).cl = s.cl := rfl
@[simp] theorem State.setMon_cs (s : State) x : (s.setMon x).cs = s.cs := rfl
@[simp] theorem State.setMon_lines (s : State) x : (s.setMon x).lines = s.lines := rfl
@[simp] theorem State.setMon_free (s : State) x : (s.setMon x).free = s.free := rfl
@[simp] theorem State.setMon_pending (s : State) x : (s.setMon x).pending = s.pending := rfl
@[simp] theorem State.setMon_setMon (s : State) x y : (s.setMon x).setMon y = s.setMon y := rfl
@[simp] theorem State.setMon_self (s : State) : s.setMon s.mon = s := rfl

@[simp] theorem State.setLdu_mc (s : State) x : (s.setLdu x).mc = s.mc := rfl
@[simp] theorem State.setLdu_pt (s : State) x : (s.setLdu x).pt = s.pt := rfl
@[simp] theorem State.setLdu_mon (s : State) x : (s.setLdu x).mon = s.mon := rfl
@[simp] theorem State.setLdu_ldu (s : State) x : (s.setLdu x).ldu = x := rfl
@[simp] theorem State.setLdu_ct (s : State) x : (s.setLdu x).ct = s.ct := rfl
@[simp] theorem State.setLdu_tcu (s : State) x : (s.setLdu x).tcu = s.tcu := rfl
@[simp] theorem State.setLdu_wsg (s : State) x : (s.setLdu x).wsg = s.wsg := rfl
@[simp] theorem State.setLdu_wgc (s : State) x : (s.setLdu x).wgc = s.wgc := rfl
@[simp] theorem State.setLdu_pu (s : State) x : (s.setLdu x).pu = s.pu := rfl
@[simp] theorem State.setLdu_eu (s : State) x : (s.setLdu x).eu = s.eu := rfl
@[simp] theorem State.setLdu_cl (s : State) x : (s.setLdu x).cl = s.cl := rfl
@[simp] theorem State.setLdu_cs (s : State) x : (s.setLdu x).cs = s.cs := rfl
@[simp] theorem State.setLdu_lines (s : State) x : (s.setLdu x).lines = s.lines := rfl
@[simp] theorem State.setLdu_free (s : State) x : (s.setLdu x).free = s.free := rfl
@[simp] theorem State.setLdu_pending (s : State) x : (s.setLdu x).pending = s.pending := rfl
@[simp] theorem State.setLdu_setLdu (s : State) x y : (s.setLdu x).setLdu y = s.setLdu y := rfl
@[simp] theorem State.setLdu_self (s : State) : s.setLdu s.ldu = s := rfl

@[simp] theorem State.setCt_mc (s : State) x : (s.setCt x).mc = s.mc := rfl
@[simp] theorem State.setCt_pt (s : State) x : (s.setCt x).pt = s.pt := rfl
@[simp] theorem State.setCt_mon (s : State) x : (s.setCt x).mon = s.mon := rfl
@[simp] theorem State.setCt_ldu (s : State) x : (s.setCt x).ldu = s.ldu := rfl
@[simp] theorem State.setCt_ct (s : State) x : (s.setCt x).ct = x := rfl
@[simp] theorem State.setCt_tcu (s : State) x : (s.setCt x).tcu = s.tcu := rfl
@[simp] theorem State.setCt_wsg (s : State) x : (s.setCt x).wsg = s.wsg := rfl
@[simp] theorem State.setCt_wgc (s : State) x : (s.setCt x).wgc = s.wgc := rfl
@[simp] theorem State.setCt_pu (s : State) x : (s.setCt x).pu = s.pu := rfl
@[simp] theorem State.setCt_eu (s : State) x : (s.setCt x).eu = s.eu := rfl
@[simp] theorem State.setCt_cl (s : State) x : (s.setCt x).cl = s.cl := rfl
@[simp] theorem State.setCt_cs (s : State) x : (s.setCt x).cs = s.cs := rfl
@[simp] theorem State.setCt_lines (s : State) x : (s.setCt x).lines = s.lines := rfl
@[simp] theorem State.setCt_free (s : State) x : (s.setCt x).free = s.free := rfl
@[simp] theorem State.setCt_pending (s : State) x : (s.setCt x).pending = s.pending := rfl
@[simp] theorem State.setCt_setCt (s : State) x y : (s.setCt x).setCt y = s.setCt y := rfl
@[simp] theorem State.setCt_self (s : State) : s.setCt s.ct = s := rfl

@[simp] theorem State.setTcu_mc (s : State) x : (s.setTcu x).mc = s.mc := rfl
@[simp] theorem State.setTcu_pt (s : State) x : (s.setTcu x).pt = s.pt := rfl
@[simp] theorem State.setTcu_mon (s : State) x : (s.setTcu x).mon = s.mon := rfl
@[simp] theorem State.setTcu_ldu (s : State) x : (s.setTcu x).ldu = s.ldu := rfl
@[simp] theorem State.setTcu_ct (s : State) x : (s.setTcu x).ct = s.ct := rfl
@[simp] theorem State.setTcu_tcu (s : State) x : (s.setTcu x).tcu = x := rfl
@[simp] theorem State.setTcu_wsg (s : State) x : (s.setTcu x).wsg = s.wsg := rfl
@[simp] theorem State.setTcu_wgc (s : State) x : (s.setTcu x).wgc = s.wgc := rfl
@[simp] theorem State.setTcu_pu (s : State) x : (s.setTcu x).pu = s.pu := rfl
@[simp] theorem State.setTcu_eu (s : State) x : (s.setTcu x).eu = s.eu := rfl
@[simp] theorem State.setTcu_cl (s : State) x : (s.setTcu x).cl = s.cl := rfl
@[simp] theorem State.setTcu_cs (s : State) x : (s.setTcu x).cs = s.cs := rfl
@[simp] theorem State.setTcu_lines (s : State) x : (s.setTcu x).lines = s.lines := rfl
@[simp] theorem State.setTcu_free (s : State) x : (s.setTcu x).free = s.free := rfl
@[simp] theorem State.setTcu_pending (s : State) x : (s.setTcu x).pending = s.pending := rfl
@[simp] theorem State.setTcu_setTcu (s : State) x y : (s.setTcu x).setTcu y = s.setTcu y := rfl
@[simp] theorem State.setTcu_self (s : State) : s.setTcu s.tcu = s := rfl

@[simp] theorem State.setWsg_mc (s : State) x : (s.setWsg x).mc = s.mc := rfl
@[simp] theorem State.setWsg_pt (s : State) x : (s.setWsg x).pt = s.pt := rfl
@[simp] theorem State.setWsg_mon (s : State) x : (s.setWsg x).mon = s.mon := rfl
@[simp] theorem State.setWsg_ldu (s : State) x : (s.setWsg x).ldu = s.ldu := rfl
@[simp] theorem State.setWsg_ct (s : State) x : (s.setWsg x).ct = s.ct := rfl
@[simp] theorem State.setWsg_tcu (s : State) x : (s.setWsg x).tcu = s.tcu := rfl
@[simp] theorem State.setWsg_wsg (s : State) x : (s.setWsg x).wsg = x := rfl
@[simp] theorem State.setWsg_wgc (s : State) x : (s.setWsg x).wgc = s.wgc := rfl
@[simp] theorem State.setWsg_pu (s : State) x : (s.setWsg x).pu = s.pu := rfl
@[simp] theorem State.setWsg_eu (s : State) x : (s.setWsg x).eu = s.eu := rfl
@[simp] theorem State.setWsg_cl (s : State) x : (s.setWsg x).cl = s.cl := rfl
@[simp] theorem State.setWsg_cs (s : State) x : (s.setWsg x).cs = s.cs := rfl
@[simp] theorem State.setWsg_lines (s : State) x : (s.setWsg x).lines = s.lines := rfl
@[simp] theorem State.setWsg_free (s : State) x : (s.setWsg x).free = s.free := rfl
@[simp] theorem State.setWsg_pending (s : State) x : (s.setWsg x).pending = s.pending := rfl
@[simp] theorem State.setWsg_setWsg (s : State) x y : (s.setWsg x).setWsg y = s.setWsg y := rfl
@[simp] theorem State.setWsg_self (s : State) : s.setWsg s.wsg = s := rfl

@[simp] theorem State.setWgc_mc (s : State) x : (s.setWgc x).mc = s.mc := rfl
@[simp] theorem State.setWgc_pt (s : State) x : (s.setWgc x).pt = s.pt := rfl
@[simp] theorem State.setWgc_mon (s : State) x : (s.setWgc x).mon = s.mon := rfl
@[simp] theorem State.setWgc_ldu (s : State) x : (s.setWgc x).ldu = s.ldu := rfl
@[simp] theorem State.setWgc_ct (s : State) x : (s.setWgc x).ct = s.ct := rfl
@[simp] theorem State.setWgc_tcu (s : State) x : (s.setWgc x).tcu = s.tcu := rfl
@[simp] theorem State.setWgc_wsg (s : State) x : (s.setWgc x).wsg = s.wsg := rfl
@[simp] theorem State.setWgc_wgc (s : State) x : (s.setWgc x).wgc = x := rfl
@[simp] theorem State.setWgc_pu (s : State) x : (s.setWgc x).pu = s.pu := rfl
@[simp] theorem State.setWgc_eu (s : State) x : (s.setWgc x).eu = s.eu := rfl
@[simp] theorem State.setWgc_cl (s : State) x : (s.setWgc x).cl = s.cl := rfl
@[simp] theorem State.setWgc_cs (s : State) x : (s.setWgc x).cs = s.cs := rfl
@[simp] theorem State.setWgc_lines (s : State) x : (s.setWgc x).lines = s.lines := rfl
@[simp] theorem State.setWgc_free (s : State) x : (s.setWgc x).free = s.free := rfl
@[simp] theorem State.setWgc_pending (s : State) x : (s.setWgc x).pending = s.pending := rfl
@[simp] theorem State.setWgc_setWgc (s : State) x y : (s.setWgc x).setWgc y = s.setWgc y := rfl
@[simp] theorem State.setWgc_self (s : State) : s.setWgc s.wgc = s := rfl

@[simp] theorem State.setPu_mc (s : State) x : (s.setPu x).mc = s.mc := rfl
@[simp] theorem State.setPu_pt (s : State) x : (s.setPu x).pt = s.pt := rfl
@[simp] theorem State.setPu_mon (s : State) x : (s.setPu x).mon = s.mon := rfl
@[simp] theorem State.setPu_ldu (s : State) x : (s.setPu x).ldu = s.ldu := rfl
@[simp] theorem State.setPu_ct (s : State) x : (s.setPu x).ct = s.ct := rfl
@[simp] theorem State.setPu_tcu (s : State) x : (s.setPu x).tcu = s.tcu := rfl
@[simp] theorem State.setPu_wsg (s : State) x : (s.setPu x).wsg = s.wsg := rfl
@[simp] theorem State.setPu_wgc (s : State) x : (s.setPu x).wgc = s.wgc := rfl
@[simp] theorem State.setPu_pu (s : State) x : (s.setPu x).pu = x := rfl
@[simp] theorem State.setPu_eu (s : State) x : (s.setPu x).eu = s.eu := rfl
@[simp] theorem State.setPu_cl (s : State) x : (s.setPu x).cl = s.cl := rfl
@[simp] theorem State.setPu_cs (s : State) x : (s.setPu x).cs = s.cs := rfl
@[simp] theorem State.setPu_lines (s : State) x : (s.setPu x).lines = s.lines := rfl
@[simp] theorem State.setPu_free (s : State) x : (s.setPu x).free = s.free := rfl
@[simp] theorem State.setPu_pending (s : State) x : (s.setPu x).pending = s.pending := rfl
@[simp] theorem State.setPu_setPu (s : State) x y : (s.setPu x).setPu y = s.setPu y := rfl
@[simp] theorem State.setPu_self (s : State) : s.setPu s.pu = s := rfl

@[simp] theorem State.setEu_mc (s : State) x : (s.setEu x).mc = s.mc := rfl
@[simp] theorem State.setEu_pt (s : State) x : (s.setEu x).pt = s.pt := rfl
@[simp] theorem State.setEu_mon (s : State) x : (s.setEu x).mon = s.mon := rfl
@[simp] theorem State.setEu_ldu (s : State) x : (s.setEu x).ldu = s.ldu := rfl
@[simp] theorem State.setEu_ct (s : State) x : (s.setEu x).ct = s.ct := rfl
@[simp] theorem State.setEu_tcu (s : State) x : (s.setEu x).tcu = s.tcu := rfl
@[simp] theorem State.setEu_wsg (s : State) x : (s.setEu x).wsg = s.wsg := rfl
@[simp] theorem State.setEu_wgc (s : State) x : (s.setEu x).wgc = s.wgc := rfl
@[simp] theorem State.setEu_pu (s : State) x : (s.setEu x).pu = s.pu := rfl
@[simp] theorem State.setEu_eu (s : State) x : (s.setEu x).eu = x := rfl
@[simp] theorem State.setEu_cl (s : State) x : (s.setEu x).cl = s.cl := rfl
@[simp] theorem State.setEu_cs (s : State) x : (s.setEu x).cs = s.cs := rfl
@[simp] theorem State.setEu_lines (s : State) x : (s.setEu x).lines = s.lines := rfl
@[simp] theorem State.setEu_free (s : State) x : (s.setEu x).free = s.free := rfl
@[simp] theorem State.setEu_pending (s : State) x : (s.setEu x).pending = s.pending := rfl
@[simp] theorem State.setEu_setEu (s : State) x y : (s.setEu x).setEu y = s.setEu y := rfl
@[simp] theorem State.setEu_self (s : State) : s.setEu s.eu = s := rfl

@[simp] theorem State.setCl_mc (s : State) x : (s.setCl x).mc = s.mc := rfl
@[simp] theorem State.setCl_pt (s : State) x : (s.setCl x).pt = s.pt := rfl
@[simp] theorem State.setCl_mon (s : State) x : (s.setCl x).mon = s.mon := rfl
@[simp] theorem State.setCl_ldu (s : State) x : (s.setCl x).ldu = s.ldu := rfl
@[simp] theorem State.setCl_ct (s : State) x : (s.setCl x).ct = s.ct := rfl
@[simp] theorem State.setCl_tcu (s : State) x : (s.setCl x).tcu = s.tcu := rfl
@[simp] theorem State.setCl_wsg (s : State) x : (s.setCl x).wsg = s.wsg := rfl
@[simp] theorem State.setCl_wgc (s : State) x : (s.setCl x).wgc = s.wgc := rfl
@[simp] theorem State.setCl_pu (s : State) x : (s.setCl x).pu = s.pu := rfl
@[simp] theorem State.setCl_eu (s : State) x : (s.setCl x).eu = s.eu := rfl
@[simp] theorem State.setCl_cl (s : State) x : (s.setCl x).cl = x := rfl
@[simp] theorem State.setCl_cs (s : State) x : (s.setCl x).cs = s.cs := rfl
@[simp] theorem State.setCl_lines (s : State) x : (s.setCl x).lines = s.lines := rfl
@[simp] theorem State.setCl_free (s : State) x : (s.setCl x).free = s.free := rfl
@[simp] theorem State.setCl_pending (s : State) x : (s.setCl x).pending = s.pending := rfl
@[simp] theorem State.setCl_setCl (s : State) x y : (s.setCl x).setCl y = s.setCl y := rfl
@[simp] theorem State.setCl_self (s : State) : s.setCl s.cl = s := rfl

@[simp] theorem State.setCs_mc (s : State) x : (s.setCs x).mc = s.mc := rfl
@[simp] theorem State.setCs_pt (s : State) x : (s.setCs x).pt = s.pt := rfl
@[simp] theorem State.setCs_mon (s : State) x : (s.setCs x).mon = s.mon := rfl
@[simp] theorem State.setCs_ldu (s : State) x : (s.setCs x).ldu = s.ldu := rfl
@[simp] theorem State.setCs_ct (s : State) x : (s.setCs x).ct = s.ct := rfl
@[simp] theorem State.setCs_tcu (s : State) x : (s.setCs x).tcu = s.tcu := rfl
@[simp] theorem State.setCs_wsg (s : State) x : (s.setCs x).wsg = s.wsg := rfl
@[simp] theorem State.setCs_wgc (s : State) x : (s.setCs x).wgc = s.wgc := rfl
@[simp] theorem State.setCs_pu (s : State) x : (s.setCs x).pu = s.pu := rfl
@[simp] theorem State.setCs_eu (s : State) x : (s.setCs x).eu = s.eu := rfl
@[simp] theorem State.setCs_cl (s : State) x : (s.setCs x).cl = s.cl := rfl
@[simp] theorem State.setCs_cs (s : State) x : (s.setCs x).cs = x := rfl
@[simp] theorem State.setCs_lines (s : State) x : (s.setCs x).lines = s.lines := rfl
@[simp] theorem State.setCs_free (s : State) x : (s.setCs x).free = s.free := rfl
@[simp] theorem State.setCs_pending (s : State) x : (s.setCs x).pending = s.pending := rfl
@[simp] theorem State.setCs_setCs (s : State) x y : (s.setCs x).setCs y = s.setCs y := rfl
@[simp] theorem State.setCs_self (s : State) : s.setCs s.cs = s := rfl

@[simp] theorem State.setLines_mc (s : State) x : (s.setLines x).mc = s.mc := rfl
@[simp] theorem State.setLines_pt (s : State) x : (s.setLines x).pt = s.pt := rfl
@[simp] theorem State.setLines_mon (s : State) x : (s.setLines x).mon = s.mon := rfl
@[simp] theorem State.setLines_ldu (s : State) x : (s.setLines x).ldu = s.ldu := rfl
@[simp] theorem State.setLines_ct (s : State) x : (s.setLines x).ct = s.ct := rfl
@[simp] theorem State.setLines_tcu (s : State) x : (s.setLines x).tcu = s.tcu := rfl
@[simp] theorem State.setLines_wsg (s : State) x : (s.setLines x).wsg = s.wsg := rfl
@[simp] theorem State.setLines_wgc (s : State) x : (s.setLines x).wgc = s.wgc := rfl
@[simp] theorem State.setLines_pu (s : State) x : (s.setLines x).pu = s.pu := rfl
@[simp] theorem State.setLines_eu (s : State) x : (s.setLines x).eu = s.eu := rfl
@[simp] theorem State.setLines_cl (s : State) x : (s.setLines x).cl = s.cl := rfl
@[simp] theorem State.setLines_cs (s : State) x : (s.setLines x).cs = s.cs := rfl
@[simp] theorem State.setLines_lines (s : State) x : (s.setLines x).lines = x := rfl
@[simp] theorem State.setLines_free (s : State) x : (s.setLines x).free = s.free := rfl
@[simp] theorem State.setLines_pending (s : State) x : (s.setLines x).pending = s.pending := rfl
@[simp] theorem State.setLines_setLines (s : State) x y : (s.setLines x).setLines y = s.setLines y := rfl
@[simp] theorem State.setLines_self (s : State) : s.setLines s.lines = s := rfl

@[simp] theorem State.setFree_mc (s : State) x : (s.setFree x).mc = s.mc := rfl
@[simp] theorem State.setFree_pt (s : State) x : (s.setFree x).pt = s.pt := rfl
@[simp] theorem State.setFree_mon (s : State) x : (s.setFree x).mon = s.mon := rfl
@[simp] theorem State.setFree_ldu (s : State) x : (s.setFree x).ldu = s.ldu := rfl
@[simp] theorem State.setFree_ct (s : State) x : (s.setFree x).ct = s.ct := rfl
@[simp] theorem State.setFree_tcu (s : State) x : (s.setFree x).tcu = s.tcu := rfl
@[simp] theorem State.setFree_wsg (s : State) x : (s.setFree x).wsg = s.wsg := rfl
@[simp] theorem State.setFree_wgc (s : State) x : (s.setFree x).wgc = s.wgc := rfl
@[simp] theorem State.setFree_pu (s : State) x : (s.setFree x).pu = s.pu := rfl
@[simp] theorem State.setFree_eu (s : State) x : (s.setFree x).eu = s.eu := rfl
@[simp] theorem State.setFree_cl (s : State) x : (s.setFree x).cl = s.cl := rfl
@[simp] theorem State.setFree_cs (s : State) x : (s.setFree x).cs = s.cs := rfl
@[simp] theorem State.setFree_lines (s : State) x : (s.setFree x).lines = s.lines := rfl
@[simp] theorem State.setFree_free (s : State) x : (s.setFree x).free = x := rfl
@[simp] theorem State.setFree_pending (s : State) x : (s.setFree x).pending = s.pending := rfl
@[simp] theorem State.setFree_setFree (s : State) x y : (s.setFree x).setFree y = s.setFree y := rfl
@[simp] theorem State.setFree_self (s : State) : s.setFree s.free = s := rfl

@[simp] theorem State.setPending_mc (s : State) x : (s.setPending x).mc = s.mc := rfl
@[simp] theorem State.setPending_pt (s : State) x : (s.setPending x).pt = s.pt := rfl
@[simp] theorem State.setPending_mon (s : State) x : (s.setPending x).mon = s.mon := rfl
@[simp] theorem State.setPending_ldu (s : State) x : (s.setPending x).ldu = s.ldu := rfl
@[simp] theorem State.setPending_ct (s : State) x : (s.setPending x).ct = s.ct := rfl
@[simp] theorem State.setPending_tcu (s : State) x : (s.setPending x).tcu = s.tcu := rfl
@[simp] theorem State.setPending_wsg (s : State) x : (s.setPending x).wsg = s.wsg := rfl
@[simp] theorem State.setPending_wgc (s : State) x : (s.setPending x).wgc = s.wgc := rfl
@[simp] theorem State.setPending_pu (s : State) x : (s.setPending x).pu = s.pu := rfl
@[simp] theorem State.setPending_eu (s : State) x : (s.setPending x).eu = s.eu := rfl
@[simp] theorem State.setPending_cl (s : State) x : (s.setPending x).cl = s.cl := rfl
@[simp] theorem State.setPending_cs (s : State) x : (s.setPending x).cs = s.cs := rfl
@[simp] theorem State.setPending_lines (s : State) x : (s.setPending x).lines = s.lines := rfl
@[simp] theorem State.setPending_free (s : State) x : (s.setPending x).free = s.free := rfl
@[simp] theorem State.setPending_pending (s : State) x : (s.setPending x).pending = x := rfl
@[simp] theorem State.setPending_setPending (s : State) x y : (s.setPending x).setPending y = s.setPending y := rfl
@[simp] theorem State.setPending_self (s : State) : s.setPending s.pending = s := rfl

end Sys2Proof.Machine
end

