-- ==== Sys2Proof/Laws/Events.lean ====
section
/-! SUPPORT. What the Event Unit's operations do: a trigger, a drop, a notice that joins, and the joining of all the notices of a step (R173, R177, R178). -/

namespace Sys2Proof.Machine

/-- A trigger of a set latch changes nothing (R173). -/
theorem Eu.trigger_set (u : Eu) (e : Event) (h : u.latches.get e = true) : u.trigger e = u := by
  simp [Eu.trigger, h]

/-- A trigger of a clear latch that is MASKED sets the latch alone (R173). -/
theorem Eu.trigger_masked (u : Eu) (e : Event) (h : u.latches.get e = false) (m : u.unmasked.get e = false) :
    u.trigger e = { u with latches := u.latches.put e true } := by
  simp [Eu.trigger, h, m]

/-- A trigger of a clear latch that is UNMASKED sets it and generates one EVENT_RAISED (R173). -/
theorem Eu.trigger_unmasked (u : Eu) (e : Event) (h : u.latches.get e = false) (m : u.unmasked.get e = true) :
    u.trigger e = ({ u with latches := u.latches.put e true }).post (.event e)
      (.eventRaised e (({ u with latches := u.latches.put e true } : Eu).senseOf e)) := by
  simp [Eu.trigger, h, m]

/-- A trigger leaves masks, senses, notices and dropped count. -/
@[simp] theorem Eu.trigger_frame (u : Eu) (e : Event) :
    (u.trigger e).unmasked = u.unmasked ∧ (u.trigger e).senses = u.senses ∧
      (u.trigger e).inhibitSense = u.inhibitSense ∧ (u.trigger e).notices = u.notices ∧
      (u.trigger e).dropped = u.dropped := by
  unfold Eu.trigger
  split
  · simp
  · dsimp only
    split <;> simp [Eu.post]

/-- A drop leaves masks, senses, queue and outbox (R178). -/
@[simp] theorem Eu.drop_frame (u : Eu) :
    u.drop.unmasked = u.unmasked ∧ u.drop.senses = u.senses ∧ u.drop.inhibitSense = u.inhibitSense ∧
      u.drop.notices = u.notices ∧ u.drop.outbox = u.outbox := by
  unfold Eu.drop
  dsimp only
  split
  · simp [Eu.countDrop]
  · split <;> simp [Eu.countDrop]

/-- The dropped count stays within 255 (R178). -/
theorem Eu.drop_dropped_le (u : Eu) : u.drop.dropped ≤ 255 := by
  unfold Eu.drop
  dsimp only
  split
  · simp [Eu.countDrop]
  · split <;> simp [Eu.countDrop]

/-- A joining notice leaves masks, senses and outbox. -/
@[simp] theorem Eu.join_frame (u : Eu) (depth : Nat) (n : Notice) :
    (u.join depth n).unmasked = u.unmasked ∧ (u.join depth n).senses = u.senses ∧
      (u.join depth n).inhibitSense = u.inhibitSense ∧ (u.join depth n).outbox = u.outbox := by
  unfold Eu.join
  split <;> simp

/-- With room a notice joins the tail of the queue (R177). -/
theorem Eu.join_room (u : Eu) (depth : Nat) (n : Notice) (h : u.notices.length < depth) :
    u.join depth n = { u with notices := u.notices ++ [n] } := by
  simp [Eu.join, h]

/-- The queue never grows past its depth (R15, R177). -/
theorem Eu.join_length (u : Eu) (depth : Nat) (n : Notice) (h : u.notices.length ≤ depth) :
    (u.join depth n).notices.length ≤ depth := by
  unfold Eu.join
  split
  · simp
    omega
  · simpa using h

/-- The notices queued before are kept, in their order (R178). -/
theorem Eu.join_prefix (u : Eu) (depth : Nat) (n : Notice) : u.notices <+: (u.join depth n).notices := by
  unfold Eu.join
  split
  · exact List.prefix_append _ _
  · simp

theorem Eu.join_dropped_le (u : Eu) (depth : Nat) (n : Notice) (h : u.dropped ≤ 255) :
    (u.join depth n).dropped ≤ 255 := by
  unfold Eu.join
  split
  · exact h
  · exact u.drop_dropped_le

/-- A place that is ready holds a notice that none of those before it holds back. -/
theorem readyPlaces_free (before l : List Posted) :
    ∀ i ∈ readyPlaces before l, ∃ p z q, l = p ++ z :: q ∧ i = before.length + p.length ∧
      (before ++ p).any z.waitsFor = false := by
  induction l generalizing before with
  | nil => simp [readyPlaces]
  | cons x xs ih =>
    intro i hi
    have later : i ∈ readyPlaces (before ++ [x]) xs → ∃ p z q, x :: xs = p ++ z :: q ∧
        i = before.length + p.length ∧ (before ++ p).any z.waitsFor = false := by
      intro hj
      obtain ⟨p, z, q, h1, h2, h3⟩ := ih _ i hj
      exact ⟨x :: p, z, q, by simp [h1], by simp at h2 ⊢; omega, by simpa using h3⟩
    rw [readyPlaces] at hi
    split at hi
    · exact later hi
    · next hn =>
      rcases List.mem_cons.1 hi with rfl | hi
      · exact ⟨[], x, xs, rfl, rfl, by simpa using hn⟩
      · exact later hi

/-- The first notice of the outbox is never held back, so a place is ready exactly while the outbox holds one. -/
theorem readyPlaces_eq_nil (l : List Posted) : readyPlaces [] l = [] ↔ l = [] := by
  cases l with
  | nil => simp [readyPlaces]
  | cons x xs => simp [readyPlaces]

/-- The place a step of the drain takes is one of those that are ready. -/
theorem getD_mem_places (i : Nat) (is : List Nat) (n : Nat) : (i :: is).getD (n % (i :: is).length) i ∈ i :: is := by
  have h : n % (i :: is).length < (i :: is).length := Nat.mod_lt _ (by simp)
  rw [List.getD_eq_getElem _ _ h]
  exact List.getElem_mem h

/-- One drain step takes a notice from a place that is ready, whichever that is. -/
theorem Eu.drain_succ (k depth : Nat) (u : Eu) (free : Nat) (h : u.outbox ≠ []) :
    ∃ i ∈ readyPlaces [] u.outbox, ∃ free',
      Eu.drain (k + 1) depth u free = Eu.drain k depth (u.release depth i) free' := by
  have hp : readyPlaces [] u.outbox ≠ [] := fun h' => h ((readyPlaces_eq_nil _).1 h')
  rw [Eu.drain]
  split
  · next h' => exact absurd h' hp
  · next i h' => exact ⟨i, by simp [h'], free, rfl⟩
  · next i j rest h' => exact ⟨_, h' ▸ getD_mem_places i (j :: rest) _, free + 1, rfl⟩

/-- One drain step takes out a notice that none before it holds back, and lets it join. -/
theorem Eu.drain_takes (k depth : Nat) (u : Eu) (free : Nat) (h : u.outbox ≠ []) :
    ∃ p z q free', u.outbox = p ++ z :: q ∧ p.any z.waitsFor = false ∧
      Eu.drain (k + 1) depth u free = Eu.drain k depth (({ u with outbox := p ++ q } : Eu).join depth z.notice) free' := by
  obtain ⟨i, hp, free', h1⟩ := Eu.drain_succ k depth u free h
  obtain ⟨p, z, q, h2, h3, h4⟩ := readyPlaces_free [] u.outbox i hp
  refine ⟨p, z, q, free', h2, by simpa using h4, ?_⟩
  have h5 : i = p.length := by simpa using h3
  have h6 : (p ++ z :: q).eraseIdx p.length = p ++ q := by
    rw [List.eraseIdx_append_of_length_le (Nat.le_refl _)]
    simp
  rw [h1]
  simp [Eu.release, h5, h2, h6]

theorem Eu.drain_nil (k depth : Nat) (u : Eu) (free : Nat) (h : u.outbox = []) :
    Eu.drain k depth u free = (u, free) := by
  cases k with
  | zero => rfl
  | succ k => simp [Eu.drain, h, readyPlaces]

/-- The drain keeps masks and senses, empties the outbox, keeps the queue within its depth and what it held, and
keeps the dropped count within 255 (R177, R178). -/
theorem Eu.drain_all (depth : Nat) :
    ∀ (k : Nat) (u : Eu) (free : Nat), u.outbox.length ≤ k →
      (Eu.drain k depth u free).1.outbox = [] ∧ (Eu.drain k depth u free).1.unmasked = u.unmasked ∧
        (Eu.drain k depth u free).1.senses = u.senses ∧ (Eu.drain k depth u free).1.inhibitSense = u.inhibitSense ∧
        u.notices <+: (Eu.drain k depth u free).1.notices ∧
        (u.notices.length ≤ depth → (Eu.drain k depth u free).1.notices.length ≤ depth) ∧
        (u.dropped ≤ 255 → (Eu.drain k depth u free).1.dropped ≤ 255) := by
  intro k
  induction k with
  | zero =>
    intro u free h
    have : u.outbox = [] := List.length_eq_zero_iff.1 (by omega)
    simp [Eu.drain, this]
  | succ k ih =>
    intro u free h
    by_cases he : u.outbox = []
    · rw [Eu.drain_nil _ _ _ _ he]
      simp [he]
    · obtain ⟨a, ⟨p, ps, n⟩, c, free', ho, -, h1⟩ := Eu.drain_takes k depth u free he
      have h2 : u.outbox.Perm (⟨p, ps, n⟩ :: (a ++ c)) := ho ▸ List.perm_middle
      have hl : ((({ u with outbox := a ++ c } : Eu).join depth n)).outbox.length ≤ k := by
        have := h2.length_eq
        simp at this ⊢
        omega
      have hu := ih _ free' hl
      rw [h1]
      refine ⟨hu.1, ?_, ?_, ?_, ?_, ?_, ?_⟩
      · simpa using hu.2.1
      · simpa using hu.2.2.1
      · simpa using hu.2.2.2.1
      · exact (Eu.join_prefix { u with outbox := a ++ c } depth n).trans hu.2.2.2.2.1
      · intro hd
        exact hu.2.2.2.2.2.1 (Eu.join_length _ _ _ hd)
      · intro hd
        exact hu.2.2.2.2.2.2 (Eu.join_dropped_le _ _ _ hd)

/-- With room for every notice of the step, all of them join, in some order, and nothing else changes (R177). -/
theorem Eu.drain_room (depth : Nat) :
    ∀ (k : Nat) (u : Eu) (free : Nat), u.outbox.length ≤ k → u.notices.length + u.outbox.length ≤ depth →
      ∃ l, l.Perm (u.outbox.map Posted.notice) ∧
        (Eu.drain k depth u free).1 = { u with notices := u.notices ++ l, outbox := [] } := by
  intro k
  induction k with
  | zero =>
    intro u free h _
    have : u.outbox = [] := List.length_eq_zero_iff.1 (by omega)
    exact ⟨[], by simp [this], by simp [Eu.drain, this.symm]⟩
  | succ k ih =>
    intro u free h hr
    by_cases he : u.outbox = []
    · exact ⟨[], by simp [he], by rw [Eu.drain_nil _ _ _ _ he]; simp [he.symm]⟩
    · obtain ⟨a, ⟨p, ps, n⟩, c, free', ho, -, h1⟩ := Eu.drain_takes k depth u free he
      have h2 : u.outbox.Perm (⟨p, ps, n⟩ :: (a ++ c)) := ho ▸ List.perm_middle
      have hlen : u.outbox.length = (a ++ c).length + 1 := by simpa using h2.length_eq
      have hj : ({ u with outbox := a ++ c } : Eu).join depth n =
          { u with outbox := a ++ c, notices := u.notices ++ [n] } :=
        Eu.join_room _ _ _ (by simp; omega)
      obtain ⟨l, hl, hd⟩ := ih ({ u with outbox := a ++ c, notices := u.notices ++ [n] } : Eu) free'
        (by simp at hlen ⊢; omega) (by simp at hlen ⊢; omega)
      refine ⟨n :: l, ?_, ?_⟩
      · exact (List.Perm.cons n hl).trans ((h2.map Posted.notice).symm)
      · rw [h1, hj, hd]
        simp

/-- With room, a notice held back by one ahead of it in the outbox joins after that one, whatever the free values
(R177). -/
theorem Eu.drain_order (depth : Nat) (x y : Posted) (w : y.waitsFor x = true) :
    ∀ (k : Nat) (u : Eu) (free : Nat) (a b c : List Posted), u.outbox.length ≤ k →
      u.notices.length + u.outbox.length ≤ depth → u.outbox = a ++ x :: (b ++ y :: c) →
      ∃ p q r, (Eu.drain k depth u free).1.notices = u.notices ++ (p ++ x.notice :: (q ++ y.notice :: r)) := by
  intro k
  induction k with
  | zero =>
    intro u free a b c h _ ho
    simp [ho] at h
  | succ k ih =>
    intro u free a b c h hr ho
    obtain ⟨p, z, q, free', h1, h2, h3⟩ := Eu.drain_takes k depth u free (by simp [ho])
    have hlen : u.outbox.length = (p ++ q).length + 1 := by simp [h1]; omega
    have hj : ({ u with outbox := p ++ q } : Eu).join depth z.notice =
        { u with outbox := p ++ q, notices := u.notices ++ [z.notice] } := Eu.join_room _ _ _ (by simp; omega)
    rw [h3, hj]
    -- the pair stands on in what is left
    have rest : ∀ a' b' c', p ++ q = a' ++ x :: (b' ++ y :: c') →
        ∃ m n r, (Eu.drain k depth { u with outbox := p ++ q, notices := u.notices ++ [z.notice] } free').1.notices =
          u.notices ++ (m ++ x.notice :: (n ++ y.notice :: r)) := by
      intro a' b' c' hpq
      obtain ⟨m, n, r, hm⟩ := ih { u with outbox := p ++ q, notices := u.notices ++ [z.notice] } free' a' b' c'
        (by simp at hlen ⊢; omega) (by simp at hlen ⊢; omega) hpq
      exact ⟨z.notice :: m, n, r, by rw [hm]; simp⟩
    rw [h1] at ho
    rcases List.append_eq_append_iff.1 ho with ⟨d, hd, hd'⟩ | ⟨d, hd, hd'⟩
    · -- the notice taken stands ahead of x, or is x
      cases d with
      | nil =>
        obtain ⟨rfl, rfl⟩ : z = x ∧ q = b ++ y :: c := by simpa using hd'
        obtain ⟨l, hl, he⟩ := Eu.drain_room depth k
          { u with outbox := p ++ (b ++ y :: c), notices := u.notices ++ [z.notice] } free'
          (by simp at hlen ⊢; omega) (by simp at hlen ⊢; omega)
        have hy : y.notice ∈ l := hl.mem_iff.2 (by simp)
        obtain ⟨m, n, rfl⟩ := List.append_of_mem hy
        exact ⟨[], m, n, by rw [he]; simp⟩
      | cons e d =>
        obtain ⟨rfl, rfl⟩ : z = e ∧ q = d ++ x :: (b ++ y :: c) := by simpa using hd'
        exact rest (p ++ d) b c (by simp)
    · cases d with
      | nil =>
        obtain ⟨rfl, rfl⟩ : x = z ∧ b ++ y :: c = q := by simpa using hd'
        obtain ⟨l, hl, he⟩ := Eu.drain_room depth k
          { u with outbox := p ++ (b ++ y :: c), notices := u.notices ++ [x.notice] } free'
          (by simp at hlen ⊢; omega) (by simp at hlen ⊢; omega)
        have hy : y.notice ∈ l := hl.mem_iff.2 (by simp)
        obtain ⟨m, n, rfl⟩ := List.append_of_mem hy
        exact ⟨[], m, n, by rw [he]; simp⟩
      | cons e d =>
        obtain ⟨rfl, he⟩ : x = e ∧ b ++ y :: c = d ++ z :: q := by simpa using hd'
        rcases List.append_eq_append_iff.1 he with ⟨g, hg, hg'⟩ | ⟨g, hg, hg'⟩
        · cases g with
          | nil =>
            obtain ⟨rfl, rfl⟩ : y = z ∧ c = q := by simpa using hg'
            simp [hd, w] at h2
          | cons f g =>
            obtain ⟨rfl, rfl⟩ : y = f ∧ c = g ++ z :: q := by simpa using hg'
            exact rest a b (g ++ q) (by simp [hd, hg])
        · cases g with
          | nil =>
            obtain ⟨rfl, rfl⟩ : z = y ∧ q = c := by simpa using hg'
            simp [hd, w] at h2
          | cons f g =>
            obtain ⟨rfl, rfl⟩ : z = f ∧ q = g ++ y :: c := by simpa using hg'
            exact rest a (d ++ g) c (by simp [hd])

/-- The end of a step changes the Event Unit and the count of free values alone. -/
@[simp] theorem finish_frame (s : State) :
    (finish s).mc = s.mc ∧ (finish s).pt = s.pt ∧ (finish s).mon = s.mon ∧ (finish s).ldu = s.ldu ∧
      (finish s).ct = s.ct ∧ (finish s).tcu = s.tcu ∧ (finish s).wsg = s.wsg ∧ (finish s).wgc = s.wgc ∧
      (finish s).pu = s.pu ∧ (finish s).cl = s.cl ∧ (finish s).cs = s.cs ∧ (finish s).lines = s.lines ∧
      (finish s).pending = s.pending :=
  ⟨rfl, rfl, rfl, rfl, rfl, rfl, rfl, rfl, rfl, rfl, rfl, rfl, rfl⟩

/-- The end of a step that generated nothing changes nothing. -/
theorem finish_quiet (s : State) (h : s.eu.outbox = []) : finish s = s := by
  unfold finish
  rw [Eu.drain_nil _ _ _ _ h]
  rfl

/-- What the end of a step does to the Event Unit. -/
theorem finish_eu (s : State) :
    (finish s).eu.outbox = [] ∧ (finish s).eu.unmasked = s.eu.unmasked ∧ (finish s).eu.senses = s.eu.senses ∧
      (finish s).eu.inhibitSense = s.eu.inhibitSense ∧ s.eu.notices <+: (finish s).eu.notices ∧
      (s.eu.notices.length ≤ s.mc.noticeDepth → (finish s).eu.notices.length ≤ s.mc.noticeDepth) ∧
      (s.eu.dropped ≤ 255 → (finish s).eu.dropped ≤ 255) :=
  Eu.drain_all s.mc.noticeDepth s.eu.outbox.length s.eu s.free (Nat.le_refl _)

/-- With room, every notice of the step joins the queue (R177). -/
theorem finish_room (s : State) (h : s.eu.notices.length + s.eu.outbox.length ≤ s.mc.noticeDepth) :
    ∃ l, l.Perm (s.eu.outbox.map Posted.notice) ∧
      (finish s).eu = { s.eu with notices := s.eu.notices ++ l, outbox := [] } :=
  Eu.drain_room s.mc.noticeDepth s.eu.outbox.length s.eu s.free (Nat.le_refl _) h

/-- With room, a notice held back by one ahead of it in the outbox joins the queue after that one (R177). -/
theorem finish_order (s : State) (x y : Posted) (a b c : List Posted) (w : y.waitsFor x = true)
    (h : s.eu.notices.length + s.eu.outbox.length ≤ s.mc.noticeDepth) (ho : s.eu.outbox = a ++ x :: (b ++ y :: c)) :
    ∃ p q r, (finish s).eu.notices = s.eu.notices ++ (p ++ x.notice :: (q ++ y.notice :: r)) :=
  Eu.drain_order s.mc.noticeDepth x y w s.eu.outbox.length s.eu s.free a b c (Nat.le_refl _) h ho

/-- A generated notice waits in the outbox, and nothing else changes. -/
theorem post_eq (p : Poster) (n : Notice) (s : State) :
    post p n s = s.setEu { s.eu with outbox := s.eu.outbox ++ [{ poster := p, after := [], notice := n }] } := rfl

/-- The order of a step's notices is a matter of the outbox alone. -/
@[simp] theorem Eu.hold_frame (u : Eu) (n : Nat) (ps : List Poster) :
    (u.hold n ps).latches = u.latches ∧ (u.hold n ps).unmasked = u.unmasked ∧ (u.hold n ps).senses = u.senses ∧
      (u.hold n ps).inhibitSense = u.inhibitSense ∧ (u.hold n ps).notices = u.notices ∧
      (u.hold n ps).dropped = u.dropped ∧ (u.hold n ps).outbox.map Posted.notice = u.outbox.map Posted.notice := by
  refine ⟨rfl, rfl, rfl, rfl, rfl, rfl, ?_⟩
  have h : (Posted.notice ∘ fun x : Posted => { x with after := ps ++ x.after }) = Posted.notice := rfl
  simp only [Eu.hold, List.map_append, List.map_map, h]
  rw [← List.map_append, List.take_append_drop]

/-- Nothing is generated, so nothing is held back. -/
theorem Eu.hold_length (u : Eu) (ps : List Poster) : u.hold u.outbox.length ps = u := by
  simp [Eu.hold]

/-- A handling that follows others does what it does, and its notices wait for theirs. -/
theorem following_eq (ps : List Poster) (f : State → State) (s : State) :
    following ps f s = (f s).setEu ((f s).eu.hold s.eu.outbox.length ps) := rfl

/-- A handling that generates nothing follows others without a trace. -/
theorem following_quiet (ps : List Poster) (f : State → State) (s : State) (h : (f s).eu.outbox = s.eu.outbox) :
    following ps f s = f s := by
  rw [following_eq, ← h, Eu.hold_length]
  rfl

/-- A handling that changes nothing changes nothing where it follows others. -/
theorem following_self (ps : List Poster) (f : State → State) (s : State) (h : f s = s) : following ps f s = s := by
  rw [following_quiet ps f s (by rw [h]), h]

/-- Following others changes the Event Unit alone. -/
@[simp] theorem following_frame (ps : List Poster) (f : State → State) (s : State) :
    (following ps f s).mc = (f s).mc ∧ (following ps f s).pt = (f s).pt ∧ (following ps f s).mon = (f s).mon ∧
      (following ps f s).ldu = (f s).ldu ∧ (following ps f s).ct = (f s).ct ∧
      (following ps f s).tcu = (f s).tcu ∧ (following ps f s).wsg = (f s).wsg ∧
      (following ps f s).wgc = (f s).wgc ∧ (following ps f s).pu = (f s).pu ∧ (following ps f s).cl = (f s).cl ∧
      (following ps f s).cs = (f s).cs ∧ (following ps f s).lines = (f s).lines ∧
      (following ps f s).free = (f s).free ∧ (following ps f s).pending = (f s).pending :=
  ⟨rfl, rfl, rfl, rfl, rfl, rfl, rfl, rfl, rfl, rfl, rfl, rfl, rfl, rfl⟩

/-- A trigger changes the Event Unit alone. -/
theorem trigger_eq (e : Event) (s : State) : trigger e s = s.setEu (s.eu.trigger e) := rfl

end Sys2Proof.Machine
end

