-- ==== Sys2Proof/Laws/Frames.lean ====
section
/-! SUPPORT. What each shared operation leaves as it was: one lemma for each operation, naming every block it cannot change. -/

namespace Sys2Proof.Machine

/-- A notice that waits changes the Event Unit alone. -/
@[simp] theorem post_frame (p : Poster) (n : Notice) (s : State) :
    (post p n s).mc = s.mc ∧ (post p n s).pt = s.pt ∧ (post p n s).mon = s.mon ∧ (post p n s).ldu = s.ldu ∧
      (post p n s).ct = s.ct ∧ (post p n s).tcu = s.tcu ∧ (post p n s).wsg = s.wsg ∧ (post p n s).wgc = s.wgc ∧
      (post p n s).pu = s.pu ∧ (post p n s).cl = s.cl ∧ (post p n s).cs = s.cs ∧ (post p n s).lines = s.lines ∧
      (post p n s).free = s.free ∧ (post p n s).pending = s.pending :=
  ⟨rfl, rfl, rfl, rfl, rfl, rfl, rfl, rfl, rfl, rfl, rfl, rfl, rfl, rfl⟩

/-- A trigger changes the Event Unit alone. -/
@[simp] theorem trigger_state_frame (e : Event) (s : State) :
    (trigger e s).mc = s.mc ∧ (trigger e s).pt = s.pt ∧ (trigger e s).mon = s.mon ∧ (trigger e s).ldu = s.ldu ∧
      (trigger e s).ct = s.ct ∧ (trigger e s).tcu = s.tcu ∧ (trigger e s).wsg = s.wsg ∧
      (trigger e s).wgc = s.wgc ∧ (trigger e s).pu = s.pu ∧ (trigger e s).cl = s.cl ∧ (trigger e s).cs = s.cs ∧
      (trigger e s).lines = s.lines ∧ (trigger e s).free = s.free ∧ (trigger e s).pending = s.pending :=
  ⟨rfl, rfl, rfl, rfl, rfl, rfl, rfl, rfl, rfl, rfl, rfl, rfl, rfl, rfl⟩

/-- Drawing a free value counts it and changes nothing else. -/
theorem draw_eq (s : State) : s.draw.2 = s.setFree (s.free + 1) := rfl

@[simp] theorem recompute_frame (s : State) :
    (recompute s).mc = s.mc ∧ (recompute s).pt = s.pt ∧ (recompute s).mon = s.mon ∧ (recompute s).ct = s.ct ∧
      (recompute s).tcu = s.tcu ∧ (recompute s).wsg = s.wsg ∧ (recompute s).wgc = s.wgc ∧
      (recompute s).pu = s.pu ∧ (recompute s).cl = s.cl ∧ (recompute s).cs = s.cs ∧
      (recompute s).lines = s.lines ∧ (recompute s).free = s.free ∧ (recompute s).pending = s.pending :=
  ⟨rfl, rfl, rfl, rfl, rfl, rfl, rfl, rfl, rfl, rfl, rfl, rfl, rfl⟩

@[simp] theorem handPowers_frame (w : PowerSet) (s : State) :
    (handPowers w s).mc = s.mc ∧ (handPowers w s).pt = s.pt ∧ (handPowers w s).mon = s.mon ∧
      (handPowers w s).ct = s.ct ∧ (handPowers w s).tcu = s.tcu ∧ (handPowers w s).wsg = s.wsg ∧
      (handPowers w s).wgc = s.wgc ∧ (handPowers w s).pu = s.pu ∧ (handPowers w s).cl = s.cl ∧
      (handPowers w s).cs = s.cs ∧ (handPowers w s).lines = s.lines ∧ (handPowers w s).free = s.free ∧
      (handPowers w s).pending = s.pending :=
  ⟨rfl, rfl, rfl, rfl, rfl, rfl, rfl, rfl, rfl, rfl, rfl, rfl, rfl⟩

@[simp] theorem apcUpdate_frame (v : Nat) (s : State) :
    (apcUpdate v s).mc = s.mc ∧ (apcUpdate v s).pt = s.pt ∧ (apcUpdate v s).mon = s.mon ∧
      (apcUpdate v s).ct = s.ct ∧ (apcUpdate v s).tcu = s.tcu ∧ (apcUpdate v s).wsg = s.wsg ∧
      (apcUpdate v s).wgc = s.wgc ∧ (apcUpdate v s).pu = s.pu ∧ (apcUpdate v s).cl = s.cl ∧
      (apcUpdate v s).cs = s.cs ∧ (apcUpdate v s).lines = s.lines ∧ (apcUpdate v s).free = s.free ∧
      (apcUpdate v s).pending = s.pending := by
  unfold apcUpdate
  (repeat' split) <;> simp

@[simp] theorem bankChange_frame (s : State) :
    (bankChange s).mc = s.mc ∧ (bankChange s).pt = s.pt ∧ (bankChange s).mon = s.mon ∧
      (bankChange s).ct = s.ct ∧ (bankChange s).tcu = s.tcu ∧ (bankChange s).wsg = s.wsg ∧
      (bankChange s).wgc = s.wgc ∧ (bankChange s).pu = s.pu ∧ (bankChange s).cl = s.cl ∧
      (bankChange s).cs = s.cs ∧ (bankChange s).lines = s.lines ∧ (bankChange s).free = s.free ∧
      (bankChange s).pending = s.pending := by
  unfold bankChange
  (repeat' split) <;> simp

@[simp] theorem lduModeReaction_frame (s : State) :
    (lduModeReaction s).mc = s.mc ∧ (lduModeReaction s).pt = s.pt ∧ (lduModeReaction s).mon = s.mon ∧
      (lduModeReaction s).ct = s.ct ∧ (lduModeReaction s).tcu = s.tcu ∧ (lduModeReaction s).wsg = s.wsg ∧
      (lduModeReaction s).wgc = s.wgc ∧ (lduModeReaction s).pu = s.pu ∧ (lduModeReaction s).cl = s.cl ∧
      (lduModeReaction s).cs = s.cs ∧ (lduModeReaction s).lines = s.lines ∧ (lduModeReaction s).free = s.free ∧
      (lduModeReaction s).pending = s.pending := by
  unfold lduModeReaction
  (repeat' split) <;> simp

@[simp] theorem setStream_frame (w : Wsg) (s : State) :
    (setStream w s).mc = s.mc ∧ (setStream w s).pt = s.pt ∧ (setStream w s).mon = s.mon ∧
      (setStream w s).ct = s.ct ∧ (setStream w s).tcu = s.tcu ∧ (setStream w s).wgc = s.wgc ∧
      (setStream w s).pu = s.pu ∧ (setStream w s).eu = s.eu ∧ (setStream w s).cl = s.cl ∧
      (setStream w s).cs = s.cs ∧ (setStream w s).lines = s.lines ∧ (setStream w s).free = s.free ∧
      (setStream w s).pending = s.pending :=
  ⟨rfl, rfl, rfl, rfl, rfl, rfl, rfl, rfl, rfl, rfl, rfl, rfl, rfl⟩

@[simp] theorem openGate_frame (u : GateUser) (s : State) :
    (openGate u s).mc = s.mc ∧ (openGate u s).pt = s.pt ∧ (openGate u s).mon = s.mon ∧
      (openGate u s).ct = s.ct ∧ (openGate u s).tcu = s.tcu ∧ (openGate u s).pu = s.pu ∧
      (openGate u s).eu = s.eu ∧ (openGate u s).cl = s.cl ∧ (openGate u s).cs = s.cs ∧
      (openGate u s).lines = s.lines ∧ (openGate u s).free = s.free ∧ (openGate u s).pending = s.pending :=
  ⟨rfl, rfl, rfl, rfl, rfl, rfl, rfl, rfl, rfl, rfl, rfl, rfl⟩

@[simp] theorem shutGate_frame (w : Option GateUser) (s : State) :
    (shutGate w s).mc = s.mc ∧ (shutGate w s).pt = s.pt ∧ (shutGate w s).mon = s.mon ∧
      (shutGate w s).ct = s.ct ∧ (shutGate w s).tcu = s.tcu ∧ (shutGate w s).pu = s.pu ∧
      (shutGate w s).eu = s.eu ∧ (shutGate w s).cl = s.cl ∧ (shutGate w s).cs = s.cs ∧
      (shutGate w s).lines = s.lines ∧ (shutGate w s).free = s.free ∧ (shutGate w s).pending = s.pending :=
  ⟨rfl, rfl, rfl, rfl, rfl, rfl, rfl, rfl, rfl, rfl, rfl, rfl⟩

@[simp] theorem judgeStale_frame (s : State) :
    (judgeStale s).mc = s.mc ∧ (judgeStale s).pt = s.pt ∧ (judgeStale s).mon = s.mon ∧
      (judgeStale s).ldu = s.ldu ∧ (judgeStale s).tcu = s.tcu ∧ (judgeStale s).wsg = s.wsg ∧
      (judgeStale s).wgc = s.wgc ∧ (judgeStale s).pu = s.pu ∧ (judgeStale s).cl = s.cl ∧
      (judgeStale s).cs = s.cs ∧ (judgeStale s).lines = s.lines ∧ (judgeStale s).free = s.free ∧
      (judgeStale s).pending = s.pending :=
  ⟨rfl, rfl, rfl, rfl, rfl, rfl, rfl, rfl, rfl, rfl, rfl, rfl, rfl⟩

@[simp] theorem suspendHead_frame (r : SegReason) (s : State) :
    (suspendHead r s).mc = s.mc ∧ (suspendHead r s).pt = s.pt ∧ (suspendHead r s).mon = s.mon ∧
      (suspendHead r s).ldu = s.ldu ∧ (suspendHead r s).ct = s.ct ∧ (suspendHead r s).tcu = s.tcu ∧
      (suspendHead r s).wsg = s.wsg ∧ (suspendHead r s).pu = s.pu ∧ (suspendHead r s).cl = s.cl ∧
      (suspendHead r s).cs = s.cs ∧ (suspendHead r s).lines = s.lines ∧ (suspendHead r s).free = s.free ∧
      (suspendHead r s).pending = s.pending := by
  unfold suspendHead
  (repeat' split) <;> simp

@[simp] theorem haltHead_frame (r : SegReason) (d : Option Nat) (s : State) :
    (haltHead r d s).mc = s.mc ∧ (haltHead r d s).pt = s.pt ∧ (haltHead r d s).mon = s.mon ∧
      (haltHead r d s).ldu = s.ldu ∧ (haltHead r d s).ct = s.ct ∧ (haltHead r d s).tcu = s.tcu ∧
      (haltHead r d s).wsg = s.wsg ∧ (haltHead r d s).pu = s.pu ∧ (haltHead r d s).cl = s.cl ∧
      (haltHead r d s).cs = s.cs ∧ (haltHead r d s).lines = s.lines ∧ (haltHead r d s).free = s.free ∧
      (haltHead r d s).pending = s.pending := by
  unfold haltHead
  (repeat' split) <;> simp

@[simp] theorem dropHead_frame (s : State) :
    (dropHead s).mc = s.mc ∧ (dropHead s).pt = s.pt ∧ (dropHead s).mon = s.mon ∧ (dropHead s).ldu = s.ldu ∧
      (dropHead s).ct = s.ct ∧ (dropHead s).tcu = s.tcu ∧ (dropHead s).wsg = s.wsg ∧ (dropHead s).pu = s.pu ∧
      (dropHead s).eu = s.eu ∧ (dropHead s).cl = s.cl ∧ (dropHead s).cs = s.cs ∧ (dropHead s).lines = s.lines ∧
      (dropHead s).free = s.free ∧ (dropHead s).pending = s.pending :=
  ⟨rfl, rfl, rfl, rfl, rfl, rfl, rfl, rfl, rfl, rfl, rfl, rfl, rfl, rfl⟩

@[simp] theorem clearReturns_frame (s : State) :
    (clearReturns s).mc = s.mc ∧ (clearReturns s).pt = s.pt ∧ (clearReturns s).mon = s.mon ∧
      (clearReturns s).ldu = s.ldu ∧ (clearReturns s).ct = s.ct ∧ (clearReturns s).tcu = s.tcu ∧
      (clearReturns s).wsg = s.wsg ∧ (clearReturns s).pu = s.pu ∧ (clearReturns s).eu = s.eu ∧
      (clearReturns s).cl = s.cl ∧ (clearReturns s).cs = s.cs ∧ (clearReturns s).lines = s.lines ∧
      (clearReturns s).free = s.free ∧ (clearReturns s).pending = s.pending :=
  ⟨rfl, rfl, rfl, rfl, rfl, rfl, rfl, rfl, rfl, rfl, rfl, rfl, rfl, rfl⟩

@[simp] theorem haltAtOnce_frame (r : SegReason) (s : State) :
    (haltAtOnce r s).mc = s.mc ∧ (haltAtOnce r s).pt = s.pt ∧ (haltAtOnce r s).mon = s.mon ∧
      (haltAtOnce r s).ct = s.ct ∧ (haltAtOnce r s).tcu = s.tcu ∧ (haltAtOnce r s).pu = s.pu ∧
      (haltAtOnce r s).cl = s.cl ∧ (haltAtOnce r s).cs = s.cs ∧ (haltAtOnce r s).lines = s.lines ∧
      (haltAtOnce r s).free = s.free ∧ (haltAtOnce r s).pending = s.pending := by
  unfold haltAtOnce
  (repeat' split) <;> simp

@[simp] theorem proceed_frame (k : Nat) (s : State) :
    (proceed k s).mc = s.mc ∧ (proceed k s).pt = s.pt ∧ (proceed k s).mon = s.mon ∧ (proceed k s).ct = s.ct ∧
      (proceed k s).tcu = s.tcu ∧ (proceed k s).pu = s.pu ∧ (proceed k s).cl = s.cl ∧ (proceed k s).cs = s.cs ∧
      (proceed k s).lines = s.lines ∧ (proceed k s).free = s.free ∧ (proceed k s).pending = s.pending := by
  induction k generalizing s with
  | zero => simp [proceed]
  | succ k ih =>
    unfold proceed
    repeat' split
    all_goals simp [ih, post_eq]

@[simp] theorem newHead_frame (s : State) :
    (newHead s).mc = s.mc ∧ (newHead s).pt = s.pt ∧ (newHead s).mon = s.mon ∧ (newHead s).ct = s.ct ∧
      (newHead s).tcu = s.tcu ∧ (newHead s).pu = s.pu ∧ (newHead s).cl = s.cl ∧ (newHead s).cs = s.cs ∧
      (newHead s).lines = s.lines ∧ (newHead s).free = s.free ∧ (newHead s).pending = s.pending := by
  simp [newHead]

@[simp] theorem waitOn_frame (s : State) :
    (waitOn s).mc = s.mc ∧ (waitOn s).pt = s.pt ∧ (waitOn s).mon = s.mon ∧ (waitOn s).ct = s.ct ∧
      (waitOn s).tcu = s.tcu ∧ (waitOn s).pu = s.pu ∧ (waitOn s).cl = s.cl ∧ (waitOn s).cs = s.cs ∧
      (waitOn s).lines = s.lines ∧ (waitOn s).free = s.free ∧ (waitOn s).pending = s.pending := by
  unfold waitOn
  dsimp only
  (repeat' split) <;> simp

@[simp] theorem openSegment_frame (g : Segment) (s : State) :
    (openSegment g s).mc = s.mc ∧ (openSegment g s).pt = s.pt ∧ (openSegment g s).mon = s.mon ∧
      (openSegment g s).ct = s.ct ∧ (openSegment g s).tcu = s.tcu ∧ (openSegment g s).pu = s.pu ∧
      (openSegment g s).cl = s.cl ∧ (openSegment g s).cs = s.cs ∧ (openSegment g s).lines = s.lines ∧
      (openSegment g s).free = s.free ∧ (openSegment g s).pending = s.pending := by
  unfold openSegment
  (repeat' split) <;> simp

@[simp] theorem rpcUpdate_frame (s : State) :
    (rpcUpdate s).mc = s.mc ∧ (rpcUpdate s).pt = s.pt ∧ (rpcUpdate s).mon = s.mon ∧ (rpcUpdate s).ldu = s.ldu ∧
      (rpcUpdate s).ct = s.ct ∧ (rpcUpdate s).tcu = s.tcu ∧ (rpcUpdate s).wsg = s.wsg ∧ (rpcUpdate s).pu = s.pu ∧
      (rpcUpdate s).cl = s.cl ∧ (rpcUpdate s).cs = s.cs ∧ (rpcUpdate s).lines = s.lines ∧
      (rpcUpdate s).free = s.free ∧ (rpcUpdate s).pending = s.pending := by
  unfold rpcUpdate
  (repeat' split) <;> simp

@[simp] theorem completeHead_frame (s : State) :
    (completeHead s).mc = s.mc ∧ (completeHead s).pt = s.pt ∧ (completeHead s).mon = s.mon ∧
      (completeHead s).ldu = s.ldu ∧ (completeHead s).ct = s.ct ∧ (completeHead s).tcu = s.tcu ∧
      (completeHead s).wsg = s.wsg ∧ (completeHead s).pu = s.pu ∧ (completeHead s).cl = s.cl ∧
      (completeHead s).cs = s.cs ∧ (completeHead s).lines = s.lines ∧ (completeHead s).free = s.free ∧
      (completeHead s).pending = s.pending := by
  unfold completeHead
  (repeat' split) <;> simp

@[simp] theorem continueHead_frame (g : Segment) (s : State) :
    (continueHead g s).mc = s.mc ∧ (continueHead g s).pt = s.pt ∧ (continueHead g s).mon = s.mon ∧
      (continueHead g s).ct = s.ct ∧ (continueHead g s).tcu = s.tcu ∧ (continueHead g s).pu = s.pu ∧
      (continueHead g s).cl = s.cl ∧ (continueHead g s).cs = s.cs ∧ (continueHead g s).lines = s.lines ∧
      (continueHead g s).free = s.free ∧ (continueHead g s).pending = s.pending := by
  unfold continueHead
  (repeat' split) <;> simp

@[simp] theorem afterComplete_frame (f : Surface) (a : Nat) (s : State) :
    (afterComplete f a s).mc = s.mc ∧ (afterComplete f a s).pt = s.pt ∧ (afterComplete f a s).mon = s.mon ∧
      (afterComplete f a s).ct = s.ct ∧ (afterComplete f a s).tcu = s.tcu ∧ (afterComplete f a s).pu = s.pu ∧
      (afterComplete f a s).cl = s.cl ∧ (afterComplete f a s).cs = s.cs ∧ (afterComplete f a s).lines = s.lines ∧
      (afterComplete f a s).free = s.free ∧ (afterComplete f a s).pending = s.pending := by
  unfold afterComplete
  (repeat' split) <;> simp

@[simp] theorem countBlock_frame (s : State) :
    (countBlock s).mc = s.mc ∧ (countBlock s).pt = s.pt ∧ (countBlock s).mon = s.mon ∧
      (countBlock s).ldu = s.ldu ∧ (countBlock s).ct = s.ct ∧ (countBlock s).tcu = s.tcu ∧
      (countBlock s).wsg = s.wsg ∧ (countBlock s).pu = s.pu ∧ (countBlock s).eu = s.eu ∧
      (countBlock s).cl = s.cl ∧ (countBlock s).cs = s.cs ∧ (countBlock s).lines = s.lines ∧
      (countBlock s).free = s.free ∧ (countBlock s).pending = s.pending := by
  unfold countBlock
  (repeat' split) <;> simp

@[simp] theorem afterBlock_frame (f : Surface) (a : Nat) (s : State) :
    (afterBlock f a s).mc = s.mc ∧ (afterBlock f a s).pt = s.pt ∧ (afterBlock f a s).mon = s.mon ∧
      (afterBlock f a s).ct = s.ct ∧ (afterBlock f a s).tcu = s.tcu ∧ (afterBlock f a s).pu = s.pu ∧
      (afterBlock f a s).cl = s.cl ∧ (afterBlock f a s).cs = s.cs ∧ (afterBlock f a s).lines = s.lines ∧
      (afterBlock f a s).free = s.free ∧ (afterBlock f a s).pending = s.pending := by
  unfold afterBlock
  (repeat' split) <;> simp

@[simp] theorem endBlock_frame (f : Surface) (a : Nat) (s : State) :
    (endBlock f a s).mc = s.mc ∧ (endBlock f a s).pt = s.pt ∧ (endBlock f a s).mon = s.mon ∧
      (endBlock f a s).ct = s.ct ∧ (endBlock f a s).tcu = s.tcu ∧ (endBlock f a s).pu = s.pu ∧
      (endBlock f a s).cl = s.cl ∧ (endBlock f a s).cs = s.cs ∧ (endBlock f a s).lines = s.lines ∧
      (endBlock f a s).free = s.free ∧ (endBlock f a s).pending = s.pending := by
  simp [endBlock]

@[simp] theorem wgcBoundary_frame (f : Surface) (a : Nat) (b : BoundaryKind) (s : State) :
    (wgcBoundary f a b s).mc = s.mc ∧ (wgcBoundary f a b s).pt = s.pt ∧ (wgcBoundary f a b s).mon = s.mon ∧
      (wgcBoundary f a b s).ct = s.ct ∧ (wgcBoundary f a b s).tcu = s.tcu ∧ (wgcBoundary f a b s).pu = s.pu ∧
      (wgcBoundary f a b s).cl = s.cl ∧ (wgcBoundary f a b s).cs = s.cs ∧ (wgcBoundary f a b s).lines = s.lines ∧
      (wgcBoundary f a b s).free = s.free ∧ (wgcBoundary f a b s).pending = s.pending := by
  unfold wgcBoundary
  (repeat' split) <;> simp

@[simp] theorem wgcPositionLost_frame (r : PositionReport) (s : State) :
    (wgcPositionLost r s).mc = s.mc ∧ (wgcPositionLost r s).pt = s.pt ∧ (wgcPositionLost r s).mon = s.mon ∧
      (wgcPositionLost r s).ct = s.ct ∧ (wgcPositionLost r s).tcu = s.tcu ∧ (wgcPositionLost r s).pu = s.pu ∧
      (wgcPositionLost r s).cl = s.cl ∧ (wgcPositionLost r s).cs = s.cs ∧ (wgcPositionLost r s).lines = s.lines ∧
      (wgcPositionLost r s).free = s.free ∧ (wgcPositionLost r s).pending = s.pending := by
  unfold wgcPositionLost
  (repeat' split) <;> simp

@[simp] theorem wgcReturn_frame (v : Nat) (s : State) :
    (wgcReturn v s).mc = s.mc ∧ (wgcReturn v s).pt = s.pt ∧ (wgcReturn v s).mon = s.mon ∧
      (wgcReturn v s).ldu = s.ldu ∧ (wgcReturn v s).ct = s.ct ∧ (wgcReturn v s).tcu = s.tcu ∧
      (wgcReturn v s).wsg = s.wsg ∧ (wgcReturn v s).pu = s.pu ∧ (wgcReturn v s).eu = s.eu ∧
      (wgcReturn v s).cl = s.cl ∧ (wgcReturn v s).cs = s.cs ∧ (wgcReturn v s).lines = s.lines ∧
      (wgcReturn v s).free = s.free ∧ (wgcReturn v s).pending = s.pending := by
  unfold wgcReturn
  (repeat' split) <;> simp

@[simp] theorem pauseHead_frame (r : SegReason) (s : State) :
    (pauseHead r s).mc = s.mc ∧ (pauseHead r s).pt = s.pt ∧ (pauseHead r s).mon = s.mon ∧
      (pauseHead r s).ct = s.ct ∧ (pauseHead r s).tcu = s.tcu ∧ (pauseHead r s).pu = s.pu ∧
      (pauseHead r s).cl = s.cl ∧ (pauseHead r s).cs = s.cs ∧ (pauseHead r s).lines = s.lines ∧
      (pauseHead r s).free = s.free ∧ (pauseHead r s).pending = s.pending := by
  unfold pauseHead
  (repeat' split) <;> simp

@[simp] theorem wgcInhibit_frame (s : State) :
    (wgcInhibit s).mc = s.mc ∧ (wgcInhibit s).pt = s.pt ∧ (wgcInhibit s).mon = s.mon ∧
      (wgcInhibit s).ct = s.ct ∧ (wgcInhibit s).tcu = s.tcu ∧ (wgcInhibit s).pu = s.pu ∧
      (wgcInhibit s).cl = s.cl ∧ (wgcInhibit s).cs = s.cs ∧ (wgcInhibit s).lines = s.lines ∧
      (wgcInhibit s).free = s.free ∧ (wgcInhibit s).pending = s.pending := by
  unfold wgcInhibit
  (repeat' split) <;> simp

@[simp] theorem wgcExitPending_frame (s : State) :
    (wgcExitPending s).mc = s.mc ∧ (wgcExitPending s).pt = s.pt ∧ (wgcExitPending s).mon = s.mon ∧
      (wgcExitPending s).ct = s.ct ∧ (wgcExitPending s).tcu = s.tcu ∧ (wgcExitPending s).pu = s.pu ∧
      (wgcExitPending s).cl = s.cl ∧ (wgcExitPending s).cs = s.cs ∧ (wgcExitPending s).lines = s.lines ∧
      (wgcExitPending s).free = s.free ∧ (wgcExitPending s).pending = s.pending := by
  simp [wgcExitPending]

@[simp] theorem wgcExitWithdrawn_frame (s : State) :
    (wgcExitWithdrawn s).mc = s.mc ∧ (wgcExitWithdrawn s).pt = s.pt ∧ (wgcExitWithdrawn s).mon = s.mon ∧
      (wgcExitWithdrawn s).ldu = s.ldu ∧ (wgcExitWithdrawn s).ct = s.ct ∧ (wgcExitWithdrawn s).tcu = s.tcu ∧
      (wgcExitWithdrawn s).wsg = s.wsg ∧ (wgcExitWithdrawn s).pu = s.pu ∧ (wgcExitWithdrawn s).eu = s.eu ∧
      (wgcExitWithdrawn s).cl = s.cl ∧ (wgcExitWithdrawn s).cs = s.cs ∧ (wgcExitWithdrawn s).lines = s.lines ∧
      (wgcExitWithdrawn s).free = s.free ∧ (wgcExitWithdrawn s).pending = s.pending :=
  ⟨rfl, rfl, rfl, rfl, rfl, rfl, rfl, rfl, rfl, rfl, rfl, rfl, rfl, rfl⟩

@[simp] theorem haltForMode_frame (r : SegReason) (s : State) :
    (haltForMode r s).mc = s.mc ∧ (haltForMode r s).pt = s.pt ∧ (haltForMode r s).mon = s.mon ∧
      (haltForMode r s).ct = s.ct ∧ (haltForMode r s).tcu = s.tcu ∧ (haltForMode r s).pu = s.pu ∧
      (haltForMode r s).cl = s.cl ∧ (haltForMode r s).cs = s.cs ∧ (haltForMode r s).lines = s.lines ∧
      (haltForMode r s).free = s.free ∧ (haltForMode r s).pending = s.pending := by
  unfold haltForMode
  (repeat' split) <;> simp

@[simp] theorem flushQueue_frame (s : State) :
    (flushQueue s).mc = s.mc ∧ (flushQueue s).pt = s.pt ∧ (flushQueue s).mon = s.mon ∧
      (flushQueue s).ldu = s.ldu ∧ (flushQueue s).ct = s.ct ∧ (flushQueue s).tcu = s.tcu ∧
      (flushQueue s).wsg = s.wsg ∧ (flushQueue s).pu = s.pu ∧ (flushQueue s).cl = s.cl ∧
      (flushQueue s).cs = s.cs ∧ (flushQueue s).lines = s.lines ∧ (flushQueue s).free = s.free ∧
      (flushQueue s).pending = s.pending := by
  unfold flushQueue
  dsimp only
  (repeat' split) <;> simp

@[simp] theorem clearMarks_frame (s : State) :
    (clearMarks s).mc = s.mc ∧ (clearMarks s).pt = s.pt ∧ (clearMarks s).mon = s.mon ∧
      (clearMarks s).ldu = s.ldu ∧ (clearMarks s).ct = s.ct ∧ (clearMarks s).tcu = s.tcu ∧
      (clearMarks s).wsg = s.wsg ∧ (clearMarks s).pu = s.pu ∧ (clearMarks s).eu = s.eu ∧
      (clearMarks s).cl = s.cl ∧ (clearMarks s).cs = s.cs ∧ (clearMarks s).lines = s.lines ∧
      (clearMarks s).free = s.free ∧ (clearMarks s).pending = s.pending :=
  ⟨rfl, rfl, rfl, rfl, rfl, rfl, rfl, rfl, rfl, rfl, rfl, rfl, rfl, rfl⟩

@[simp] theorem wgcModeReaction_frame (s : State) :
    (wgcModeReaction s).mc = s.mc ∧ (wgcModeReaction s).pt = s.pt ∧ (wgcModeReaction s).mon = s.mon ∧
      (wgcModeReaction s).ct = s.ct ∧ (wgcModeReaction s).tcu = s.tcu ∧ (wgcModeReaction s).pu = s.pu ∧
      (wgcModeReaction s).cl = s.cl ∧ (wgcModeReaction s).cs = s.cs ∧ (wgcModeReaction s).lines = s.lines ∧
      (wgcModeReaction s).free = s.free ∧ (wgcModeReaction s).pending = s.pending := by
  unfold wgcModeReaction
  (repeat' split) <;> simp

@[simp] theorem settleRecord_frame (t : Trial) (p : Option Nat) (s : State) :
    (settleRecord t p s).mc = s.mc ∧ (settleRecord t p s).pt = s.pt ∧ (settleRecord t p s).mon = s.mon ∧
      (settleRecord t p s).ldu = s.ldu ∧ (settleRecord t p s).tcu = s.tcu ∧ (settleRecord t p s).wsg = s.wsg ∧
      (settleRecord t p s).wgc = s.wgc ∧ (settleRecord t p s).pu = s.pu ∧ (settleRecord t p s).eu = s.eu ∧
      (settleRecord t p s).cl = s.cl ∧ (settleRecord t p s).cs = s.cs ∧ (settleRecord t p s).lines = s.lines ∧
      (settleRecord t p s).free = s.free ∧ (settleRecord t p s).pending = s.pending := by
  unfold settleRecord
  (repeat' split) <;> simp

@[simp] theorem endTrial_frame (o : TrialOutcome) (r : Option TrialReason) (p : Option Nat) (s : State) :
    (endTrial o r p s).mc = s.mc ∧ (endTrial o r p s).pt = s.pt ∧ (endTrial o r p s).mon = s.mon ∧
      (endTrial o r p s).pu = s.pu ∧ (endTrial o r p s).cl = s.cl ∧ (endTrial o r p s).cs = s.cs ∧
      (endTrial o r p s).lines = s.lines ∧ (endTrial o r p s).free = s.free ∧
      (endTrial o r p s).pending = s.pending := by
  unfold endTrial
  (repeat' split) <;> simp

@[simp] theorem abortTrial_frame (r : TrialReason) (s : State) :
    (abortTrial r s).mc = s.mc ∧ (abortTrial r s).pt = s.pt ∧ (abortTrial r s).mon = s.mon ∧
      (abortTrial r s).pu = s.pu ∧ (abortTrial r s).cl = s.cl ∧ (abortTrial r s).cs = s.cs ∧
      (abortTrial r s).lines = s.lines ∧ (abortTrial r s).free = s.free ∧ (abortTrial r s).pending = s.pending := by
  simp [abortTrial]

@[simp] theorem tcuPositionLost_frame (r : PositionReport) (s : State) :
    (tcuPositionLost r s).mc = s.mc ∧ (tcuPositionLost r s).pt = s.pt ∧ (tcuPositionLost r s).mon = s.mon ∧
      (tcuPositionLost r s).pu = s.pu ∧ (tcuPositionLost r s).cl = s.cl ∧ (tcuPositionLost r s).cs = s.cs ∧
      (tcuPositionLost r s).lines = s.lines ∧ (tcuPositionLost r s).free = s.free ∧
      (tcuPositionLost r s).pending = s.pending := by
  simp [tcuPositionLost]

@[simp] theorem setTrial_frame (t : Trial) (s : State) :
    (setTrial t s).mc = s.mc ∧ (setTrial t s).pt = s.pt ∧ (setTrial t s).mon = s.mon ∧
      (setTrial t s).ldu = s.ldu ∧ (setTrial t s).ct = s.ct ∧ (setTrial t s).wsg = s.wsg ∧
      (setTrial t s).wgc = s.wgc ∧ (setTrial t s).pu = s.pu ∧ (setTrial t s).eu = s.eu ∧
      (setTrial t s).cl = s.cl ∧ (setTrial t s).cs = s.cs ∧ (setTrial t s).lines = s.lines ∧
      (setTrial t s).free = s.free ∧ (setTrial t s).pending = s.pending :=
  ⟨rfl, rfl, rfl, rfl, rfl, rfl, rfl, rfl, rfl, rfl, rfl, rfl, rfl, rfl⟩

@[simp] theorem setPointer_frame (f : Surface) (n : Nat) (s : State) :
    (setPointer f n s).mc = s.mc ∧ (setPointer f n s).pt = s.pt ∧ (setPointer f n s).mon = s.mon ∧
      (setPointer f n s).ldu = s.ldu ∧ (setPointer f n s).ct = s.ct ∧ (setPointer f n s).wsg = s.wsg ∧
      (setPointer f n s).wgc = s.wgc ∧ (setPointer f n s).pu = s.pu ∧ (setPointer f n s).eu = s.eu ∧
      (setPointer f n s).cl = s.cl ∧ (setPointer f n s).cs = s.cs ∧ (setPointer f n s).lines = s.lines ∧
      (setPointer f n s).free = s.free ∧ (setPointer f n s).pending = s.pending :=
  ⟨rfl, rfl, rfl, rfl, rfl, rfl, rfl, rfl, rfl, rfl, rfl, rfl, rfl, rfl⟩

@[simp] theorem trialWaitOn_frame (t : Trial) (s : State) :
    (trialWaitOn t s).mc = s.mc ∧ (trialWaitOn t s).pt = s.pt ∧ (trialWaitOn t s).mon = s.mon ∧
      (trialWaitOn t s).pu = s.pu ∧ (trialWaitOn t s).cl = s.cl ∧ (trialWaitOn t s).cs = s.cs ∧
      (trialWaitOn t s).lines = s.lines ∧ (trialWaitOn t s).free = s.free ∧ (trialWaitOn t s).pending = s.pending := by
  unfold trialWaitOn
  (repeat' split) <;> simp

@[simp] theorem trialOpen_frame (t : Trial) (s : State) :
    (trialOpen t s).mc = s.mc ∧ (trialOpen t s).pt = s.pt ∧ (trialOpen t s).mon = s.mon ∧
      (trialOpen t s).ct = s.ct ∧ (trialOpen t s).pu = s.pu ∧ (trialOpen t s).cl = s.cl ∧
      (trialOpen t s).cs = s.cs ∧ (trialOpen t s).lines = s.lines ∧ (trialOpen t s).free = s.free ∧
      (trialOpen t s).pending = s.pending := by
  simp [trialOpen]

@[simp] theorem trialNextStep_frame (t : Trial) (s : State) :
    (trialNextStep t s).mc = s.mc ∧ (trialNextStep t s).pt = s.pt ∧ (trialNextStep t s).mon = s.mon ∧
      (trialNextStep t s).ct = s.ct ∧ (trialNextStep t s).wgc = s.wgc ∧ (trialNextStep t s).pu = s.pu ∧
      (trialNextStep t s).cl = s.cl ∧ (trialNextStep t s).cs = s.cs ∧ (trialNextStep t s).lines = s.lines ∧
      (trialNextStep t s).free = s.free ∧ (trialNextStep t s).pending = s.pending := by
  simp [trialNextStep]

@[simp] theorem trialWritten_frame (t : Trial) (s : State) :
    (trialWritten t s).mc = s.mc ∧ (trialWritten t s).pt = s.pt ∧ (trialWritten t s).mon = s.mon ∧
      (trialWritten t s).pu = s.pu ∧ (trialWritten t s).cl = s.cl ∧ (trialWritten t s).cs = s.cs ∧
      (trialWritten t s).lines = s.lines ∧ (trialWritten t s).free = s.free ∧
      (trialWritten t s).pending = s.pending := by
  unfold trialWritten
  (repeat' split) <;> simp

@[simp] theorem trialFit_frame (t : Trial) (s : State) :
    (trialFit t s).mc = s.mc ∧ (trialFit t s).pt = s.pt ∧ (trialFit t s).mon = s.mon ∧
      (trialFit t s).pu = s.pu ∧ (trialFit t s).cl = s.cl ∧ (trialFit t s).cs = s.cs ∧
      (trialFit t s).lines = s.lines ∧ (trialFit t s).free = s.free ∧ (trialFit t s).pending = s.pending := by
  simp [trialFit]

@[simp] theorem trialWriteWait_frame (t : Trial) (f : Surface) (a : Nat) (b : BoundaryKind) (s : State) :
    (trialWriteWait t f a b s).mc = s.mc ∧ (trialWriteWait t f a b s).pt = s.pt ∧
      (trialWriteWait t f a b s).mon = s.mon ∧ (trialWriteWait t f a b s).pu = s.pu ∧
      (trialWriteWait t f a b s).cl = s.cl ∧ (trialWriteWait t f a b s).cs = s.cs ∧
      (trialWriteWait t f a b s).lines = s.lines ∧ (trialWriteWait t f a b s).free = s.free ∧
      (trialWriteWait t f a b s).pending = s.pending := by
  unfold trialWriteWait
  (repeat' split) <;> simp

@[simp] theorem trialWriting_frame (t : Trial) (s : State) :
    (trialWriting t s).mc = s.mc ∧ (trialWriting t s).pt = s.pt ∧ (trialWriting t s).mon = s.mon ∧
      (trialWriting t s).pu = s.pu ∧ (trialWriting t s).cl = s.cl ∧ (trialWriting t s).cs = s.cs ∧
      (trialWriting t s).lines = s.lines ∧ (trialWriting t s).free = s.free ∧
      (trialWriting t s).pending = s.pending := by
  unfold trialWriting
  (repeat' split) <;> simp

@[simp] theorem trialReadWait_frame (t : Trial) (f : Surface) (a : Nat) (b : BoundaryKind) (s : State) :
    (trialReadWait t f a b s).mc = s.mc ∧ (trialReadWait t f a b s).pt = s.pt ∧
      (trialReadWait t f a b s).mon = s.mon ∧ (trialReadWait t f a b s).pu = s.pu ∧
      (trialReadWait t f a b s).cl = s.cl ∧ (trialReadWait t f a b s).cs = s.cs ∧
      (trialReadWait t f a b s).lines = s.lines ∧ (trialReadWait t f a b s).free = s.free ∧
      (trialReadWait t f a b s).pending = s.pending := by
  unfold trialReadWait
  (repeat' split) <;> simp

@[simp] theorem trialMeasuring_frame (t : Trial) (s : State) :
    (trialMeasuring t s).mc = s.mc ∧ (trialMeasuring t s).pt = s.pt ∧ (trialMeasuring t s).mon = s.mon ∧
      (trialMeasuring t s).pu = s.pu ∧ (trialMeasuring t s).cl = s.cl ∧ (trialMeasuring t s).cs = s.cs ∧
      (trialMeasuring t s).lines = s.lines ∧ (trialMeasuring t s).free = s.free ∧
      (trialMeasuring t s).pending = s.pending := by
  unfold trialMeasuring
  (repeat' split) <;> simp

@[simp] theorem tcuBoundary_frame (f : Surface) (a : Nat) (b : BoundaryKind) (s : State) :
    (tcuBoundary f a b s).mc = s.mc ∧ (tcuBoundary f a b s).pt = s.pt ∧ (tcuBoundary f a b s).mon = s.mon ∧
      (tcuBoundary f a b s).pu = s.pu ∧ (tcuBoundary f a b s).cl = s.cl ∧ (tcuBoundary f a b s).cs = s.cs ∧
      (tcuBoundary f a b s).lines = s.lines ∧ (tcuBoundary f a b s).free = s.free ∧
      (tcuBoundary f a b s).pending = s.pending := by
  unfold tcuBoundary
  (repeat' split) <;> simp

@[simp] theorem tcuSample_frame (c : Channel) (v : Nat) (s : State) :
    (tcuSample c v s).mc = s.mc ∧ (tcuSample c v s).pt = s.pt ∧ (tcuSample c v s).mon = s.mon ∧
      (tcuSample c v s).ldu = s.ldu ∧ (tcuSample c v s).ct = s.ct ∧ (tcuSample c v s).wsg = s.wsg ∧
      (tcuSample c v s).wgc = s.wgc ∧ (tcuSample c v s).pu = s.pu ∧ (tcuSample c v s).eu = s.eu ∧
      (tcuSample c v s).cl = s.cl ∧ (tcuSample c v s).cs = s.cs ∧ (tcuSample c v s).lines = s.lines ∧
      (tcuSample c v s).free = s.free ∧ (tcuSample c v s).pending = s.pending := by
  unfold tcuSample
  (repeat' split) <;> simp

@[simp] theorem tcuTracking_frame (s : State) :
    (tcuTracking s).mc = s.mc ∧ (tcuTracking s).pt = s.pt ∧ (tcuTracking s).mon = s.mon ∧
      (tcuTracking s).pu = s.pu ∧ (tcuTracking s).cl = s.cl ∧ (tcuTracking s).cs = s.cs ∧
      (tcuTracking s).lines = s.lines ∧ (tcuTracking s).free = s.free ∧ (tcuTracking s).pending = s.pending := by
  unfold tcuTracking
  (repeat' split) <;> simp

@[simp] theorem tcuSupply_frame (s : State) :
    (tcuSupply s).mc = s.mc ∧ (tcuSupply s).pt = s.pt ∧ (tcuSupply s).mon = s.mon ∧ (tcuSupply s).pu = s.pu ∧
      (tcuSupply s).cl = s.cl ∧ (tcuSupply s).cs = s.cs ∧ (tcuSupply s).lines = s.lines ∧
      (tcuSupply s).free = s.free ∧ (tcuSupply s).pending = s.pending := by
  unfold tcuSupply
  (repeat' split) <;> simp

@[simp] theorem tcuInhibit_frame (s : State) :
    (tcuInhibit s).mc = s.mc ∧ (tcuInhibit s).pt = s.pt ∧ (tcuInhibit s).mon = s.mon ∧
      (tcuInhibit s).ldu = s.ldu ∧ (tcuInhibit s).ct = s.ct ∧ (tcuInhibit s).wsg = s.wsg ∧
      (tcuInhibit s).wgc = s.wgc ∧ (tcuInhibit s).pu = s.pu ∧ (tcuInhibit s).eu = s.eu ∧
      (tcuInhibit s).cl = s.cl ∧ (tcuInhibit s).cs = s.cs ∧ (tcuInhibit s).lines = s.lines ∧
      (tcuInhibit s).free = s.free ∧ (tcuInhibit s).pending = s.pending := by
  unfold tcuInhibit
  (repeat' split) <;> simp

@[simp] theorem tcuExitPending_frame (s : State) :
    (tcuExitPending s).mc = s.mc ∧ (tcuExitPending s).pt = s.pt ∧ (tcuExitPending s).mon = s.mon ∧
      (tcuExitPending s).ldu = s.ldu ∧ (tcuExitPending s).ct = s.ct ∧ (tcuExitPending s).wsg = s.wsg ∧
      (tcuExitPending s).wgc = s.wgc ∧ (tcuExitPending s).pu = s.pu ∧ (tcuExitPending s).eu = s.eu ∧
      (tcuExitPending s).cl = s.cl ∧ (tcuExitPending s).cs = s.cs ∧ (tcuExitPending s).lines = s.lines ∧
      (tcuExitPending s).free = s.free ∧ (tcuExitPending s).pending = s.pending := by
  unfold tcuExitPending
  (repeat' split) <;> simp

@[simp] theorem tcuExitWithdrawn_frame (s : State) :
    (tcuExitWithdrawn s).mc = s.mc ∧ (tcuExitWithdrawn s).pt = s.pt ∧ (tcuExitWithdrawn s).mon = s.mon ∧
      (tcuExitWithdrawn s).ldu = s.ldu ∧ (tcuExitWithdrawn s).ct = s.ct ∧ (tcuExitWithdrawn s).wsg = s.wsg ∧
      (tcuExitWithdrawn s).wgc = s.wgc ∧ (tcuExitWithdrawn s).pu = s.pu ∧ (tcuExitWithdrawn s).eu = s.eu ∧
      (tcuExitWithdrawn s).cl = s.cl ∧ (tcuExitWithdrawn s).cs = s.cs ∧ (tcuExitWithdrawn s).lines = s.lines ∧
      (tcuExitWithdrawn s).free = s.free ∧ (tcuExitWithdrawn s).pending = s.pending := by
  unfold tcuExitWithdrawn
  (repeat' split) <;> simp

@[simp] theorem tcuModeReaction_frame (a b : Mode) (s : State) :
    (tcuModeReaction a b s).mc = s.mc ∧ (tcuModeReaction a b s).pt = s.pt ∧
      (tcuModeReaction a b s).mon = s.mon ∧ (tcuModeReaction a b s).pu = s.pu ∧
      (tcuModeReaction a b s).cl = s.cl ∧ (tcuModeReaction a b s).cs = s.cs ∧
      (tcuModeReaction a b s).lines = s.lines ∧ (tcuModeReaction a b s).free = s.free ∧
      (tcuModeReaction a b s).pending = s.pending := by
  unfold tcuModeReaction
  (repeat' split) <;> simp

@[simp] theorem changeMode_frame (m : Mode) (g : SelfTest) (s : State) :
    (changeMode m g s).mon = s.mon ∧ (changeMode m g s).pu = s.pu ∧ (changeMode m g s).cl = s.cl ∧
      (changeMode m g s).cs = s.cs ∧ (changeMode m g s).lines = s.lines ∧ (changeMode m g s).free = s.free ∧
      (changeMode m g s).pending = s.pending := by
  simp [changeMode]

@[simp] theorem enterFault_frame (s : State) :
    (enterFault s).mon = s.mon ∧ (enterFault s).pu = s.pu ∧ (enterFault s).cl = s.cl ∧
      (enterFault s).cs = s.cs ∧ (enterFault s).lines = s.lines ∧ (enterFault s).free = s.free ∧
      (enterFault s).pending = s.pending := by
  simp [enterFault]

@[simp] theorem judgeExit_frame (s : State) :
    (judgeExit s).mon = s.mon ∧ (judgeExit s).pu = s.pu ∧ (judgeExit s).cl = s.cl ∧ (judgeExit s).cs = s.cs ∧
      (judgeExit s).lines = s.lines ∧ (judgeExit s).free = s.free ∧ (judgeExit s).pending = s.pending := by
  unfold judgeExit
  (repeat' split) <;> simp

@[simp] theorem conclude_frame (s : State) :
    (conclude s).mon = s.mon ∧ (conclude s).pu = s.pu ∧ (conclude s).cl = s.cl ∧ (conclude s).cs = s.cs ∧
      (conclude s).lines = s.lines ∧ (conclude s).pending = s.pending := by
  simp [conclude]

@[simp] theorem deliverBoundary_frame (f : Surface) (a : Nat) (b : BoundaryKind) (s : State) :
    (deliverBoundary f a b s).mc = s.mc ∧ (deliverBoundary f a b s).pt = s.pt ∧
      (deliverBoundary f a b s).mon = s.mon ∧ (deliverBoundary f a b s).pu = s.pu ∧
      (deliverBoundary f a b s).cl = s.cl ∧ (deliverBoundary f a b s).cs = s.cs ∧
      (deliverBoundary f a b s).lines = s.lines ∧ (deliverBoundary f a b s).pending = s.pending := by
  unfold deliverBoundary bothTake
  dsimp only
  (repeat' split) <;> simp [draw_eq]

@[simp] theorem deliverReport_frame (r : PositionReport) (s : State) :
    (deliverReport r s).mc = s.mc ∧ (deliverReport r s).pt = s.pt ∧ (deliverReport r s).mon = s.mon ∧
      (deliverReport r s).pu = s.pu ∧ (deliverReport r s).cl = s.cl ∧ (deliverReport r s).cs = s.cs ∧
      (deliverReport r s).lines = s.lines ∧ (deliverReport r s).pending = s.pending := by
  unfold deliverReport
  simp only [following_frame]
  unfold bothTake
  dsimp only
  (repeat' split) <;> simp [draw_eq]

@[simp] theorem acquire_frame (f : Surface) (a : Nat) (s : State) :
    (acquire f a s).mc = s.mc ∧ (acquire f a s).mon = s.mon ∧ (acquire f a s).ldu = s.ldu ∧
      (acquire f a s).ct = s.ct ∧ (acquire f a s).tcu = s.tcu ∧ (acquire f a s).wsg = s.wsg ∧
      (acquire f a s).wgc = s.wgc ∧ (acquire f a s).pu = s.pu ∧ (acquire f a s).eu = s.eu ∧
      (acquire f a s).cl = s.cl ∧ (acquire f a s).cs = s.cs ∧ (acquire f a s).lines = s.lines ∧
      (acquire f a s).free = s.free ∧ (acquire f a s).pending = s.pending :=
  ⟨rfl, rfl, rfl, rfl, rfl, rfl, rfl, rfl, rfl, rfl, rfl, rfl, rfl, rfl⟩

@[simp] theorem lockOn_frame (f : Surface) (a : Nat) (s : State) :
    (lockOn f a s).mc = s.mc ∧ (lockOn f a s).mon = s.mon ∧ (lockOn f a s).ct = s.ct ∧
      (lockOn f a s).tcu = s.tcu ∧ (lockOn f a s).wsg = s.wsg ∧ (lockOn f a s).wgc = s.wgc ∧
      (lockOn f a s).pu = s.pu ∧ (lockOn f a s).cl = s.cl ∧ (lockOn f a s).cs = s.cs ∧
      (lockOn f a s).lines = s.lines ∧ (lockOn f a s).free = s.free ∧ (lockOn f a s).pending = s.pending := by
  unfold lockOn
  (repeat' split) <;> simp

@[simp] theorem advance_frame (a c : Nat) (b : BoundaryKind) (s : State) :
    (advance a c b s).mc = s.mc ∧ (advance a c b s).mon = s.mon ∧ (advance a c b s).pu = s.pu ∧
      (advance a c b s).cl = s.cl ∧ (advance a c b s).cs = s.cs ∧ (advance a c b s).lines = s.lines ∧
      (advance a c b s).pending = s.pending := by
  simp [advance]

@[simp] theorem loseLock_frame (s : State) :
    (loseLock s).mc = s.mc ∧ (loseLock s).mon = s.mon ∧ (loseLock s).pu = s.pu ∧ (loseLock s).cl = s.cl ∧
      (loseLock s).cs = s.cs ∧ (loseLock s).lines = s.lines ∧ (loseLock s).pending = s.pending := by
  simp [loseLock]

@[simp] theorem jumpTo_frame (f : Surface) (a : Nat) (s : State) :
    (jumpTo f a s).mc = s.mc ∧ (jumpTo f a s).mon = s.mon ∧ (jumpTo f a s).pu = s.pu ∧
      (jumpTo f a s).cl = s.cl ∧ (jumpTo f a s).cs = s.cs ∧ (jumpTo f a s).lines = s.lines ∧
      (jumpTo f a s).pending = s.pending := by
  simp [jumpTo]

@[simp] theorem takeArrival_frame (v : Option (Surface × Nat)) (s : State) :
    (takeArrival v s).mc = s.mc ∧ (takeArrival v s).mon = s.mon ∧ (takeArrival v s).pu = s.pu ∧
      (takeArrival v s).cl = s.cl ∧ (takeArrival v s).cs = s.cs ∧ (takeArrival v s).lines = s.lines ∧
      (takeArrival v s).pending = s.pending := by
  unfold takeArrival
  (repeat' split) <;> simp

@[simp] theorem lduFmon_frame (v : Nat) (s : State) :
    (lduFmon v s).mc = s.mc ∧ (lduFmon v s).pt = s.pt ∧ (lduFmon v s).mon = s.mon ∧ (lduFmon v s).ct = s.ct ∧
      (lduFmon v s).tcu = s.tcu ∧ (lduFmon v s).wsg = s.wsg ∧ (lduFmon v s).wgc = s.wgc ∧
      (lduFmon v s).pu = s.pu ∧ (lduFmon v s).cl = s.cl ∧ (lduFmon v s).cs = s.cs ∧
      (lduFmon v s).lines = s.lines ∧ (lduFmon v s).free = s.free ∧ (lduFmon v s).pending = s.pending := by
  unfold lduFmon
  (repeat' split) <;> simp

@[simp] theorem mcFmon_frame (j : Judgement) (s : State) :
    (mcFmon j s).mon = s.mon ∧ (mcFmon j s).pu = s.pu ∧ (mcFmon j s).cl = s.cl ∧ (mcFmon j s).cs = s.cs ∧
      (mcFmon j s).lines = s.lines ∧ (mcFmon j s).free = s.free ∧ (mcFmon j s).pending = s.pending := by
  unfold mcFmon
  (repeat' split) <;> simp

@[simp] theorem deliverFmon_frame (v : Nat) (j : Judgement) (s : State) :
    (deliverFmon v j s).mon = s.mon ∧ (deliverFmon v j s).pu = s.pu ∧ (deliverFmon v j s).cl = s.cl ∧
      (deliverFmon v j s).cs = s.cs ∧ (deliverFmon v j s).lines = s.lines ∧
      (deliverFmon v j s).pending = s.pending := by
  unfold deliverFmon
  dsimp only
  (repeat' split) <;> simp [draw_eq]

@[simp] theorem deliver_frame (c : Channel) (v : Nat) (j : Judgement) (s : State) :
    (deliver c v j s).mon = s.mon ∧ (deliver c v j s).pu = s.pu ∧ (deliver c v j s).cl = s.cl ∧
      (deliver c v j s).cs = s.cs ∧ (deliver c v j s).lines = s.lines ∧ (deliver c v j s).pending = s.pending := by
  unfold deliver
  (repeat' split) <;> simp

@[simp] theorem wsgReady_frame (r : Bool) (s : State) :
    (wsgReady r s).mc = s.mc ∧ (wsgReady r s).pt = s.pt ∧ (wsgReady r s).mon = s.mon ∧
      (wsgReady r s).ct = s.ct ∧ (wsgReady r s).tcu = s.tcu ∧ (wsgReady r s).wgc = s.wgc ∧
      (wsgReady r s).pu = s.pu ∧ (wsgReady r s).eu = s.eu ∧ (wsgReady r s).cl = s.cl ∧ (wsgReady r s).cs = s.cs ∧
      (wsgReady r s).lines = s.lines ∧ (wsgReady r s).free = s.free ∧ (wsgReady r s).pending = s.pending := by
  unfold wsgReady
  (repeat' split) <;> simp

@[simp] theorem requestExit_frame (m : Mode) (s : State) :
    (requestExit m s).mon = s.mon ∧ (requestExit m s).pu = s.pu ∧ (requestExit m s).cl = s.cl ∧
      (requestExit m s).cs = s.cs ∧ (requestExit m s).lines = s.lines ∧ (requestExit m s).free = s.free ∧
      (requestExit m s).pending = s.pending := by
  unfold requestExit
  (repeat' split) <;> simp

@[simp] theorem withdrawExit_frame (s : State) :
    (withdrawExit s).pt = s.pt ∧ (withdrawExit s).mon = s.mon ∧ (withdrawExit s).ldu = s.ldu ∧
      (withdrawExit s).ct = s.ct ∧ (withdrawExit s).wsg = s.wsg ∧ (withdrawExit s).pu = s.pu ∧
      (withdrawExit s).eu = s.eu ∧ (withdrawExit s).cl = s.cl ∧ (withdrawExit s).cs = s.cs ∧
      (withdrawExit s).lines = s.lines ∧ (withdrawExit s).free = s.free ∧ (withdrawExit s).pending = s.pending := by
  unfold withdrawExit
  (repeat' split) <;> simp

@[simp] theorem grantMode_frame (m : Mode) (g : SelfTest) (s : State) :
    (grantMode m g s).mon = s.mon ∧ (grantMode m g s).pu = s.pu ∧ (grantMode m g s).cl = s.cl ∧
      (grantMode m g s).cs = s.cs ∧ (grantMode m g s).lines = s.lines ∧ (grantMode m g s).pending = s.pending := by
  unfold grantMode
  (repeat' split) <;> simp

@[simp] theorem enqueue_frame (g : Segment) (s : State) :
    (enqueue g s).mc = s.mc ∧ (enqueue g s).pt = s.pt ∧ (enqueue g s).mon = s.mon ∧ (enqueue g s).ct = s.ct ∧
      (enqueue g s).tcu = s.tcu ∧ (enqueue g s).pu = s.pu ∧ (enqueue g s).cl = s.cl ∧ (enqueue g s).cs = s.cs ∧
      (enqueue g s).lines = s.lines ∧ (enqueue g s).free = s.free ∧ (enqueue g s).pending = s.pending := by
  unfold enqueue
  (repeat' split) <;> simp

@[simp] theorem continueStopped_frame (s : State) :
    (continueStopped s).mc = s.mc ∧ (continueStopped s).pt = s.pt ∧ (continueStopped s).mon = s.mon ∧
      (continueStopped s).ct = s.ct ∧ (continueStopped s).tcu = s.tcu ∧ (continueStopped s).pu = s.pu ∧
      (continueStopped s).cl = s.cl ∧ (continueStopped s).cs = s.cs ∧ (continueStopped s).lines = s.lines ∧
      (continueStopped s).free = s.free ∧ (continueStopped s).pending = s.pending := by
  simp [continueStopped]

@[simp] theorem countDamaged_frame (a : Nat) (s : State) :
    (countDamaged a s).mc = s.mc ∧ (countDamaged a s).pt = s.pt ∧ (countDamaged a s).mon = s.mon ∧
      (countDamaged a s).ldu = s.ldu ∧ (countDamaged a s).ct = s.ct ∧ (countDamaged a s).tcu = s.tcu ∧
      (countDamaged a s).wsg = s.wsg ∧ (countDamaged a s).pu = s.pu ∧ (countDamaged a s).eu = s.eu ∧
      (countDamaged a s).cl = s.cl ∧ (countDamaged a s).cs = s.cs ∧ (countDamaged a s).lines = s.lines ∧
      (countDamaged a s).free = s.free ∧ (countDamaged a s).pending = s.pending := by
  unfold countDamaged
  (repeat' split) <;> simp

@[simp] theorem abortHead_frame (g : Segment) (s : State) :
    (abortHead g s).mc = s.mc ∧ (abortHead g s).pt = s.pt ∧ (abortHead g s).mon = s.mon ∧
      (abortHead g s).ct = s.ct ∧ (abortHead g s).tcu = s.tcu ∧ (abortHead g s).pu = s.pu ∧
      (abortHead g s).cl = s.cl ∧ (abortHead g s).cs = s.cs ∧ (abortHead g s).lines = s.lines ∧
      (abortHead g s).free = s.free ∧ (abortHead g s).pending = s.pending := by
  unfold abortHead
  dsimp only
  (repeat' split) <;> simp

@[simp] theorem lineChanged_frame (l : Inhibit) (s : State) :
    (lineChanged l s).mc = s.mc ∧ (lineChanged l s).pt = s.pt ∧ (lineChanged l s).mon = s.mon ∧
      (lineChanged l s).ct = s.ct ∧ (lineChanged l s).cl = s.cl ∧ (lineChanged l s).cs = s.cs ∧
      (lineChanged l s).pending = s.pending := by
  unfold lineChanged
  (repeat' split) <;> simp

@[simp] theorem bankLost_frame (s : State) :
    (bankLost s).mc = s.mc ∧ (bankLost s).pt = s.pt ∧ (bankLost s).mon = s.mon ∧ (bankLost s).ct = s.ct ∧
      (bankLost s).tcu = s.tcu ∧ (bankLost s).wsg = s.wsg ∧ (bankLost s).wgc = s.wgc ∧ (bankLost s).pu = s.pu ∧
      (bankLost s).cl = s.cl ∧ (bankLost s).cs = s.cs ∧ (bankLost s).lines = s.lines ∧
      (bankLost s).free = s.free ∧ (bankLost s).pending = s.pending := by
  unfold bankLost
  (repeat' split) <;> simp

@[simp] theorem writeEnds_frame (b : BankNo) (r x : CharRecord) (s : State) :
    (writeEnds b r x s).mc = s.mc ∧ (writeEnds b r x s).pt = s.pt ∧ (writeEnds b r x s).mon = s.mon ∧
      (writeEnds b r x s).ct = s.ct ∧ (writeEnds b r x s).tcu = s.tcu ∧ (writeEnds b r x s).wsg = s.wsg ∧
      (writeEnds b r x s).wgc = s.wgc ∧ (writeEnds b r x s).pu = s.pu ∧ (writeEnds b r x s).cl = s.cl ∧
      (writeEnds b r x s).lines = s.lines ∧ (writeEnds b r x s).free = s.free ∧
      (writeEnds b r x s).pending = s.pending := by
  unfold writeEnds
  dsimp only
  (repeat' split) <;> simp

@[simp] theorem lockEnds_frame (b : BankNo) (m : Bool) (s : State) :
    (lockEnds b m s).mc = s.mc ∧ (lockEnds b m s).pt = s.pt ∧ (lockEnds b m s).mon = s.mon ∧
      (lockEnds b m s).ldu = s.ldu ∧ (lockEnds b m s).ct = s.ct ∧ (lockEnds b m s).tcu = s.tcu ∧
      (lockEnds b m s).wsg = s.wsg ∧ (lockEnds b m s).wgc = s.wgc ∧ (lockEnds b m s).pu = s.pu ∧
      (lockEnds b m s).cl = s.cl ∧ (lockEnds b m s).lines = s.lines ∧ (lockEnds b m s).free = s.free ∧
      (lockEnds b m s).pending = s.pending :=
  ⟨rfl, rfl, rfl, rfl, rfl, rfl, rfl, rfl, rfl, rfl, rfl, rfl, rfl⟩

end Sys2Proof.Machine
end

