-- ==== Sys2Proof/Laws/Link.lean ====
section
/-! SUPPORT. What becomes of a command frame, by the state of the link and the length of its body (R184 to R187), and what the read windows leave. -/

namespace Sys2Proof.Machine

/-- An accepted frame changes the link alone, before its owner acts. -/
theorem acceptFrame_eq (n : Nat) (s : State) :
    acceptFrame n s = s.setCl { slot := .awaiting, discard := 0, resetEnable := false, receive := .idle,
                                dataOut := zeros n } := rfl

/-- The reply fills the slot and changes nothing else. -/
theorem fillSlot_eq (kind : Byte) (t : State) (a : Answer) :
    fillSlot kind (t, a) = t.setCl { t.cl with
      slot := .full { kind := kind, status := a.status, clamped := a.clamped, body := a.body } } := rfl

/-- A frame that finds the slot EMPTY is answered (R186, R187). -/
theorem takeFrame_accepted (kind : Byte) (body : Body) (failing : Status) (owner : Option Owner) (s : State)
    (h : s.takesFrames) (hb : body.length ≤ 62) :
    takeFrame kind body failing owner s = answerFrame kind body failing owner s := by
  obtain ⟨h1, h2⟩ := h
  rw [takeFrame, if_neg h1, if_neg (by omega), h2]

/-- A command frame whose body its owner can read is handled by the owner (R187). -/
theorem command_owned (kind : Byte) (body : Body) (owner : Owner) (s : State) (h : s.takesFrames)
    (hb : body.length ≤ 62) :
    command kind body (some owner) s = .next (fillSlot kind (owner (acceptFrame (2 + body.length) s))) := by
  rw [command, takeFrame_accepted kind body .badLength (some owner) s h hb]
  rfl

/-- A command frame of a length that is not permitted is answered BAD_LENGTH (R187). -/
theorem command_badLength (kind : Byte) (body : Body) (s : State) (h : s.takesFrames) (hb : body.length ≤ 62) :
    command kind body none s = .next (s.setCl (Cl.answered kind body .badLength false [])) := by
  rw [command, takeFrame_accepted kind body .badLength none s h hb]
  rfl

/-- A command frame that its owner answers without changing anything but the link. -/
theorem command_unchanged (kind : Byte) (body : Body) (owner : Owner) (s : State) (a : Answer) (h : s.takesFrames)
    (hb : body.length ≤ 62)
    (ho : owner (acceptFrame (2 + body.length) s) = (acceptFrame (2 + body.length) s, a)) :
    command kind body (some owner) s = .next (s.setCl (Cl.answered kind body a.status a.clamped a.body)) := by
  rw [command_owned kind body owner s h hb, ho]
  rfl

/-- A well-formed frame that finds a reply in the slot is discarded and counted (R186). -/
theorem takeFrame_full (kind : Byte) (body : Body) (failing : Status) (owner : Option Owner) (s : State) (r : Reply)
    (h : s.cl.receive ≠ .blocked) (hs : s.cl.slot = .full r) (hb : body.length ≤ 62) :
    takeFrame kind body failing owner s = discardFrame (2 + body.length) s := by
  rw [takeFrame, if_neg h, if_neg (by omega), hs]

/-- A discarded frame changes the link alone: its count, and what data out carried (R186). -/
theorem discardFrame_eq (n : Nat) (s : State) :
    discardFrame n s = s.setCl { s.cl with
      discard := min 15 (s.cl.discard + 1), receive := .idle, dataOut := zeros n } := rfl

/-- A frame in the window left open across a reset is ignored (R184). -/
theorem takeFrame_blocked (kind : Byte) (body : Body) (failing : Status) (owner : Option Owner) (s : State)
    (h : s.cl.receive = .blocked) :
    takeFrame kind body failing owner s = endWindow (zeros (2 + body.length)) s := by
  rw [takeFrame, if_pos h]

/-- The state that a window's end leaves. -/
theorem endWindow_eq (l : List Byte) (s : State) :
    endWindow l s = s.setCl { s.cl with receive := .idle, dataOut := l } := rfl

/-- A REPLY window changes the link alone (R189). -/
theorem replyRead_frame (edges : Nat) (s : State) :
    replyRead edges s = s.setCl (replyRead edges s).cl := by
  unfold replyRead
  dsimp only
  (repeat' split) <;> rfl

/-- What a NOTICE window carries out leaves everything but the link and the head of the notice queue (R190). -/
theorem noticeRead_frame (edges : Nat) (s : State) :
    noticeRead edges s = (s.setCl (noticeRead edges s).cl).setEu (noticeRead edges s).eu := by
  unfold noticeRead
  (repeat' split) <;> rfl

end Sys2Proof.Machine
end

