-- ==== Sys2Proof/Laws/Recording.lean ====
section
/-! SUPPORT. What the operations of the recording path write: the gate, the head of the queue, the levels, and a head that proceeds. -/

namespace Sys2Proof.Machine

/-- R62: a computation replaces the four levels by those computed from the inputs. -/
theorem recompute_ldu (s : State) : (recompute s).ldu = { s.ldu with levels := s.levelsNow } := rfl

/-- R58: and it triggers CURRENT_LIMIT at an entry into the limited condition, and nothing else. -/
theorem recompute_eu (s : State) :
    (recompute s).eu =
      if newlyLimited s.mc.mode s.ldu.levels s.levelsNow then s.eu.trigger .currentLimit else s.eu := rfl

/-- R61, R62: LDU takes the set and computes the levels with it. -/
theorem handPowers_ldu (w : PowerSet) (s : State) :
    (handPowers w s).ldu = { s.ldu with
      writeSet := some w, levels := (s.setLdu { s.ldu with writeSet := some w }).levelsNow } := rfl

/-- The gate becomes IDLE, or WAITING for a user. -/
theorem shutGate_wgc (w : Option GateUser) (s : State) :
    (shutGate w s).wgc = { s.wgc with gate := if w.isSome then .waiting else .idle, user := w } := rfl

/-- R52: with the gate not OPEN the READ level is driven. -/
theorem shutGate_ldu (w : Option GateUser) (s : State) : (shutGate w s).ldu = { s.ldu with driven := .read } := rfl

/-- R126: WSG stops laying out. -/
theorem shutGate_wsg (w : Option GateUser) (s : State) : (shutGate w s).wsg = s.wsg.stop := rfl

/-- The gate becomes OPEN for a user. -/
theorem openGate_wgc (u : GateUser) (s : State) :
    (openGate u s).wgc = { s.wgc with gate := .opened, user := some u } := by
  cases u <;> rfl

/-- R52: with the gate OPEN the level WSG selects is driven. -/
theorem openGate_driven (u : GateUser) (s : State) : (openGate u s).ldu.driven = (openGate u s).wsg.select := by
  cases u <;> rfl

/-- R124: the stream begins with no train in progress. -/
theorem openGate_segment_wsg (s : State) : (openGate .segment s).wsg = s.wsg.begin := rfl

/-- R127: the pattern begins with run 1. -/
theorem openGate_trial_wsg (s : State) : (openGate .trial s).wsg = s.wsg.beginPattern := rfl

/-- R141: the head is SUSPENDED with its reason, and one notice is generated. -/
theorem suspendHead_cons (why : SegReason) (s : State) (g : Segment) (rest : List Segment)
    (h : s.wgc.queue = g :: rest) :
    suspendHead why s = post .wgc (.segmentSuspended g.tag g.next g.remaining why)
      (s.setWgc { s.wgc with queue := { g with state := .suspended, reason := some why } :: rest }) := by
  simp [suspendHead, Wgc.mapHead, h]

/-- R132, R145: the head is HALTED with its reason and damaged block, the latch is clear, and one notice is
generated. -/
theorem haltHead_cons (why : SegReason) (d : Option Nat) (s : State) (g : Segment) (rest : List Segment)
    (h : s.wgc.queue = g :: rest) :
    haltHead why d s = post .wgc (.segmentHalted g.tag why g.done d)
      (s.setWgc { s.wgc with
        queue := { g with state := .halted, reason := some why, damaged := d } :: rest, arm := false }) := by
  simp [haltHead, Wgc.mapHead, h]

/-- R145: an immediate cause leaves a head that is not writing. -/
theorem haltAtOnce_off (why : SegReason) (s : State) (g : Segment) (rest : List Segment)
    (h : s.wgc.queue = g :: rest) (hw : g.state.writes = false) : haltAtOnce why s = s := by
  simp [haltAtOnce, h, hw]

/-- An empty queue has no new head. -/
theorem newHead_nil (s : State) (h : s.wgc.queue = []) : newHead s = s := by
  simp [newHead, h, proceed]

/-- R136: a head that is not QUEUED does not proceed. -/
theorem newHead_off (s : State) (g : Segment) (rest : List Segment) (h : s.wgc.queue = g :: rest)
    (hs : g.state ≠ .queued) : newHead s = s := by
  simp [newHead, h, proceed, hs]

/-- R154: with an exit pending a new head is SUSPENDED with reason MODE. -/
theorem newHead_exit (s : State) (g : Segment) (rest : List Segment) (h : s.wgc.queue = g :: rest)
    (hs : g.state = .queued) (hx : s.wgc.exitMark = true) : newHead s = suspendHead .mode s := by
  simp [newHead, h, proceed, hs, hx]

/-- R136: while the gate is held, or in a mode without writing, a new head stays QUEUED. -/
theorem newHead_held (s : State) (g : Segment) (rest : List Segment) (h : s.wgc.queue = g :: rest)
    (hx : s.wgc.exitMark = false) (hg : s.wgc.gate ≠ .idle ∨ s.mc.mode.mayWrite = false) : newHead s = s := by
  simp only [newHead, h, List.length_cons, proceed, hx]
  split
  · rfl
  · simp

/-- R137: a new head whose blocks are not protected takes the gate and enters WAITING with the wait counter 0. -/
theorem newHead_waits (s : State) (g : Segment) (rest : List Segment) (h : s.wgc.queue = g :: rest)
    (hs : g.state = .queued) (hx : s.wgc.exitMark = false) (hg : s.wgc.gate = .idle)
    (hm : s.mc.mode.mayWrite = true) (hp : s.runProtected g.surface g.next g.last = false) :
    newHead s = (shutGate (some .segment) s).setWgc
      { s.wgc with
        gate := .waiting, user := some .segment, queue := { g with state := .waiting } :: rest, wait := 0 } := by
  simp only [newHead, h, List.length_cons, proceed, hx]
  simp [hs, hg, hm, hp, Wgc.mapHead, shutGate, h, hx]

/-- R137: a new head whose blocks are protected is removed with a notice, and the next one proceeds. -/
theorem newHead_refused (s : State) (g : Segment) (rest : List Segment) (h : s.wgc.queue = g :: rest)
    (hs : g.state = .queued) (hx : s.wgc.exitMark = false) (hg : s.wgc.gate = .idle)
    (hm : s.mc.mode.mayWrite = true) (hp : s.runProtected g.surface g.next g.last = true) :
    newHead s = newHead (post .wgc (.segmentRefused g.tag) (dropHead s)) := by
  simp only [newHead, h, List.length_cons, proceed, hx]
  simp [hs, hg, hm, hp, dropHead, h, post]

/-- R8: without a pending request MC judges nothing. -/
theorem judgeExit_none (s : State) (h : s.mc.request = none) : judgeExit s = s := by
  simp [judgeExit, h]

/-- R8: while recording has not stopped a pending request waits. -/
theorem judgeExit_waits (s : State) (h : s.stopped = false) : judgeExit s = s := by
  unfold judgeExit
  split
  · rfl
  · simp [h]

/-- R8: when recording has stopped the pending change completes. -/
theorem judgeExit_completes (s : State) (m : Mode) (h : s.mc.request = some m) (hs : s.stopped = true) :
    judgeExit s = changeMode m SelfTest.usual s := by
  simp [judgeExit, h, hs]

/-- Without a pending request the end of a step is the joining of its notices. -/
theorem conclude_none (s : State) (h : s.mc.request = none) : conclude s = finish s := by
  rw [conclude, following_self _ _ _ (judgeExit_none s h)]

/-- R8, R30, R177: where recording has stopped, the pending change completes at the end of the step, and its notices
join after those of the report that let it. -/
theorem conclude_completes (s : State) (m : Mode) (h : s.mc.request = some m) (hs : s.stopped = true) :
    conclude s = finish ((changeMode m SelfTest.usual s).setEu
      ((changeMode m SelfTest.usual s).eu.hold s.eu.outbox.length reportPosters)) := by
  rw [conclude, following_eq, judgeExit_completes s m h hs]

end Sys2Proof.Machine
end

