-- ==== Sys2Proof/Laws/Tables.lean ====
section
/-! SUPPORT. Reading a table after a write, after a fill and after a map. -/

namespace Sys2Proof

@[simp] theorem Two.get_put {α : Type} (t : Two α) (i j : Surface) (x : α) :
    (t.put i x).get j = if j = i then x else t.get j := by
  cases i <;> cases j <;> rfl

@[simp] theorem Two.get_fill {α : Type} (x : α) (i : Surface) : (Two.fill x).get i = x := by
  cases i <;> rfl

@[simp] theorem Three.get_put {α : Type} (t : Three α) (i j : BankNo) (x : α) :
    (t.put i x).get j = if j = i then x else t.get j := by
  cases i <;> cases j <;> rfl

@[simp] theorem Three.get_fill {α : Type} (x : α) (i : BankNo) : (Three.fill x).get i = x := by
  cases i <;> rfl

@[simp] theorem PerEvent.get_put {α : Type} (t : PerEvent α) (i j : Event) (x : α) :
    (t.put i x).get j = if j = i then x else t.get j := by
  cases i <;> cases j <;> rfl

@[simp] theorem PerEvent.get_fill {α : Type} (x : α) (i : Event) : (PerEvent.fill x).get i = x := by
  cases i <;> rfl

@[simp] theorem Four.get_put {α : Type} (t : Four α) (i j : Fin 4) (x : α) :
    (t.put i x).get j = if j = i then x else t.get j := by
  fin_cases i <;> fin_cases j <;> rfl

@[simp] theorem Four.get_fill {α : Type} (x : α) (i : Fin 4) : (Four.fill x).get i = x := by
  fin_cases i <;> rfl

@[simp] theorem Four.get_map {α β : Type} (f : α → β) (t : Four α) (i : Fin 4) : (t.map f).get i = f (t.get i) := by
  fin_cases i <;> rfl

@[simp] theorem Eight.get_put {α : Type} (t : Eight α) (i j : Fin 8) (x : α) :
    (t.put i x).get j = if j = i then x else t.get j := by
  fin_cases i <;> fin_cases j <;> rfl

@[simp] theorem Eight.get_fill {α : Type} (x : α) (i : Fin 8) : (Eight.fill x).get i = x := by
  fin_cases i <;> rfl

@[simp] theorem Eight.get_map {α β : Type} (f : α → β) (t : Eight α) (i : Fin 8) : (t.map f).get i = f (t.get i) := by
  fin_cases i <;> rfl

/-- The names of an enumeration, read back by their place. -/
@[simp] theorem nameAt_surface (f : Surface) : nameAt Surface.all f.code = some f := by cases f <;> rfl
@[simp] theorem nameAt_mode (m : Mode) : nameAt Mode.all m.code = some m := by cases m <;> rfl
@[simp] theorem nameAt_channel (c : Channel) : nameAt Channel.all c.index = some c := by cases c <;> rfl
@[simp] theorem nameAt_speed (v : Speed) : nameAt Speed.all v.index = some v := by cases v <;> rfl
@[simp] theorem nameAt_mark (m : MarkClass) : nameAt MarkClass.all m.index = some m := by cases m <;> rfl
@[simp] theorem nameAt_media (m : Media) : nameAt Media.all m.code = some m := by cases m <;> rfl
@[simp] theorem nameAt_side (x : Side) : nameAt Side.all x.code = some x := by cases x <;> rfl
@[simp] theorem nameAt_lock (l : Lock) : nameAt Lock.all l.code = some l := by cases l <;> rfl
@[simp] theorem nameAt_link (l : SegLink) : nameAt SegLink.all l.code = some l := by cases l <;> rfl
@[simp] theorem nameAt_event (e : Event) : nameAt Event.all e.code = some e := by cases e <;> rfl
@[simp] theorem nameAt_bank (b : BankNo) : nameAt BankNo.all b.code = some b := by cases b <;> rfl

/-- A name's place is within its byte. -/
theorem Surface.code_lt (f : Surface) : f.code < 2 := by cases f <;> decide
theorem Mode.code_lt (m : Mode) : m.code < 6 := by cases m <;> decide
theorem Lock.code_lt (l : Lock) : l.code < 4 := by cases l <;> decide
theorem Event.code_lt (e : Event) : e.code < 18 := by cases e <;> decide
theorem BankNo.code_lt (b : BankNo) : b.code < 3 := by cases b <;> decide
theorem SegLink.code_lt (l : SegLink) : l.code < 2 := by cases l <;> decide

theorem Channel.index_inj {c d : Channel} (h : c.index = d.index) : c = d := by
  cases c <;> cases d <;> first | rfl | exact absurd h (by decide)

end Sys2Proof
end

