-- ==== Sys2Proof/Tests/Slice0.lean ====
section
/-! SUPPORT. The model's own tests: the well-formedness check on an ill-formed term for each of its clauses, the spec's worked figures, and for each obligation with hypotheses a concrete state and operands that meet them, clause by clause, with what the step answers there. -/

namespace Sys2Proof.Tests

open Sys2Proof Sys2Proof.Machine

-- The kernel decides these theorems one after another: elaborated in parallel, each holds a thread while it waits.
set_option Elab.async false

/-- The state after a command that answers a next state. -/
def run (c : Instr) (s : State) : State :=
  match exec c s with
  | .next t => t
  | _ => s

/-- The reply that a command leaves in the slot: status, clamped flag and body as numbers. -/
def answer (c : Instr) (s : State) : Option (Status × Bool × List Nat) :=
  match (run c s).cl.slot with
  | .full r => some (r.status, r.clamped, r.body.map BitVec.toNat)
  | _ => none

/-- The bank of the power chain's worked cases (chapter 4), with an Imax that clamps nothing. -/
def bank : CharRecord :=
  { ith0 := 32000, eta0 := 1100, t0 := 250, kI := 350, kEta := 4, imax := 200000, fmonGain := 1600, maxRead := 1200 }

def valid (peak bias cool : Nat) : CalRecord :=
  { state := .valid, fields := some { peak := peak, bias := bias, cool := cool, target := 0, calTemp := 412,
                                      source := .host } }

/-- The zones and peaks of the worked case of chapter 5. -/
def zones : Eight Nat := ⟨0, 60000, 120000, 200000, 290000, 390000, 500000, 630000⟩

def peaks : Eight CalRecord :=
  ⟨valid 33000 310 40, valid 34200 305 40, valid 36000 300 40, valid 38400 300 45, CalRecord.blank,
   { (valid 42000 295 45) with state := .stale }, valid 43800 290 50, valid 45000 290 50⟩

/-- The strategy set of the worked case of chapter 7. -/
def strategies : Four (Option StrategyEntry) :=
  ⟨some ⟨-2, 20, 6, 0, 10⟩, some ⟨0, 14, 8, 8, 12⟩, some ⟨1, 14, 8, 9, 12⟩, some ⟨2, 14, 8, 10, 12⟩⟩

/-- CONFIGURE with a valid active bank. -/
def configured : State :=
  { State.reset with cs := {
      banks := Three.fill { record := bank, valid := true, locked := false }
      active := some { bank := .b0, record := bank }, store := .idle } }

/-- STANDBY with a disc of two surfaces. -/
def standby (m : Media) : State :=
  { configured with
    mc := { configured.mc with mode := .standby }
    ct := { configured.ct with
      disc := some { media := m, dual := true, blocks := 786432 }
      zones := { t0 := some zones, t1 := some zones }
      records := { t0 := Ct.blankRecords.put 1 peaks, t1 := Ct.blankRecords } }
    tcu := { areas := { t0 := some { first := 2000, length := 1024, next := 2100 }, t1 := none }, trial := none } }

/-- READ, LOCKED at a block of surface 0. -/
def reading (a : Nat) : State :=
  { standby .rewritable with
    mc := { mode := .read, request := none, segDepth := 12 }
    pt := { Pt.afterReset with state := .locked, current := a, predicted := a + 1 } }

/-- RECORD at the temperature of the worked cases, the scan running and everything ready to write. -/
def recording (a : Nat) : State :=
  let s := { reading a with
    mc := { mode := .record, request := none, segDepth := 12 }
    mon := { Mon.afterReset with
      scanList := [.rsum, .terr, .rtop, .rbot, .fmon, .temp, .vld, .aux], scanState := .running, measured := some 412 }
    wsg := { Wsg.afterReset with speed := .s2, entries := Wsg.blankEntries.put 1 strategies }
    wgc := { Wgc.afterReset with arm := true }
    lines := { inhibit := .released, encoderReady := true } }
  s.setLdu { s.ldu with levels := s.levelsNow }

/-- The channel whose conversion is in flight next. -/
def awaiting (c : Channel) (s : State) : State :=
  s.setMon { s.mon with position := s.mon.scanList.idxOf c }

/-- A segment of three blocks at the head, in a state and with what goes with it. -/
def segmentAt (a : Nat) (state : SegState) (reason : Option SegReason) (damaged : Option Nat) : Segment :=
  { tag := 40, surface := .zero, link := .fresh, start := a, count := 3, done := 0, state := state, reason := reason,
    damaged := damaged, largest := 0, limitMark := false }

def withHead (g : Segment) (gate : GateState) (user : Option GateUser) (s : State) : State :=
  s.setWgc { s.wgc with queue := [g], gate := gate, user := user }

/-- A window of a channel, enabled. -/
def withWindow (c : Channel) (low high : Nat) (s : State) : State :=
  s.setMon { s.mon with windows := s.mon.windows.put c.index { low := low, high := high, enabled := true } }

/-- The trial of the worked case of chapter 6. -/
def trialAt (sub : SubState) (index : Nat) : Trial :=
  { key := { surface := .zero, speed := .s2, zone := 0 }, start := 30000, step := 1500, target := 0, bias := 310,
    cool := 40, first := 2100, saved := valid 33000 310 40, sub := sub, index := index, wait := 0,
    steps := List.replicate 7 TrialStep.fresh, inhibitMark := false, modeMark := false }

def withTrial (t : Trial) (gate : GateState) (s : State) : State :=
  { s with
    tcu := { s.tcu with trial := some t }
    ct := s.ct.beginTrial t.key
    wgc := { s.wgc with gate := gate, user := some .trial } }

/-- A head of three blocks that writes its first, at the block before a. -/
def writingHead (a : Nat) : State :=
  withHead (segmentAt a .writing none none) .opened (some .segment) (recording a)

/-- A trial that is as far as this in RECORD, at the block before a. -/
def trialState (sub : SubState) (index : Nat) (gate : GateState) (a : Nat) : State :=
  withTrial (trialAt sub index) gate (recording (a - 1))

/-- What has become of the queue: each segment's state and reason, and the gate. -/
def queueNow (s : State) : List (SegState × Option SegReason) × GateState :=
  (s.wgc.queue.map (fun g => (g.state, g.reason)), s.wgc.gate)

/-! ### Well-formedness: one ill-formed term for each check -/

theorem test_wellFormed_refuses_a_long_body :
    wellFormed (.setScan (List.replicate 63 0)) = false ∧ wellFormed (.setScan (List.replicate 62 0)) = true := by
  decide +kernel

theorem test_wellFormed_refuses_a_known_kind :
    wellFormed (.unknownKindFrame 47 []) = false ∧ wellFormed (.unknownKindFrame 0xF0 []) = false ∧
      wellFormed (.unknownKindFrame 0xF1 []) = false ∧ wellFormed (.unknownKindFrame 48 (List.replicate 63 0)) = false ∧
      wellFormed (.unknownKindFrame 0 []) = true ∧ wellFormed (.unknownKindFrame 48 []) = true := by
  decide +kernel

theorem test_wellFormed_refuses_a_good_frame_as_badly_framed :
    wellFormed (.badlyFramedFrame [3, 1, 0] 0) = false ∧ wellFormed (.badlyFramedFrame [] 3) = false ∧
      wellFormed (.badlyFramedFrame [0xF1, 0] 1) = false ∧ wellFormed (.badlyFramedFrame [3, 1, 0] 1) = true ∧
      wellFormed (.badlyFramedFrame [3, 4, 0, 0, 0] 0) = true ∧ wellFormed (.badlyFramedFrame [3] 0) = true ∧
      wellFormed (.badlyFramedFrame (3 :: 63 :: List.replicate 63 0) 0) = true := by
  decide +kernel

theorem test_wellFormed_refuses_a_discarded_window :
    wellFormed (.discardedFrame 0xF0 []) = false ∧ wellFormed (.discardedFrame 3 (List.replicate 63 0)) = false ∧
      wellFormed (.discardedFrame 3 []) = true := by
  decide +kernel

theorem test_wellFormed_refuses_a_run_of_no_length :
    wellFormed (.channelRun { kind := .mark, length := 0 }) = false ∧
      wellFormed (.channelRun { kind := .mark, length := 1 }) = true := by
  decide +kernel

/-! ### Worked figures of the spec -/

theorem test_rounding_of_halves :
    divRound 5 2 = 3 ∧ divRound (-5) 2 = -3 ∧ divRound 24000000 6624000 = 4 ∧ divRound (-32000) 1520 = -21 ∧
      divRoundNat 5 2 = 3 := by
  decide +kernel

theorem test_temperature_of_code_1144 : temperatureOf 1144 = 412 ∧ temperatureOf 0 = -400 ∧ temperatureOf 4095 = 1250 := by
  decide +kernel

theorem test_four_levels_at_412 :
    threshold bank 412 = 37670 ∧ slope bank 412 = 1035 ∧
      computeLevel bank 412 (-420) 38505 = { power := 38505, current := 74453, code := 1489, limited := false } ∧
      computeLevel bank 412 (-420) 11552 = { power := 11552, current := 48411, code := 968, limited := false } ∧
      computeLevel bank 412 (-420) 1540 = { power := 1540, current := 38738, code := 775, limited := false } ∧
      computeLevel bank 412 (-420) 500 = { power := 500, current := 37733, code := 755, limited := false } ∧
      computeLevel { bank with imax := 70000 } 412 (-420) 38505 =
        { power := 38505, current := 70000, code := 1400, limited := true } := by
  decide +kernel

theorem test_apc_of_the_worked_case : apcFall bank 412 500 824 = 4 ∧ apcFall bank 412 500 812 = 2 := by
  decide +kernel

theorem test_peaks_across_the_surface :
    ([10000, 100000, 160000, 190000, 250000, 300000, 400000, 600000].map (fun a =>
      ((recording 0).power .zero a).map Power.peak)) =
      [some 33000, some 34457, some 36000, some 36847, some 38400, none, some 42000, some 44093] := by
  decide +kernel

theorem test_powers_of_block_190000 :
    ((recording 0).power .zero 190000).map (fun p => (p.writeSet 1000, p.writeSet 1045)) =
      some ({ peak := 36847, bias := 11054, cool := 1474 }, { peak := 38505, bias := 11552, cool := 1540 }) := by
  decide +kernel

theorem test_deviation_of_the_long_take :
    deviation 1488 1520 = -21 ∧ steppedCorrection 1040 20 5 (-21) = 1045 ∧ steppedCorrection 1000 20 5 20 = 1000 := by
  decide +kernel

theorem test_fit_of_the_worked_runs :
    fit 0 [(30000, -92), (31500, -61), (33000, -33), (34500, -8), (36000, 17), (37500, 41), (39000, 66)] =
        (.set, some 34980) ∧
      fit 0 [(30000, -40), (33000, 10), (34500, 22)] = (.set, some 32400) ∧
      fit 0 [(30000, -20), (31500, 6), (33000, -3), (34500, 8)] = (.set, some 31154) ∧
      fit 0 [(30000, -90), (31500, -81)] = (.notReached, none) ∧ fit 0 [(30000, 4), (31500, 12)] = (.overshot, none) ∧
      fit 0 [(30000, 10), (31500, -5)] = (.notReached, none) ∧ fit 0 [(39000, -10)] = (.weakSignal, none) := by
  decide +kernel

theorem test_steps_of_the_worked_trial :
    ([(2600, 1201, 1965), (2850, 1110, 1987), (2900, 1100, 1985), (2970, 1080, 1963), (1000, 937, 1)].map (fun x =>
      (TrialStep.close { rtop := ⟨x.1, 1⟩, rbot := ⟨x.2.1, 1⟩, rsum := ⟨x.2.2, 1⟩, result := .unmeasured }).result)) =
      [.beta (-92), .beta (-8), .beta 17, .beta 66, .invalid] := by
  decide +kernel

theorem test_validation_of_the_worked_entry :
    answer (.putStrategy (StrategyFields.bytes ⟨1, 1, ⟨6, 18, 20, -1, 40⟩⟩)) (recording 0) =
      some (.ok, true, [6, 10, 16, 0, 40, 3, 1, 2, 3]) := by
  decide +kernel

theorem test_trains_of_the_four_classes :
    ([17, 18, 28].map (fun x => trainLevel ⟨-2, 20, 6, 0, 10⟩ 2 x)) = [.peak, .cool, .bias] ∧
      ([13, 14, 32, 40, 51, 52].map (fun x => trainLevel ⟨0, 14, 8, 8, 12⟩ 3 x)) =
        [.peak, .bias, .peak, .cool, .cool, .bias] ∧
      ([0, 1, 15, 40, 56, 57, 69].map (fun x => trainLevel ⟨1, 14, 8, 9, 12⟩ 4 x)) =
        [.bias, .peak, .bias, .bias, .peak, .cool, .bias] ∧
      ([2, 16, 47, 48, 56, 73, 74, 86].map (fun x => trainLevel ⟨2, 14, 8, 10, 12⟩ 5 x)) =
        [.peak, .bias, .bias, .peak, .bias, .peak, .cool, .bias] := by
  decide +kernel

theorem test_protected_ranges_of_code_2 :
    ({ code := 2, side := .outer, complement := false } : ProtMap).rangeOn 786432 = .run 761856 786431 ∧
      ({ code := 2, side := .outer, complement := true } : ProtMap).rangeOn 786432 = .run 0 761855 ∧
      ({ code := 2, side := .inner, complement := true } : ProtMap).rangeOn 786432 = .run 24576 786431 ∧
      protLength 1 1025 = 16 ∧ protLength 7 1025 = 1025 := by
  decide +kernel

/-- The rhythm of the slot (chapter 11): a reply stands, a second frame is discarded, a short read keeps the reply and
a whole read removes it. -/
theorem test_rhythm_of_the_slot :
    ([run (.getQueue []) (run (.pause []) (recording 0)),
      run (.replyWindow 16) (run (.getQueue []) (run (.pause []) (recording 0))),
      run (.replyWindow 40) (run (.getQueue []) (run (.pause []) (recording 0)))].map (fun s =>
        (decide (s.cl.slot = .empty), s.cl.discard, s.cl.dataOut.map BitVec.toNat))) =
      [(false, 1, [0, 0]), (false, 1, [29, 16]), (true, 0, [29, 16, 1, 0, 0])] := by
  decide +kernel

/-- A queue too short (chapter 10): a notice that finds the queue full takes NOTICE_OVERFLOW's own notice with it. -/
theorem test_drop_of_two_notices :
    ([Event.positionJump, .noticeOverflow].foldl (fun (u : Eu) e => { u with unmasked := u.unmasked.put e true })
        { (Eu.afterReset .released) with notices := List.replicate 8 (.segmentRefused 1) }).join 8
          (.eventRaised .positionJump none) =
      { (Eu.afterReset .released) with
        unmasked := ((PerEvent.fill false).put .positionJump true).put .noticeOverflow true
        latches := (PerEvent.fill false).put .noticeOverflow true
        notices := List.replicate 8 (.segmentRefused 1)
        dropped := 2 } := by
  decide +kernel

/-! ### What each obligation speaks of: a state and operands for each of its clauses -/

theorem test_StepRunsTheFrontCommand :
    (State.reset.setPending [.startScan [], .disarm []]).pending = .startScan [] :: [.disarm []] ∧
      (match step (State.reset.setPending [.startScan [], .disarm []]) with
        | .next t => t.pending | _ => []) = [.disarm []] := by
  decide +kernel

/-- The tick within a run, at its end with a run ahead, and at its end without one. -/
theorem test_EveryStepAnswersNext :
    (State.reset.pending = [] ∧ State.reset.wgc.gate ≠ .opened) ∧
      ([(30, some (Run.mk .mark 3)), (31, some ⟨.mark, 3⟩), (31, none)].map (fun x =>
        match step ((writingHead 2100).setWsg { (writingHead 2100).wsg with
          now := x.1, run := some ⟨.space, 2, 0⟩, ahead := x.2 }) with
        | .next t => (t.wsg.now, t.wsg.run.map PlacedRun.start, t.ldu.driven)
        | _ => (0, none, .read))) =
        [(31, some 0, .bias), (32, some 32, .peak), (31, some 0, .bias)] := by
  decide +kernel

theorem test_SetPoolSetsTheSplitAndEmptiesTheQueues :
    ((recording 0).takesFrames ∧ (recording 0).mc.mode ≠ .configure ∧ (255 : Nat) < 256) ∧
      (configured.takesFrames ∧ configured.mc.mode = .configure ∧ ((1 : Nat) < 2 ∨ 32 < 1) ∧ ((33 : Nat) < 2 ∨ 32 < 33)) ∧
      answer (.setPool (natBytes 1 1)) configured = some (.badValue, false, []) ∧
      answer (.setPool (natBytes 1 33)) configured = some (.badValue, false, []) ∧
      answer (.setPool (natBytes 1 2)) configured = some (.ok, false, [2, 38, 0]) ∧
      answer (.setPool (natBytes 1 32)) configured = some (.ok, false, [32, 8, 0]) := by
  unfold State.takesFrames
  decide +kernel

theorem test_RequestModeRefusals :
    (standby .rewritable).takesFrames ∧
      answer (.requestMode (ModeFields.bytes ⟨6, none⟩)) (standby .rewritable) = some (.badValue, false, [1, 0]) ∧
      answer (.requestMode (ModeFields.bytes ⟨2, some ⟨0, 0, 1000⟩⟩)) (standby .rewritable) =
        some (.badValue, false, [1, 0]) ∧
      answer (.requestMode (ModeFields.bytes ⟨5, none⟩)) (standby .rewritable) = some (.wrongMode, false, [1, 0]) ∧
      (legalTarget .standby .record = false ∧
        answer (.requestMode (ModeFields.bytes ⟨3, none⟩)) (standby .rewritable) = some (.wrongMode, false, [1, 0])) ∧
      ((configured.setCs { configured.cs with active := none }).targetReady .standby = false ∧
        answer (.requestMode (ModeFields.bytes ⟨1, none⟩)) (configured.setCs { configured.cs with active := none }) =
          some (.wrongMode, false, [0, 0])) ∧
      ((standby .rewritable).ct.disc ≠ none ∧ (standby .rewritable).ct.blocks ≤ 786432 ∧
        answer (.requestMode (ModeFields.bytes ⟨4, some ⟨786432, 0, 1000⟩⟩)) (standby .rewritable) =
          some (.badValue, false, [1, 0]) ∧
        answer (.requestMode (ModeFields.bytes ⟨4, some ⟨786431, 1, 99⟩⟩)) (standby .rewritable) =
          some (.badValue, false, [1, 0]) ∧
        answer (.requestMode (ModeFields.bytes ⟨4, some ⟨786431, 1, 10000⟩⟩)) (standby .rewritable) =
          some (.pending, false, [4, 0]) ∧
        ((standby .rewritable).setCt { (standby .rewritable).ct with disc := some ⟨.rewritable, false, 2000⟩ }).ct.hasSurface
            .one = false ∧
        answer (.requestMode (ModeFields.bytes ⟨4, some ⟨0, 1, 1000⟩⟩)) ((standby .rewritable).setCt
            { (standby .rewritable).ct with disc := some ⟨.rewritable, false, 2000⟩ }) =
          some (.badValue, false, [1, 0])) := by
  unfold State.takesFrames
  and_intros <;> decide +kernel

/-- A request for the current mode without a pending request, its self-test fields among it, and one for FAULT. -/
theorem test_request_for_the_current_mode :
    ((recording 0).takesFrames ∧ (recording 0).mc.request = none) ∧
      answer (.requestMode (ModeFields.bytes ⟨3, none⟩)) (recording 0) = some (.ok, false, [3, 0]) ∧
      answer (.requestMode (ModeFields.bytes ⟨4, some ⟨786432, 2, 0⟩⟩)) ((recording 0).setMc
        { (recording 0).mc with mode := .selftest }) = some (.ok, false, [4, 0]) ∧
      answer (.requestMode (ModeFields.bytes ⟨5, none⟩)) ((recording 0).setMc { (recording 0).mc with mode := .fault }) =
        some (.wrongMode, false, [5, 0]) ∧
      modeBody ((recording 0).setMc { (recording 0).mc with request := some .read }) = [3, 1, 2] := by
  unfold State.takesFrames
  and_intros <;> decide +kernel

theorem test_ModeFields_fit :
    ModeFields.fits ⟨4, some ⟨786432, 0, 1000⟩⟩ ∧ ModeFields.fits ⟨255, none⟩ := by
  refine ⟨⟨by decide, fun x h => ?_⟩, ⟨by decide, fun x h => ?_⟩⟩
  · cases h
    decide
  · cases h

theorem test_RequestModeChangesAtOnce :
    (standby .rewritable).takesFrames ∧
      (legalTarget .standby .read = true ∧ (standby .rewritable).targetReady .read = true ∧
        deferred .standby .read = false ∧ (standby .rewritable).wgc.queue = [] ∧
        (standby .rewritable).tcu.trial = none ∧ (standby .rewritable).room 2) ∧
      (run (.requestMode (ModeFields.bytes ⟨2, none⟩)) (standby .rewritable)).eu.notices =
        [.modeChanged .standby .read] ∧
      (legalTarget .standby .selftest = true ∧
        (run (.requestMode (ModeFields.bytes ⟨4, none⟩)) (standby .rewritable)).pt.genRunning = true) ∧
      ((standby .rewritable).mc.mode = .standby ∧ (standby .rewritable).ct.hasSurface .one = true ∧
        (run (.requestMode (ModeFields.bytes ⟨4, some ⟨786431, 1, 100⟩⟩)) (standby .rewritable)).pt =
          { (standby .rewritable).pt with
            genRunning := true, genSurface := .one, genNext := 786431, genInterval := 100 }) := by
  unfold State.takesFrames State.room State.settled
  decide +kernel

/-- A head of three blocks at block 2100 in this mode, with the gate as its state calls for. -/
def headIn (m : Mode) (state : SegState) (gate : GateState) : State :=
  let s := withHead (segmentAt 2100 state none none) gate (if gate = .idle then none else some .segment) (recording 2099)
  s.setMc { s.mc with mode := m }

/-- What becomes of a segment at a change made at once (R155): out of RECORD and SELFTEST, and into RECORD. -/
theorem test_changes_at_once_act_on_the_queue :
    ((headIn .record .writing .opened).takesFrames ∧ (headIn .record .writing .opened).room 3) ∧
      ([(headIn .record .writing .opened, Mode.configure), (headIn .selftest .waiting .waiting, .standby),
        (headIn .selftest .suspended .idle, .configure)].map (fun x =>
          ((changeMode x.2 SelfTest.usual x.1).eu.outbox.tail.map Posted.notice,
            queueNow (run (.requestMode (ModeFields.bytes ⟨x.2.code, none⟩)) x.1)))) =
        [([.segmentHalted 40 .mode 0 (some 2100), .queueFlushed 1], [], .idle),
         ([.segmentHalted 40 .mode 0 none, .queueFlushed 1], [], .idle), ([.queueFlushed 1], [], .idle)] ∧
      ((headIn .read .queued .idle).runProtected .zero 2100 2102 = false ∧
        (headIn .read .queued .idle).tcu.trial = none ∧ (headIn .read .queued .idle).wgc.user = none) ∧
      ([headIn .read .queued .idle, headIn .read .suspended .idle,
        (headIn .read .queued .idle).setPu { (recording 0).pu with maps := Two.fill ⟨7, .inner, false⟩ }].map (fun s =>
          queueNow (run (.requestMode (ModeFields.bytes ⟨3, none⟩)) s))) =
        [([(.waiting, none)], .waiting), ([(.suspended, none)], .idle), ([], .idle)] := by
  unfold State.takesFrames State.room State.settled
  and_intros <;> decide +kernel

/-- An exit from RECORD with nothing that writes completes as it is asked for (R8). -/
theorem test_exit_completes_when_nothing_writes :
    ((headIn .record .waiting .waiting).stopped = true ∧ (headIn .record .waiting .waiting).settled) ∧
      ([(headIn .record .waiting .waiting, Mode.read), (headIn .record .queued .idle, .read),
        (headIn .record .suspended .idle, .read), (headIn .record .waiting .waiting, .standby)].map (fun x =>
          let t := run (.requestMode (ModeFields.bytes ⟨x.2.code, none⟩)) x.1
          (decide (t.mc.mode = x.2), queueNow t))) =
        [(true, [(.suspended, some .mode)], .idle), (true, [(.suspended, some .mode)], .idle),
         (true, [(.suspended, none)], .idle), (true, [], .idle)] := by
  unfold State.settled
  and_intros <;> decide +kernel

/-- An exit asked for while a segment writes and while a trial runs, asked for twice, and withdrawn. -/
theorem test_ExitFromRecordWaitsAndIsWithdrawn :
    ((writingHead 2100).takesFrames ∧ (writingHead 2100).settled ∧ (writingHead 2100).mc.request = none ∧
        (writingHead 2100).tcu.trial = none ∧
        (trialState .writing 3 .opened 2103).settled ∧ (trialState .writing 3 .opened 2103).wgc.queue = []) ∧
      ([writingHead 2100, trialState .writing 3 .opened 2103,
        (writingHead 2100).setMc { (writingHead 2100).mc with request := some .read }].map (fun s =>
          answer (.requestMode (ModeFields.bytes ⟨1, none⟩)) s)) = List.replicate 3 (some (.pending, false, [3, 1, 1])) ∧
      ((recording 2100).stopped = true ∧
        answer (.requestMode (ModeFields.bytes ⟨1, none⟩))
            ((recording 2100).setMc { (recording 2100).mc with request := some .read }) =
          some (.pending, false, [1, 0])) ∧
      answer (.requestMode (ModeFields.bytes ⟨3, none⟩))
          ((recording 2100).setMc { (recording 2100).mc with request := some .read }) = some (.ok, false, [3, 0]) := by
  unfold State.takesFrames State.settled
  decide +kernel

/-- An exit to this mode is asked for, and the next block's record arrives. -/
def leavingFor (m : Mode) (s : State) : State :=
  run (.positionRecord true .zero s.pt.predicted) (run (.requestMode (ModeFields.bytes ⟨m.code, none⟩)) s)

/-- The exit completes at the boundary that suspends the segment, and at the end of the trial. -/
theorem test_ExitFromRecord_completes :
    ([leavingFor .read (writingHead 2100), leavingFor .standby (writingHead 2100),
      leavingFor .read (trialState .writing 3 .opened 2103), leavingFor .standby (trialState .readWait 7 .waiting 2110)].map
        (fun t => (t.mc.mode, queueNow t))) =
      [(.read, [(.suspended, some .mode)], .idle), (.standby, [], .idle), (.read, [], .idle), (.standby, [], .idle)] := by
  decide +kernel

/-- An INHIBIT mark that a MODE mark hid shows again once the exit is withdrawn (log entry 10). -/
theorem test_withdrawn_exit_shows_the_inhibit_mark :
    ([Instr.requestMode (ModeFields.bytes ⟨2, none⟩), .requestMode (ModeFields.bytes ⟨3, none⟩)].map (fun c =>
      let s := run (.replyWindow 64) (run (.requestMode (ModeFields.bytes ⟨1, none⟩))
        (run (.inhibitLineChange .asserted) (trialState .writeWait 0 .waiting 2100)))
      (run c s).tcu.trial.bind Trial.mark)) = [some .mode, some .inhibit] := by
  decide +kernel

theorem test_MonitorSettingsAreReplaced :
    (configured.takesFrames ∧ configured.mon.scanState = .stopped) ∧
      (run (.setScan (nameListBytes [7, 0])) configured).mon.scanList = [.aux, .fmon] ∧
      ((recording 0).takesFrames ∧ (recording 0).mon.scanState ≠ .stopped ∧ (∀ x ∈ ([255] : List Nat), x < 256)) ∧
      answer (.setScan (nameListBytes [255])) (recording 0) = some (.busy, false, []) ∧
      answer (.setScan (nameListBytes [])) configured = some (.badValue, false, []) ∧
      answer (.setScan (nameListBytes (List.replicate 9 0))) configured = some (.badValue, false, []) ∧
      answer (.setScan (nameListBytes [8])) configured = some (.badValue, false, []) ∧
      answer (.setScan (nameListBytes (List.replicate 8 7))) configured = some (.ok, false, []) ∧
      (nameAt Sign.all 1 = some .minus ∧
        answer (.setOffset (OffsetFields.bytes ⟨7, 1, 31⟩)) configured = some (.ok, false, [31]) ∧
        answer (.setOffset (OffsetFields.bytes ⟨7, 1, 32⟩)) configured = some (.ok, true, [31])) ∧
      answer (.setOffset (OffsetFields.bytes ⟨7, 1, 31⟩)) (recording 0) = some (.busy, false, []) ∧
      answer (.setWindow (WindowFields.bytes ⟨7, 4095, 4095, 1⟩)) (recording 0) = some (.ok, false, []) ∧
      answer (.setWindow (WindowFields.bytes ⟨7, 4095, 4096, 1⟩)) (recording 0) = some (.badValue, false, []) ∧
      answer (.stopScan []) (recording 0) = some (.busy, false, []) ∧
      ((recording 0).setWgc Wgc.afterReset).mon.scanState = .running ∧
      (run (.stopScan []) ((recording 0).setWgc Wgc.afterReset)).mon.scanState = .stopping ∧
      answer (.stopScan []) configured = some (.ok, false, []) := by
  unfold State.takesFrames
  and_intros <;> decide +kernel

theorem test_offsets_and_windows_out_of_range :
    [Instr.setOffset (OffsetFields.bytes ⟨8, 0, 0⟩), .setOffset (OffsetFields.bytes ⟨7, 2, 0⟩),
      .setWindow (WindowFields.bytes ⟨8, 0, 1, 0⟩), .setWindow (WindowFields.bytes ⟨7, 4096, 4096, 0⟩),
      .setWindow (WindowFields.bytes ⟨7, 0, 4096, 0⟩), .setWindow (WindowFields.bytes ⟨7, 2, 1, 0⟩),
      .setWindow (WindowFields.bytes ⟨7, 1, 1, 2⟩)].map (fun c => answer c configured) =
      List.replicate 7 (some (.badValue, false, [])) := by
  decide +kernel

theorem test_StartScanByTheScanState :
    (configured.takesFrames ∧ configured.mon.scanState = .stopped ∧ configured.mon.scanList = []) ∧
      answer (.startScan []) configured = some (.badValue, false, []) ∧
      (run (.startScan []) (configured.setMon { configured.mon with scanList := [.aux] })).mon.inFlight = some .aux ∧
      answer (.startScan []) (recording 0) = some (.ok, false, []) ∧
      answer (.startScan []) ((recording 0).setMon { (recording 0).mon with scanState := .stopping }) =
        some (.busy, false, []) := by
  unfold State.takesFrames
  decide +kernel

theorem test_CompletionIsCorrectedStoredAndJudged :
    configured.mon.inFlight = none ∧
      (awaiting .terr (withWindow .terr 10 900 (recording 0))).mon.inFlight = some .terr ∧
      (run (.conversionComplete 912) (awaiting .terr (withWindow .terr 10 900 (recording 0)))).eu.senses.get 6 =
        .outside ∧
      (run (.conversionComplete 9) (awaiting .terr (withWindow .terr 10 900 (recording 0)))).eu.senses.get 6 =
        .outside ∧
      (run (.conversionComplete 900) (awaiting .terr (withWindow .terr 10 900 (recording 0)))).eu.senses.get 6 =
        .inside ∧
      (run (.conversionComplete 10) (awaiting .terr (withWindow .terr 10 900 (recording 0)))).mon.latest.get 6 = 10 ∧
      (run (.conversionComplete 912) (awaiting .terr (recording 0))).eu.senses.get 6 = .inside := by
  decide +kernel

/-- An entry into the out-of-window condition latches each channel's event and raises it; a value inside, and a value
out while the sense is out already, leave the latch. -/
theorem test_judgements_latch_the_window_events :
    (∀ c ∈ Channel.all, ∀ d ∈ Channel.all,
      (run (.conversionComplete 50) (awaiting c (withWindow c 100 200 (recording 2100)))).eu.latches.get d.event =
        decide (d = c)) ∧
      (run (.conversionComplete 99) (awaiting .aux (withWindow .aux 100 200 ((recording 2100).setEu
        { (recording 2100).eu with unmasked := PerEvent.fill true })))).eu.notices =
          [.eventRaised .winAux (some (.window .outside))] ∧
      ([(WindowSense.inside, (200 : RawCount)), (.outside, 201)].map (fun x =>
        let s := awaiting .aux (withWindow .aux 100 200 (recording 2100))
        (run (.conversionComplete x.2) (s.setEu { s.eu with senses := s.eu.senses.put 7 x.1 })).eu.latches.winAux)) =
        [false, false] := by
  and_intros <;> decide +kernel

theorem test_SamplesAreGathered :
    ((awaiting .rsum (recording 0)).mon.inFlight = some .rsum ∧ (recording 0).mc.request = none) ∧
      (run (.conversionComplete 1520) (awaiting .rsum
        (withHead (segmentAt 2100 .writing none none) .opened (some .segment) (recording 2100)))).wgc.returns =
        { sum := 1520, count := 1 } ∧
      ([Channel.rsum, .rtop, .rbot].map (fun c =>
        ((run (.conversionComplete 7) (awaiting c (withTrial (trialAt .measuring 7) .waiting (recording 0)))).tcu.trial.map
          (fun t => (t.steps.map (fun g => g.rsum.sum + 2 * g.rtop.sum + 4 * g.rbot.sum)))))) =
        [some [0, 0, 0, 0, 0, 0, 7], some [0, 0, 0, 0, 0, 0, 14], some [0, 0, 0, 0, 0, 0, 28]] ∧
      (run (.conversionComplete 7) (awaiting .rtop (withTrial (trialAt .readWait 0) .waiting (recording 0)))).tcu =
        (withTrial (trialAt .readWait 0) .waiting (recording 0)).tcu ∧
      (run (.conversionComplete 7) (awaiting .aux (recording 0))).wgc = (recording 0).wgc := by
  decide +kernel

theorem test_FrontMonitorLightEntersFault :
    ((awaiting .fmon (withWindow .fmon 0 1500 (recording 0))).mon.inFlight = some .fmon ∧
        (withWindow .fmon 0 1500 (recording 0)).mon.correctedValue .fmon 1501 = 1501 ∧
        (recording 0).wgc.gate ≠ .opened ∧ (recording 0).mc.mode ≠ .fault) ∧
      (run (.conversionComplete 1501) (awaiting .fmon (withWindow .fmon 0 1500
        ((recording 0).setLdu { (recording 0).ldu with apcOn := false })))).mc.mode = .fault ∧
      (run (.conversionComplete 1500) (awaiting .fmon (withWindow .fmon 0 1500 (recording 0)))).mc.mode = .record := by
  decide +kernel

/-- APC is off. -/
def noApc (s : State) : State := s.setLdu { s.ldu with apcOn := false }

/-- The queue at an entry into FAULT, by the head's state: a WAITING head is HALTED, and the others are kept. -/
theorem test_fault_keeps_the_queue :
    ((headIn .record .waiting .waiting).room 8 ∧ (withWindow .fmon 0 1500 (recording 0)).mon.outOfWindow .fmon 1501) ∧
      ([(SegState.waiting, GateState.waiting), (.suspended, .idle), (.halted, .idle), (.queued, .idle)].map (fun x =>
        let t := run (.conversionComplete 1501) (noApc (awaiting .fmon (withWindow .fmon 0 1500 (headIn .record x.1 x.2))))
        ((t.mc.mode, t.wgc.arm), queueNow t))) =
        [((.fault, false), ([(.halted, some .fault)], .idle)), ((.fault, false), ([(.suspended, none)], .idle)),
         ((.fault, false), ([(.halted, none)], .idle)), ((.fault, false), ([(.queued, none)], .idle))] ∧
      (let s := trialState .writeWait 0 .waiting 2100
        let t := run (.conversionComplete 1501) (noApc (awaiting .fmon (withWindow .fmon 0 1500 (s.setWgc
          { s.wgc with queue := [segmentAt 2100 .queued none none] }))))
        (t.tcu.trial, queueNow t) = (none, [(.queued, none)], .idle)) := by
  unfold State.room State.settled Mon.outOfWindow
  and_intros <;> decide +kernel

/-- APC_LIMIT is latched by the first update that is held, and by none while the mark is set or where none is held. -/
theorem test_apc_limit_is_latched_once :
    [((-19997 : Int), false), (-19997, true), (-19996, false)].map (fun x =>
      (run (.conversionComplete 824) (awaiting .fmon ((recording 0).setLdu { (recording 0).ldu with
        ioff := x.1, clampMark := x.2 }))).eu.latches.apcLimit) = [true, false, false] := by
  decide +kernel

theorem test_ApcTrimsTheOffset :
    ((awaiting .fmon (recording 0)).mon.inFlight = some .fmon ∧ (recording 0).mc.request = none ∧
        (recording 0).ldu.apcOn = true ∧ (recording 0).cs.characterization = some bank ∧
        (recording 0).mc.mode.laserOff = false ∧ (recording 0).wgc.gate ≠ .opened ∧
        ((recording 0).mon.windows.get Channel.fmon.index).enabled = false) ∧
      (run (.conversionComplete 824) (awaiting .fmon
        ((recording 0).setLdu { (recording 0).ldu with ioff := -420 }))).ldu.ioff = -424 ∧
      ([(-19996 : Int), -19997].map (fun i =>
        ((run (.conversionComplete 824) (awaiting .fmon
          ((recording 0).setLdu { (recording 0).ldu with ioff := i }))).ldu.ioff,
         (run (.conversionComplete 824) (awaiting .fmon
          ((recording 0).setLdu { (recording 0).ldu with ioff := i }))).ldu.clampMark))) =
        [(-20000, false), (-20000, true)] ∧
      (run (.conversionComplete 824) (awaiting .fmon
        ((recording 0).setLdu { (recording 0).ldu with apcOn := false }))).ldu.ioff = 0 ∧
      (run (.conversionComplete 824) (awaiting .fmon
        ((recording 0).setWgc { (recording 0).wgc with gate := .opened }))).ldu.ioff = 0 := by
  decide +kernel

theorem test_TemperatureCompletionActsOnLevelsAndRecords :
    ((awaiting .temp (recording 0)).mon.inFlight = some .temp ∧ (recording 0).mc.request = none) ∧
      (run (.conversionComplete 1144) (awaiting .temp (recording 0))).temperature = 412 ∧
      ([(263 : Int), 262, 261].map (fun c =>
        ((run (.conversionComplete 1144) (awaiting .temp ((recording 0).setCt ((recording 0).ct.putRecord ⟨.zero, .s1, 7⟩
          { state := .valid, fields := some ⟨5000, 1, 1, 0, c, .trial⟩ })))).ct.record ⟨.zero, .s1, 7⟩).state)) =
        [.valid, .valid, .stale] := by
  decide +kernel

theorem test_TrackingSupplyOrPositionHaltsTheSegment :
    ((withWindow .terr 0 900 (recording 2100)).mon.outOfWindow .terr 901 ∧
        (withWindow .vld 2000 4095 (recording 2100)).mon.outOfWindow .vld 1999) ∧
      ([(Channel.terr, SegState.writing, (901 : RawCount)), (.vld, .suspending, 1999)].map (fun x =>
        ((run (.conversionComplete x.2.2) (awaiting x.1 (withWindow .vld 2000 4095 (withWindow .terr 0 900
          (withHead (segmentAt 2100 x.2.1 none none) .opened (some .segment) (recording 2100)))))).wgc.queue.map
            (fun g => (g.state, g.reason, g.damaged)),
         (withHead (segmentAt 2100 x.2.1 none none) .opened (some .segment) (recording 2100)).tcu.trial))) =
        [([(.halted, some .tracking, some 2100)], none), ([(.halted, some .supply, some 2100)], none)] ∧
      (recording 2100).room 2 := by
  unfold Mon.outOfWindow State.room State.settled
  and_intros <;> decide +kernel

/-- A jump to another address, a jump to the other surface, and the fourth invalid record, by the head's state. -/
theorem test_position_lost_halts_the_segment :
    ((recording 2100).losesPosition true .zero 2100 ∧ (recording 2100).losesPosition true .one 2101 ∧
        ((recording 2100).setPt { (recording 2100).pt with coast := 3 }).losesPosition true .zero 786432) ∧
      ([(SegState.writing, true, Surface.zero, 2100), (.suspending, true, .one, 2101), (.waiting, false, .zero, 0),
        (.queued, true, .zero, 2100)].map (fun x =>
          (run (.positionRecord x.2.1 x.2.2.1 x.2.2.2) (withHead (segmentAt 2100 x.1 none none) .opened (some .segment)
            ((recording 2100).setPt { (recording 2100).pt with coast := 3 }))).wgc.queue.map
              (fun g => (g.state, g.reason, g.damaged)))) =
        [[(.halted, some .position, some 2100)], [(.halted, some .position, some 2100)],
         [(.halted, some .position, none)], [(.queued, none, none)]] := by
  unfold State.losesPosition
  and_intros <;> decide +kernel

/-- Every event is unmasked. -/
def announcing (s : State) : State := s.setEu { s.eu with unmasked := PerEvent.fill true }

/-- PT's EVENT_RAISED stands ahead of the SEGMENT_HALTED that its report brings (R28, R177), and a masked event brings
SEGMENT_HALTED alone. -/
theorem test_position_event_precedes_the_halt :
    ((writingHead 2100).room 2 ∧ (announcing (writingHead 2100)).eu.latches.get .positionJump = false ∧
        (announcing (writingHead 2100)).ct.arrival true .zero 5 = some (.zero, 5) ∧
        (announcing (writingHead 2100)).ct.arrival true .zero 786432 = none) ∧
      ((run (.positionRecord true .zero 5) (announcing (writingHead 2100))).eu.notices =
          [.eventRaised .positionJump none, .segmentHalted 40 .position 0 (some 2100)] ∧
        (run (.positionRecord true .zero 5) (writingHead 2100)).eu.notices =
          [.segmentHalted 40 .position 0 (some 2100)]) ∧
      (run (.positionRecord true .zero 786432) (announcing ((writingHead 2100).setPt
          { (writingHead 2100).pt with coast := 3 }))).eu.notices =
        [.eventRaised .positionLost none, .segmentHalted 40 .position 0 (some 2100)] ∧
      (writingHead 2100).pt.report none = .loss .zero 2100 ∧
        (writingHead 2100).pt.report (some (.one, 5)) = .jump .zero 2101 .one 5 := by
  unfold State.room State.settled
  and_intros <;> decide +kernel

theorem test_LaserSettingsAreTaken :
    ((recording 0).takesFrames ∧ (recording 0).cs.characterization = some bank) ∧
      answer (.setReadPower (ReadPowerFields.bytes ⟨1, 65535⟩)) (recording 0) = some (.ok, true, [1, 4, 176]) ∧
      answer (.setReadPower (ReadPowerFields.bytes ⟨0, 99⟩)) (recording 0) = some (.ok, true, [0, 0, 100]) ∧
      answer (.setReadPower (ReadPowerFields.bytes ⟨0, 1200⟩)) (recording 0) = some (.ok, false, [0, 4, 176]) ∧
      State.reset.cs.characterization = none ∧
      answer (.setReadPower (ReadPowerFields.bytes ⟨2, 500⟩)) State.reset = some (.wrongMode, false, []) ∧
      answer (.setReadPower (ReadPowerFields.bytes ⟨2, 500⟩)) (recording 0) = some (.badValue, false, []) ∧
      (run (.setApc (natBytes 1 0)) State.reset).ldu.apcOn = false := by
  unfold State.takesFrames
  decide +kernel

/-- READ, LOCKED, with an Imax that the read power of 500 does not reach and that of 1,200 does. -/
def nearLimit (m : Mode) : State :=
  let s := { recording 0 with
    mc := { (recording 0).mc with mode := m }
    cs := { (recording 0).cs with active := some { bank := .b0, record := { bank with imax := 38500 } } } }
  s.setLdu { s.ldu with levels := s.levelsNow }

/-- CURRENT_LIMIT at an entry into the limited condition: masked, unmasked, and with its latch set already. -/
theorem test_current_limit_is_latched_at_the_entry :
    ((nearLimit .record).takesFrames ∧ (nearLimit .record).room 1) ∧
      ([Mode.read, .record, .selftest, .standby].map (fun m => [500, 1200].map (fun p =>
        (run (.setReadPower (ReadPowerFields.bytes ⟨0, p⟩)) (nearLimit m)).eu.latches.currentLimit))) =
        [[false, true], [false, true], [false, true], [false, false]] ∧
      (run (.setReadPower (ReadPowerFields.bytes ⟨0, 1200⟩)) (announcing (nearLimit .record))).eu.notices =
        [.eventRaised .currentLimit none] ∧
      (run (.setReadPower (ReadPowerFields.bytes ⟨0, 1200⟩)) (trigger .currentLimit (nearLimit .record))).eu =
        (trigger .currentLimit (nearLimit .record)).eu := by
  unfold State.takesFrames State.room State.settled
  and_intros <;> decide +kernel

/-- The conversion of a write power set in RECORD, in SELFTEST, where READ drives every level, and in STANDBY. -/
theorem test_levels_convert_by_the_mode :
    [Mode.record, .selftest, .standby].map (fun m =>
      let s := (recording 0).setLdu { (recording 0).ldu with writeSet := some { peak := 30000, bias := 9300, cool := 0 } }
      let l := (s.setMc { s.mc with mode := m }).levelsNow
      [l.read.code, l.peak.code, l.bias.code, l.cool.code]) =
    [[763, 1333, 933, 0], [763, 763, 763, 763], [0, 0, 0, 0]] := by
  decide +kernel

theorem test_QueriesAnswerAndChangeNothing :
    (recording 0).takesFrames ∧
      ([Instr.getSamples [], .getLaser [], .getCal [0, 1, 1, 7], .getCal [0, 1, 0], .getTrial [], .getStrategy [0],
        .getStrategy [1, 1], .getQueue [], .getProtect [], .getEvents [], .getStatus [], .getIdent []].map (fun c =>
          (answer c (recording 0)).map (fun r => (r.1, r.2.2.length)))) =
        [some (.ok, 42), some (.ok, 55), some (.ok, 14), some (.ok, 150), some (.ok, 11), some (.ok, 6),
         some (.ok, 30), some (.ok, 16), some (.ok, 10), some (.ok, 48), some (.ok, 16), some (.ok, 37)] := by
  unfold State.takesFrames
  decide +kernel

/-- The fields of bodies, one of each kind, and the refusals of the two queries that carry fields. -/
theorem test_bodies_carry_their_fields :
    (answer (.getSamples []) (run (.conversionComplete 1144) (awaiting .aux (recording 0)))).map (fun r =>
        (r.2.2.take 10, r.2.2.drop 38)) = some ([1, 8, 1, 6, 2, 3, 0, 4, 5, 7], [4, 120, 0, 1]) ∧
      (answer (.getQueue []) (withHead
          { segmentAt 2100 .halted (some .tracking) (some 2101) with done := 1 } .idle none (recording 0))).map (fun r => r.2.2.drop 14) =
        some ([1, 0, 40, 0, 0, 0, 8, 52, 0, 8, 54, 0, 8, 53, 0, 1, 0, 2, 5, 3, 8, 0, 8, 53] ++ [0]) ∧
      (answer (.getEvents []) (trigger .rpcLimit (announcing (recording 0)))).map (fun r => r.2.2.take 20) =
        some ([0, 0, 0, 0, 0, 0, 0, 0, 0, 0, 0, 0, 1, 0, 0, 0, 0, 0] ++ [1, 1]) ∧
      [Instr.getCal [2, 0, 0], .getCal [0, 4, 0], .getCal [1, 3, 1, 8], .getStrategy [1, 4]].map (fun c =>
        answer c (recording 0)) = List.replicate 4 (some (.badValue, false, [])) := by
  and_intros <;> decide +kernel

theorem test_DiscAndZonesAreSet :
    ((standby .rewritable).takesFrames ∧ (standby .rewritable).ct.hasSurface .one = true ∧
        (standby .rewritable).ct.blocks ≤ 1048576) ∧
      ([1023, 1024, 1048576, 1048577].map (fun n =>
        (answer (.setDisc (DiscFields.bytes ⟨1, 2, n⟩)) ((standby .rewritable).setCt Ct.afterReset)).map Prod.fst)) =
        [some .badValue, some .ok, some .ok, some .badValue] ∧
      ([⟨2, 1, 2000⟩, ⟨0, 0, 2000⟩, ⟨0, 3, 2000⟩, ⟨0, 1, 2000⟩].map (fun f : DiscFields =>
        (answer (.setDisc f.bytes) ((standby .rewritable).setCt Ct.afterReset)).map Prod.fst)) =
        [some .badValue, some .badValue, some .badValue, some .ok] ∧
      (answer (.setDisc (DiscFields.bytes ⟨1, 2, 2000⟩)) (recording 0)).map Prod.fst = some .wrongMode ∧
      ([2000, 1023].map (fun n =>
        (answer (.setDisc (DiscFields.bytes ⟨1, 2, n⟩)) (standby .rewritable)).map Prod.fst)) = [some .busy, some .busy] ∧
      answer (.setZones (ZoneFields.bytes ⟨0, zones⟩)) (standby .rewritable) = some (.ok, false, [0]) ∧
      answer (.setZones (ZoneFields.bytes ⟨0, { zones with t7 := 786431 }⟩)) (standby .rewritable) =
        some (.ok, false, [7]) ∧
      ([⟨0, { zones with t7 := 786432 }⟩, ⟨1, { zones with t0 := 1 }⟩, ⟨1, { zones with t3 := 120000 }⟩,
        ⟨2, zones⟩].map (fun f : ZoneFields => (answer (.setZones f.bytes) (standby .rewritable)).map Prod.fst)) =
        [some .badValue, some .badValue, some .badValue, some .badValue] ∧
      (answer (.setZones (ZoneFields.bytes ⟨0, zones⟩)) ((standby .rewritable).setCt Ct.afterReset)).map Prod.fst =
        some .wrongMode := by
  unfold State.takesFrames
  decide +kernel

theorem test_DiscUnloadClearsWhatTheDiscBound :
    (recording 0).mc.mode ≠ .standby ∧
      ([Lock.opened, .line, .session, .power].map (fun l =>
        ((run (.discUnload []) ((standby .writeOnce).setPu { (standby .writeOnce).pu with
          lock := l, maps := Two.fill { code := 2, side := .outer, complement := false } })).pu.lock,
         (run (.discUnload []) ((standby .writeOnce).setPu { (standby .writeOnce).pu with
          lock := l, maps := Two.fill { code := 2, side := .outer, complement := false } })).pu.maps.t0.code))) =
        [(.opened, 0), (.line, 0), (.opened, 0), (.power, 2)] := by
  decide +kernel

theorem test_RecordsArePutAndInvalidated :
    ((recording 0).takesFrames ∧ (recording 0).mc.mode = .record ∧ (recording 0).ct.hasSurface .zero = true ∧
        ((recording 0).ct.record ⟨.zero, .s2, 7⟩).state ≠ .trial) ∧
      (answer (.putCal (PutCalFields.bytes ⟨⟨0, 1, 7⟩, 80001, 1000, 0, -200⟩)) (recording 0)) =
        some (.ok, true, [1, 56, 128, 3, 232, 0, 0, 255, 56, 2, 1, 156, 1]) ∧
      ((run (.putCal (PutCalFields.bytes ⟨⟨0, 1, 7⟩, 1000, 1000, 1000, 200⟩)) (recording 0)).ct.record ⟨.zero, .s2, 7⟩).state =
        .valid ∧
      answer (.invalidateCal (KeyFields.bytes ⟨0, 1, 5⟩)) (recording 0) = some (.ok, false, [3]) ∧
      ([Instr.putCal (PutCalFields.bytes ⟨⟨0, 1, 0⟩, 1000, 1, 1, 1⟩), .invalidateCal (KeyFields.bytes ⟨0, 1, 0⟩)].map
        (fun c => answer c (withTrial (trialAt .readWait 0) .waiting (recording 0)))) =
        [some (.busy, false, []), some (.busy, false, [])] := by
  unfold State.takesFrames
  decide +kernel

/-- The checks of R80 in their order: mode, disc, key, TRIAL, and the ranges of PUT_CAL. -/
theorem test_records_are_refused_by_check :
    ([configured, (standby .rewritable).setCt Ct.afterReset].map (fun s =>
      [Instr.putCal (PutCalFields.bytes ⟨⟨0, 1, 0⟩, 1000, 1, 1, 1⟩), .invalidateCal [2, 9, 9]].map (fun c => answer c s))) =
        List.replicate 2 (List.replicate 2 (some (.wrongMode, false, []))) ∧
      ([⟨2, 0, 0⟩, ⟨0, 4, 0⟩, ⟨0, 0, 8⟩].map (fun k : KeyFields =>
        [Instr.putCal (PutCalFields.bytes ⟨k, 1000, 1, 1, 1⟩), .invalidateCal k.bytes].map (fun c =>
          answer c (recording 0)))) = List.replicate 3 (List.replicate 2 (some (.badValue, false, []))) ∧
      ([(1001, 0, (0 : Int)), (0, 1001, 0), (0, 0, 201), (0, 0, -201)].map (fun x =>
        [recording 0, withTrial (trialAt .readWait 0) .waiting (recording 0)].map (fun s =>
          (answer (.putCal (PutCalFields.bytes ⟨⟨0, 1, 0⟩, 1000, x.1, x.2.1, x.2.2⟩)) s).map Prod.fst))) =
        List.replicate 4 [some .badValue, some .busy] := by
  and_intros <;> decide +kernel

theorem test_WaitingCountsBoundaries :
    ((recording 2080).holdsPosition ∧ (recording 2080).settled ∧ (recording 2080).room 1 ∧
        (recording 2080).pt.predicted ≠ 2100 ∧ (recording 2080).wgc.waitLimit = 4096) ∧
      ([(true, 4095), (false, 4095), (true, 4096), (false, 4096)].map (fun x =>
        let s := run (.positionRecord x.1 .zero 2081) ((withHead (segmentAt 2100 .waiting none none) .waiting
          (some .segment) ((recording 2080).setWgc { (recording 2080).wgc with wait := x.2 })))
        (s.wgc.wait, queueNow s))) =
        [(4096, [(.waiting, none)], .waiting), (4096, [(.waiting, none)], .waiting),
         (4097, [(.halted, some .startNotFound)], .idle), (4097, [(.halted, some .startNotFound)], .idle)] ∧
      ((trialState .writeWait 0 .waiting 2090).headOffGate ∧
        [(SubState.writeWait, true, 4095), (.readWait, false, 4095), (.writeWait, true, 4096), (.readWait, false, 4096)].map
          (fun x =>
            let s := run (.positionRecord x.2.1 .zero 2090) (withTrial { trialAt x.1 0 with wait := x.2.2 } .waiting
              (recording 2089))
            (s.tcu.trial.map Trial.wait, (s.ct.record ⟨.zero, .s2, 0⟩).state, s.wgc.gate)) =
        [(some 4096, .trial, .waiting), (some 4096, .trial, .waiting), (none, .valid, .idle), (none, .valid, .idle)]) := by
  unfold State.holdsPosition State.room State.settled State.headOffGate
  and_intros <;> decide +kernel

theorem test_EveryBlockLiesInOneZone :
    startsGood zones 786432 = true ∧ (786431 < 786432) ∧ zoneOf zones 786431 = 7 ∧ zoneOf zones 0 = 0 ∧
      zoneOf zones 119999 = 1 ∧ zoneOf zones 120000 = 2 := by
  decide +kernel

theorem test_PowerRequestInterpolates :
    ((recording 0).ct.zones.get .zero = some zones ∧ startsGood zones (recording 0).ct.blocks = true) ∧
      (((recording 0).ct.record ⟨.zero, .s2, 4⟩).usable = none ∧ zoneOf zones 300000 = 4 ∧
        (recording 0).ct.powerFor .s2 .zero 300000 = none) ∧
      (State.reset.ct.zones.get .zero = none ∧ State.reset.ct.powerFor .s2 .zero 0 = none) ∧
      ([29999, 708216, 245000, 444999, 159999].map (fun a =>
          (decide (a < zoneCentre zones 786432 (zoneOf zones a)), zoneOf zones a)) =
        [(true, 0), (false, 7), (false, 3), (true, 5), (true, 2)]) ∧
      (((recording 0).ct.record ⟨.zero, .s2, 1⟩).usable.isSome = true ∧
        ((recording 0).ct.powerFor .s2 .zero 159999).map Power.peak = some 36000) := by
  decide +kernel

theorem test_SetTestAreaSetsThePointer :
    (standby .rewritable).takesFrames ∧
      ([15, 16, 4096, 4097].map (fun n =>
        (answer (.setTestArea (AreaFields.bytes ⟨0, 786432 - n, n⟩)) (standby .rewritable)).map Prod.fst)) =
        [some .badValue, some .ok, some .ok, some .badValue] ∧
      (answer (.setTestArea (AreaFields.bytes ⟨1, 786417, 16⟩)) (reading 5)).map Prod.fst = some .badValue ∧
      (answer (.setTestArea (AreaFields.bytes ⟨2, 0, 16⟩)) (reading 5)).map Prod.fst = some .badValue ∧
      (answer (.setTestArea (AreaFields.bytes ⟨0, 0, 16⟩)) (recording 5)).map Prod.fst = some .wrongMode ∧
      (answer (.setTestArea (AreaFields.bytes ⟨0, 0, 16⟩)) ((standby .rewritable).setCt Ct.afterReset)).map Prod.fst =
        some .wrongMode := by
  unfold State.takesFrames
  decide +kernel

theorem test_CalibrateBeginsATrial :
    ((recording 2080).takesFrames ∧ (recording 2080).mc.mode = .record ∧ (recording 2080).wgc.gate = .idle ∧
        (recording 2080).pu.sense = .released ∧ (recording 2080).wsg.complete .s2 = true ∧
        (recording 2080).mon.serves [.rsum, .rtop, .rbot, .terr] = true) ∧
      answer (.calibrate (CalibrateFields.bytes ⟨0, 0, 7, 71000, 1500, some 0, some 310, some 40⟩)) (recording 2080) =
        some (.pending, false, [0, 1, 0, 0, 8, 52, 7, 0, 0, 1, 54, 0, 40]) ∧
      ((recording 2080).ct.record ⟨.zero, .s2, 1⟩ = valid 34200 305 40 ∧
        answer (.calibrate (CalibrateFields.bytes ⟨0, 1, 7, 30000, 1500, none, none, some 50⟩)) (recording 2080) =
          some (.pending, false, [0, 1, 1, 0, 8, 52, 7, 0, 0, 1, 49, 0, 50])) ∧
      (((recording 2080).ct.record ⟨.zero, .s2, 4⟩).state = .empty ∧
        ([(some 0, some 310, none), (some 0, none, some 40), (none, some 310, some 40), (some (0 : Int), some 310, some 40)].map
          (fun x => (answer (.calibrate (CalibrateFields.bytes ⟨0, 4, 7, 30000, 1500, x.1, x.2.1, x.2.2⟩))
            (recording 2080)).map Prod.fst)) =
          [some .noCalibration, some .noCalibration, some .noCalibration, some .pending]) ∧
      (answer (.calibrate (CalibrateFields.bytes ⟨0, 0, 7, 71001, 1500, some 0, some 310, some 40⟩)) (recording 2080)).map Prod.fst =
        some .badValue ∧
      (answer (.calibrate (CalibrateFields.bytes ⟨255, 0, 7, 30000, 1500, none, none, none⟩)) (reading 5)).map Prod.fst =
        some .wrongMode ∧
      ([CalibrateFields.mk 2 0 7 30000 1500 none none none, ⟨0, 8, 7, 30000, 1500, none, none, none⟩,
        ⟨0, 0, 4, 30000, 1500, none, none, none⟩, ⟨0, 0, 16, 30000, 1500, none, none, none⟩,
        ⟨0, 0, 7, 999, 1500, none, none, none⟩, ⟨0, 0, 7, 80001, 1500, none, none, none⟩,
        ⟨0, 0, 7, 30000, 99, none, none, none⟩, ⟨0, 0, 7, 30000, 5001, none, none, none⟩,
        ⟨0, 0, 7, 30000, 1500, some (-201), none, none⟩, ⟨0, 0, 7, 30000, 1500, some 201, none, none⟩,
        ⟨0, 0, 7, 30000, 1500, none, some 1001, none⟩, ⟨0, 0, 7, 30000, 1500, none, none, some 1001⟩].map (fun f =>
          (answer (.calibrate f.bytes) (recording 2080)).map Prod.fst)) = List.replicate 12 (some .badValue) ∧
      ([(recording 2080).setWgc { (recording 2080).wgc with gate := .opened },
        (recording 2080).setPu { (recording 2080).pu with sense := .asserted },
        (recording 2080).setTcu Tcu.afterReset,
        (recording 2080).setTcu { areas := Two.fill (some ⟨2000, 1024, 3018⟩), trial := none },
        (recording 2080).setPu { (recording 2080).pu with maps := Two.fill ⟨7, .inner, false⟩ },
        (recording 2080).setWsg { (recording 2080).wsg with speed := .s1 },
        (recording 2080).setMon { (recording 2080).mon with scanState := .stopping }].map (fun s =>
          (answer (.calibrate (CalibrateFields.bytes ⟨0, 0, 7, 30000, 1500, some 0, some 310, some 40⟩)) s).map Prod.fst)) =
        [some .busy, some .inhibited, some .testAreaFull, some .testAreaFull, some .isProtected, some .noStrategy,
         some .scanRequired] := by
  unfold State.takesFrames
  and_intros <;> decide +kernel

theorem test_AbortsEndTheTrial :
    ((recording 0).takesFrames ∧ (recording 0).tcu.trial = none) ∧
      answer (.abortCal []) (recording 0) = some (.nothingPending, false, []) ∧
      ((trialState .writing 3 .opened 2103).mc.request = none ∧ (trialState .writing 3 .opened 2103).wgc.queue = [] ∧
        (trialState .writing 3 .opened 2103).room 1) ∧
      answer (.abortCal []) (trialState .writing 3 .opened 2103) = some (.ok, false, [0, 1, 0, 0, 8, 52, 0]) ∧
      ((trialState .readWait 7 .waiting 2110).losesPosition true .one 0 ∧ (trialState .writeWait 0 .waiting 2100).holdsPosition) ∧
      ([run (.positionRecord true .one 0) (trialState .readWait 7 .waiting 2110),
        run (.positionRecord true .zero 2100) (run (.inhibitLineChange .asserted) (trialState .writeWait 0 .waiting 2100)),
        run (.positionRecord true .zero 2103) (run (.inhibitLineChange .asserted) (trialState .writing 3 .opened 2103))].map
          (fun s => (s.tcu.trial, (s.ct.record ⟨.zero, .s2, 0⟩).state, s.wgc.gate, s.eu.notices.map (fun n => match n with
            | .calDone d => d.reason
            | _ => none)))) =
        [(none, .valid, .idle, [some .position]), (none, .valid, .idle, [some .inhibit]),
         (none, .valid, .idle, [some .inhibit])] := by
  unfold State.takesFrames State.room State.settled State.losesPosition State.holdsPosition
  and_intros <;> decide +kernel

/-- TERR and VLD out of window and front-monitor light by the sub-state, and a change to CONFIGURE (R109). -/
theorem test_aborts_by_the_monitor_and_the_mode :
    ((withWindow .terr 0 900 (recording 2100)).mon.outOfWindow .terr 901 ∧
        (trialState .measuring 3 .waiting 2103).wgc.queue = [] ∧ (trialState .measuring 3 .waiting 2103).room 6 ∧
        (trialState .measuring 3 .waiting 2103).wgc.gate ≠ .opened) ∧
      ([(Channel.terr, SubState.writing), (.terr, .measuring), (.terr, .writeWait), (.vld, .writing), (.vld, .measuring)].map (fun x =>
          let s := awaiting x.1 (withWindow x.1 0 900 (trialState x.2 3 (if x.2 = .writing then .opened else .waiting) 2103))
          (run (.conversionComplete 4000) s).eu.notices.filterMap (fun n => match n with
            | .calDone d => d.reason
            | _ => none))) =
        [[.tracking], [.tracking], [], [.supply], []] ∧
      (let s := awaiting .fmon (withWindow .fmon 0 900 (trialState .measuring 3 .waiting 2103))
       (run (.conversionComplete 4000) (s.setLdu { s.ldu with apcOn := false })).tcu.trial = none) ∧
      (let t := run (.requestMode (ModeFields.bytes ⟨0, none⟩)) (trialState .writing 3 .opened 2103)
       t.tcu.trial = none ∧ (t.ct.record ⟨.zero, .s2, 0⟩).state = .valid ∧ t.mc.mode = .configure) := by
  unfold Mon.outOfWindow State.room State.settled
  and_intros <;> decide +kernel

/-- At the release a QUEUED head that is not protected takes the gate; a SUSPENDED or HALTED one stays so. -/
theorem test_release_grants_the_gate :
    ((trialState .writing 3 .opened 2103).takesFrames ∧ (trialState .writing 3 .opened 2103).room 1 ∧
        (trialState .writing 3 .opened 2103).runProtected .zero 5000 5002 = false) ∧
      ([SegState.queued, .suspended, .halted].map (fun x =>
        let s := trialState .writing 3 .opened 2103
        let t := run (.abortCal []) (s.setWgc { s.wgc with queue := [segmentAt 5000 x none none] })
        (queueNow t, t.wgc.user, t.eu.notices.map Notice.kind))) =
        [(([(.waiting, none)], .waiting), some .segment, [7]), (([(.suspended, none)], .idle), none, [7]),
         (([(.halted, none)], .idle), none, [7])] := by
  unfold State.takesFrames State.room State.settled
  and_intros <;> decide +kernel

/-- CAL_DONE joins before the SEGMENT_REFUSED that WGC generates when the gate is released (R107, R177). -/
theorem test_calDone_precedes_a_refused_segment :
    ((run (.abortCal []) ((trialState .writing 3 .opened 2103).setPu
      { (recording 0).pu with maps := Two.fill ⟨7, .inner, false⟩ } |>.setWgc
        { (trialState .writing 3 .opened 2103).wgc with queue := [segmentAt 5000 .queued none none] })).eu.notices.map
          Notice.kind) = [7, 5] := by
  decide +kernel

theorem test_TrialWritesStepByStep :
    ((trialState .writeWait 0 .waiting 2100).headOffGate ∧ (trialState .writeWait 0 .waiting 2100).holdsPosition ∧
        (trialAt .writeWait 0).mark = none ∧ (recording 2099).tcu.areas.get .zero = some ⟨2000, 1024, 2100⟩ ∧
        (recording 2099).pt.predicted = 2100 ∧ (trialAt .writing 6).index < (trialAt .writing 6).steps.length) ∧
      (run (.positionRecord true .zero 2100) (trialState .writeWait 0 .waiting 2100)).ldu.writeSet =
        some { peak := 30000, bias := 9300, cool := 1200 } ∧
      (run (.positionRecord true .zero 2100) ((trialState .writeWait 0 .waiting 2100).setPu
        { (recording 0).pu with sense := .asserted })).wgc.gate = .idle ∧
      (run (.positionRecord true .zero 2106) (trialState .writing 6 .opened 2106)).ldu.writeSet =
        some { peak := 39000, bias := 12090, cool := 1560 } ∧
      ((run (.positionRecord true .zero 2106) (trialState .writing 6 .opened 2106)).tcu.areas.get .zero) =
        some ⟨2000, 1024, 2107⟩ := by
  unfold State.headOffGate State.holdsPosition
  and_intros <;> decide +kernel

/-- The trial of the worked case before the boundary that closes its last step. -/
def measured (rsum : Nat) : Trial :=
  { trialAt .measuring 7 with
    steps := [-92, -61, -33, -8, 17, 41].map (fun b => { TrialStep.fresh with result := .beta b }) ++
      [{ rtop := ⟨2970, 1⟩, rbot := ⟨1080, 1⟩, rsum := ⟨rsum, 1⟩, result := .unmeasured }] }

/-- The end of WRITING, the start and a step of MEASURING, and the fit with its two ends. -/
theorem test_TrialReadsAndEnds :
    ((trialState .writing 7 .opened 2107).holdsPosition ∧ (trialState .writing 7 .opened 2107).headOffGate ∧
        (trialState .readWait 7 .waiting 2100).room 1) ∧
      ([trialState .writing 7 .opened 2107, trialState .readWait 7 .waiting 2100, trialState .measuring 3 .waiting 2103].map
        (fun s => (run (.positionRecord true .zero s.pt.predicted) s).tcu.trial.map (fun x => (x.sub, x.index)))) =
        [some (.readWait, 7), some (.measuring, 1), some (.measuring, 4)] ∧
      (fit 0 (validSteps { measured 1963 with steps := (measured 1963).steps.modify 6 TrialStep.close }.results) =
          (.set, some 34980) ∧
        ((run (.positionRecord true .zero 2107) (withTrial (measured 1963) .waiting (recording 2106))).ct.record
          ⟨.zero, .s2, 0⟩) = { state := .valid, fields := some ⟨34980, 310, 40, 0, 412, .trial⟩ }) ∧
      ((run (.positionRecord true .zero 2106) (trialState .measuring 7 .waiting 2106)).ct.record ⟨.zero, .s2, 0⟩) =
        (trialAt .measuring 7).saved := by
  unfold State.headOffGate State.holdsPosition State.room State.settled
  and_intros <;> decide +kernel

theorem test_StepsAreClosedAndFitted :
    NoRise 0 ([] ++ [(30000, -1)]) ∧ NoRise 0 [(30000, 5), (31500, -5)] := by
  constructor
  all_goals
    intro before x y after h
    match before, h with
    | [], h => simp at h; try (obtain ⟨rfl, rfl, -⟩ := h; decide)
    | [_], h => simp at h
    | _ :: _ :: _, h => simp at h

/-- A COASTED boundary ends a step of WRITING and of MEASURING, and the last block, and begins no phase (R100). -/
theorem test_coasted_boundaries_carry_a_trial :
    ((trialState .writing 3 .opened 2103).passesBoundary false ∧ (trialState .writing 3 .opened 2103).passesBoundary true) ∧
      ([trialState .writing 3 .opened 2103, trialState .writing 7 .opened 2107, trialState .measuring 3 .waiting 2103,
        trialState .writeWait 0 .waiting 2100].map
          (fun s => (run (.positionRecord false .zero 0) s).tcu.trial.map (fun x => (x.sub, x.index, x.wait)))) =
        [some (.writing, 4, 0), some (.readWait, 7, 0), some (.measuring, 4, 0), some (.writeWait, 0, 1)] := by
  unfold State.passesBoundary State.holdsPosition
  and_intros <;> decide +kernel

theorem test_SpeedAndStrategyAreSet :
    ((standby .rewritable).takesFrames ∧ (standby .rewritable).wgc.queue = [] ∧ (standby .rewritable).tcu.trial = none) ∧
      answer (.setSpeed (natBytes 1 3)) (standby .rewritable) = some (.ok, false, [3, 0]) ∧
      answer (.setSpeed (natBytes 1 4)) (standby .rewritable) = some (.badValue, false, []) ∧
      ([0, 4].map (fun n => answer (.setSpeed (natBytes 1 n)) (withTrial (trialAt .readWait 0) .waiting (recording 0)))) =
        [some (.busy, false, []), some (.badValue, false, [])] ∧
      (StrategyEntry.fits ⟨-128, 127, 0, 0, 0⟩ ∧
        answer (.putStrategy (StrategyFields.bytes ⟨0, 0, ⟨-128, 127, 0, 0, 0⟩⟩)) (standby .rewritable) =
          some (.ok, true, [248, 32, 4, 0, 0, 3, 0, 1, 2]) ∧
        answer (.putStrategy (StrategyFields.bytes ⟨3, 3, ⟨8, 8, 4, 16, 40⟩⟩)) (standby .rewritable) =
          some (.ok, false, [8, 8, 4, 16, 40, 0]) ∧
        answer (.putStrategy (StrategyFields.bytes ⟨4, 3, ⟨8, 8, 4, 16, 40⟩⟩)) (standby .rewritable) =
          some (.badValue, false, [])) := by
  unfold State.takesFrames StrategyEntry.fits StrategyEntry.fields
  and_intros <;> decide +kernel

/-- The gate open for a segment, its stream at a run of two spaces with this run ahead. -/
def streaming (now : Nat) (run : Option PlacedRun) (ahead : Option Run) : State :=
  (writingHead 2100).setWsg { (writingHead 2100).wsg with now := now, run := run, ahead := ahead }

theorem test_StreamAndPatternAreLaidOut :
    ((writingHead 2100).lines.encoderReady = true ∧ (writingHead 2100).wsg.run = none ∧
        (writingHead 2100).wsg.train = none ∧ (writingHead 2100).streamLive = true ∧
        ((writingHead 2100).wsg.entries.get (writingHead 2100).wsg.speed.index).get (markClass 5).index =
          some ⟨2, 14, 8, 10, 12⟩) ∧
      (run (.channelRun ⟨.mark, 5⟩) (writingHead 2100)).wsg.train.map Train.length = some 5 ∧
      ([Run.mk .mark 3, ⟨.space, 3⟩].map (fun r => (run (.channelRun r) (writingHead 2100)).ldu.driven)) = [.peak, .bias] ∧
      ([none, some (Run.mk .space 3)].map (fun a =>
        let w := (run (.channelRun ⟨.mark, 4⟩) (streaming 5 (some ⟨.space, 2, 0⟩) a)).wsg
        (w.run.map PlacedRun.start, w.ahead.map Run.length))) = [(some 0, some 4), (some 32, some 4)] ∧
      ([29, 28].map (fun n => match step (streaming n (some ⟨.space, 2, 0⟩) (some ⟨.mark, 2⟩)) with
        | .next t => t.wsg.train.map Train.start
        | _ => none)) = [some 30, none] ∧
      (run (.encoderReadyChange false) (run (.channelRun ⟨.mark, 3⟩) (writingHead 2100))).ldu.driven = .bias ∧
      (run (.encoderReadyChange true) (run (.encoderReadyChange false) (writingHead 2100))).lines.encoderReady = true ∧
      ((recording 2100).wgc.gate ≠ .opened ∧
        (run (.encoderReadyChange false) (recording 2100)).lines.encoderReady = false) ∧
      (run .trialPatternRun (run (.positionRecord true .zero 2100) (trialState .writeWait 0 .waiting 2100))).wsg.run =
        some ⟨.space, 2, 32⟩ := by
  decide +kernel

/-- A train that begins with its run, one that the rise of the ready line begins, and one that it does not. -/
theorem test_trains_begin_with_the_run_and_at_the_rise :
    ((streaming 31 (some ⟨.space, 2, 0⟩) (some ⟨.mark, 5⟩)).wsg.train = none ∧
        (streaming 31 (some ⟨.space, 2, 0⟩) (some ⟨.mark, 5⟩)).pending = []) ∧
      (match step (streaming 31 (some ⟨.space, 2, 0⟩) (some ⟨.mark, 5⟩)) with
        | .next t => (t.wsg.train.map Train.start, t.wsg.now, t.ldu.driven)
        | _ => (none, 0, .read)) = (some 32, 32, .bias) ∧
      ([31, 29].map (fun n =>
        let s := streaming n (some ⟨.space, 2, 0⟩) (some ⟨.mark, 2⟩)
        (run (.encoderReadyChange true) (s.setLines { s.lines with encoderReady := false })).wsg.train.map Train.start)) =
        [some 31, none] := by
  decide +kernel

theorem test_ArmAndDisarmTheLatch :
    ((recording 0).takesFrames ∧ (recording 0).mc.mode = .record ∧ (recording 0).pu.sense = .released ∧
        Channel.terr ∈ (recording 0).mon.scanList ∧ Channel.rsum ∈ (recording 0).mon.scanList) ∧
      answer (.arm []) (recording 0) = some (.ok, false, [1]) ∧ answer (.disarm []) (recording 0) = some (.ok, false, [0]) ∧
      answer (.arm []) (reading 0) = some (.wrongMode, false, [0]) ∧
      answer (.arm []) ((recording 0).setPu { (recording 0).pu with sense := .asserted }) =
        some (.inhibited, false, [1]) ∧
      ([[Channel.terr], [.rsum], []].map (fun l =>
        (answer (.arm []) ((recording 0).setMon { (recording 0).mon with scanList := l })).map Prod.fst)) =
        [some .scanRequired, some .scanRequired, some .scanRequired] := by
  unfold State.takesFrames
  decide +kernel

theorem test_SegmentJoinsTheQueue :
    ((recording 2080).takesFrames ∧ (recording 2080).settled ∧
        (recording 2080).wgc.startFor .fresh .zero (some 786176) = some 786176 ∧
        (recording 2080).runProtected .zero 786176 786431 = false) ∧
      answer (.segment (SegmentFields.bytes ⟨40, 0, 0, 256, some 786176⟩)) (recording 2080) =
        some (.ok, false, [0, 40, 0, 11, 255, 0, 11, 255, 255, 1, 1]) ∧
      ((withHead (segmentAt 2100 .halted (some .tracking) none) .idle none (recording 2080)).wgc.startFor .append .zero none =
          some 2103 ∧
        answer (.segment (SegmentFields.bytes ⟨40, 0, 1, 1, none⟩))
            (withHead (segmentAt 2100 .halted (some .tracking) none) .idle none (recording 2080)) =
          some (.ok, false, [0, 40, 0, 0, 8, 55, 0, 8, 55, 2, 0])) := by
  unfold State.takesFrames State.settled
  decide +kernel

/-- A SEGMENT into an empty queue behind a trial: QUEUED, or SUSPENDED where an exit waits for the trial. -/
theorem test_segment_behind_a_trial :
    ((trialState .readWait 7 .waiting 2110).takesFrames ∧ (trialState .readWait 7 .waiting 2110).stopped = false ∧
        (trialState .readWait 7 .waiting 2110).room 1 ∧ (trialState .readWait 7 .waiting 2110).wgc.gate ≠ .idle) ∧
      ([id, fun s => (run (.requestMode (ModeFields.bytes ⟨1, none⟩)) s).setCl (Cl.afterReset false)].map (fun f =>
        let s := f (trialState .readWait 7 .waiting 2110)
        let t := run (.segment (SegmentFields.bytes ⟨40, 0, 0, 2, some 9⟩)) s
        (queueNow t, t.eu.notices))) =
        [(([(.queued, none)], .waiting), []),
         (([(.suspended, some .mode)], .waiting), [.segmentSuspended 40 9 2 .mode])] ∧
      answer (.segment (SegmentFields.bytes ⟨40, 0, 0, 2, some 9⟩)) (trialState .readWait 7 .waiting 2110) =
        some (.ok, false, [0, 40, 0, 0, 0, 9, 0, 0, 10, 1, 0]) := by
  unfold State.takesFrames State.room State.settled
  and_intros <;> decide +kernel

theorem test_segment_with_a_byte_of_no_name :
    [SegmentFields.mk 40 2 0 1 (some 5), ⟨40, 0, 2, 1, some 5⟩].map (fun f =>
      [reading 0, recording 0].map (fun s => (answer (.segment f.bytes) s).map Prod.fst)) =
      List.replicate 2 [some .wrongMode, some .badValue] := by
  decide +kernel

theorem test_SegmentRefusals :
    (recording 2080).takesFrames ∧
      ([(reading 0), (recording 0).setMc { (recording 0).mc with segDepth := 0 },
        (recording 0).setWgc { (recording 0).wgc with arm := false },
        (recording 0).setPu { (recording 0).pu with sense := .asserted },
        (recording 0).setPu { (recording 0).pu with maps := Two.fill ⟨2, .outer, false⟩ }].map (fun s =>
          (answer (.segment (SegmentFields.bytes ⟨40, 0, 0, 1, some 761856⟩)) s).map Prod.fst)) =
        [some .wrongMode, some .full, some .notArmed, some .inhibited, some .isProtected] ∧
      ([SegmentFields.mk 40 0 0 1 none, ⟨40, 0, 1, 1, some 5⟩, ⟨40, 0, 1, 1, none⟩, ⟨40, 0, 0, 0, some 5⟩,
        ⟨40, 0, 0, 257, some 5⟩, ⟨40, 0, 0, 256, some 786177⟩].map (fun f =>
          (answer (.segment f.bytes) (recording 0)).map Prod.fst)) = List.replicate 6 (some .badValue) := by
  unfold State.takesFrames
  decide +kernel

theorem test_PauseAndResumeTheHead :
    ((recording 2080).takesFrames ∧ (recording 2080).settled ∧ (recording 2080).room 1 ∧ (recording 2080).wgc.queue = []) ∧
      answer (.pause []) (recording 2080) = some (.nothingPending, false, []) ∧
      ([(SegState.writing, (none : Option SegReason), GateState.opened), (.suspending, some .mode, .opened), (.waiting, none, .waiting),
        (.queued, none, .idle), (.suspended, some .mode, .idle), (.halted, some .mode, .idle)].map (fun x =>
          (answer (.pause []) (withHead (segmentAt 2100 x.1 x.2.1 none) x.2.2 (some .segment) (recording 2080))).map
            (fun r => r.2.2))) =
        [some [0, 40, 3], some [0, 40, 3], some [0, 40, 4], some [0, 40, 4], some [0, 40, 4], some [0, 40, 5]] ∧
      ((recording 2080).runProtected .zero 2100 2102 = false ∧
        answer (.resume []) (withHead (segmentAt 2100 .suspended (some .command) none) .idle none (recording 2080)) =
          some (.ok, false, [0, 40, 0, 8, 52])) ∧
      ((run (.resume []) (withHead (segmentAt 2100 .suspended (some .command) none) .idle none
        ((recording 2080).setPu { (recording 2080).pu with maps := Two.fill ⟨7, .inner, false⟩ }))).eu.notices =
          [.segmentRefused 40]) ∧
      ([reading 2080, recording 2080, withHead (segmentAt 2100 .queued none none) .idle none (recording 2080),
        withHead (segmentAt 2100 .halted (some .mode) none) .waiting (some .trial) (recording 2080),
        withHead (segmentAt 2100 .suspended (some .mode) none) .idle none
          ((recording 2080).setWgc { (recording 2080).wgc with exitMark := true })].map (fun s =>
            (answer (.resume []) s).map Prod.fst)) =
        [some .wrongMode, some .nothingPending, some .nothingPending, some .busy, some .busy] := by
  unfold State.takesFrames State.room State.settled
  decide +kernel

/-- A HALTED head of three blocks, some done, with a damaged block or without one. -/
def haltedHead (done : Nat) (damaged : Option Nat) (s : State) : State :=
  withHead { segmentAt 2100 .halted (some .tracking) damaged with done := done } .idle none s

theorem test_ResumeOfAHaltedHead :
    ((haltedHead 0 (some 2100) (recording 2080)).takesFrames ∧ (haltedHead 0 (some 2100) (recording 2080)).room 1 ∧
        (segmentAt 2100 .halted (some .tracking) (some 2100)).next = 2100) ∧
      ([haltedHead 0 (some 2100) (recording 2080),
        haltedHead 0 (some 2100) ((recording 2080).setCt (standby .writeOnce).ct),
        haltedHead 2 (some 2102) ((recording 2080).setCt (standby .writeOnce).ct),
        haltedHead 1 none ((recording 2080).setCt (standby .writeOnce).ct)].map (fun s => answer (.resume []) s)) =
        [some (.ok, false, [0, 40, 0, 8, 52, 0]), some (.ok, false, [0, 40, 0, 8, 53, 0]),
         some (.ok, false, [0, 40, 0, 8, 55, 1]), some (.ok, false, [0, 40, 0, 8, 53, 0])] ∧
      ([some 2100, none].map (fun d =>
        answer (.resume []) (haltedHead 0 d ((recording 2080).setWgc Wgc.afterReset)))) =
        [some (.notArmed, false, []), some (.notArmed, false, [])] := by
  unfold State.takesFrames State.room State.settled
  decide +kernel

theorem test_AbortSegmentRemovesTheHead :
    ((recording 2080).takesFrames ∧ (recording 2080).room 1 ∧ (recording 2080).wgc.queue = []) ∧
      answer (.abortSegment []) (recording 2080) = some (.nothingPending, false, []) ∧
      ([SegState.writing, .suspending, .waiting, .queued, .suspended, .halted].map (fun x =>
        ((answer (.abortSegment []) (withHead (segmentAt 2100 x none none) .opened (some .segment) (recording 2080))).map
            (fun r => r.2.2),
         (run (.abortSegment []) (withHead (segmentAt 2100 x none none) .opened (some .segment) (recording 2080))).wgc.gate))) =
        [(some [0, 40, 0, 0, 1, 0, 8, 52], .idle), (some [0, 40, 0, 0, 1, 0, 8, 52], .idle),
         (some [0, 40, 0, 0, 0], .idle), (some [0, 40, 0, 0, 0], .opened), (some [0, 40, 0, 0, 0], .opened),
         (some [0, 40, 0, 0, 0], .opened)] := by
  unfold State.takesFrames State.room State.settled
  decide +kernel

theorem test_SpanCorrectionAndWaitSettings :
    (recording 0).takesFrames ∧
      ([9, 10, 600, 601].map (fun n => answer (.setStaleSpan (natBytes 2 n)) (recording 0))) =
        [some (.ok, true, [0, 10]), some (.ok, false, [0, 10]), some (.ok, false, [2, 88]), some (.ok, true, [2, 88])] ∧
      ([⟨1, 100, 1⟩, ⟨0, 101, 20⟩, ⟨1, 0, 0⟩, ⟨1, 0, 21⟩].map (fun f : RpcFields => answer (.setRpc f.bytes) (recording 0))) =
        [some (.ok, false, [1, 100, 1]), some (.ok, true, [0, 100, 20]), some (.ok, true, [1, 0, 1]),
         some (.ok, true, [1, 0, 20])] ∧
      ([15, 16, 65535].map (fun n => (answer (.setWaitLimit (natBytes 2 n)) (recording 0)).map Prod.fst)) =
        [some .badValue, some .ok, some .ok] := by
  unfold State.takesFrames
  decide +kernel

theorem test_OpeningBoundaryJudgesTheSegment :
    ((recording 189999).mc.request = none ∧ (recording 189999).tcu.trial = none ∧
        (recording 189999).pt.state = .locked ∧ (recording 189999).pt.predicted = 190000 ∧
        (recording 189999).ct.hasSurface .zero = true ∧ (190000 : Nat) < (recording 189999).ct.blocks) ∧
      (run (.positionRecord true .zero 190000) (withHead (segmentAt 190000 .waiting none none) .waiting (some .segment) (recording 189999))).ldu.writeSet =
        some { peak := 36847, bias := 11054, cool := 1474 } ∧
      ([withHead (segmentAt 190000 .waiting none none) .waiting (some .segment) ((recording 189999).setPu { (recording 189999).pu with sense := .asserted }),
        withHead (segmentAt 190000 .waiting none none) .waiting (some .segment) ((recording 189999).setLines { inhibit := .released, encoderReady := false }),
        withHead (segmentAt 190000 .waiting none none) .waiting (some .segment) ((recording 189999).setCt { (recording 189999).ct with records := Two.fill Ct.blankRecords }),
        withHead (segmentAt 190000 .waiting none none) .waiting (some .segment) ((recording 189999).setWsg { (recording 189999).wsg with
          entries := Wsg.blankEntries.put 1 { strategies with t3 := none } }),
        withHead (segmentAt 190000 .waiting none none) .waiting (some .segment) (recording 189999)].map (fun s =>
          ((run (.positionRecord true .zero 190000) s).wgc.queue.map (fun g => (g.state, g.reason)),
           (run (.positionRecord true .zero 190000) s).wgc.gate))) =
        [([(.suspended, some .inhibit)], .idle), ([(.halted, some .underrun)], .idle),
         ([(.halted, some .noCalibration)], .idle), ([(.halted, some .noStrategy)], .idle),
         ([(.writing, none)], .opened)] := by
  decide +kernel

/-- The notices of the conditions that fail, and the same opening in SELFTEST, by the generator's arrival. -/
theorem test_openings_announce_and_run_in_selftest :
    ([(Inhibit.asserted, true), (.released, false), (.released, true)].map (fun x =>
      let s := withHead (segmentAt 190000 .waiting none none) .waiting (some .segment) (recording 189999)
      let s := { s with pu := { s.pu with sense := x.1 }, lines := { s.lines with encoderReady := x.2 } }
      let g := { s with
        mc := { s.mc with mode := .selftest }, pt := { s.pt with genRunning := true, genNext := 190000 } }
      [run (.positionRecord true .zero 190000) s, run .generatedArrival g].map (fun t =>
        (t.wgc.gate, t.pt.current, t.eu.notices)))) =
      [List.replicate 2 (.idle, 190000, [.segmentSuspended 40 190000 3 .inhibit]),
       List.replicate 2 (.idle, 190000, [.segmentHalted 40 .underrun 0 none]),
       List.replicate 2 (.opened, 190000, [])] := by
  decide +kernel

/-- A head that writes its last block but `left` at the boundary of block 190000, with the running correction at 1045. -/
def endingHead (left : Nat) (state : SegState) (rpcOn : Bool) (behind : List Segment) : State :=
  (recording 189999).setWgc { (recording 189999).wgc with
    queue := { (segmentAt (189997 + left) state (if state = .suspending then some .command else none) none) with
      done := 2 - left } :: behind
    gate := .opened, user := some .segment, rpcOn := rpcOn, correction := 1045, wRef := some 1520
    returns := { sum := 2976, count := 2 } }

theorem test_BoundaryEndsTheBlock :
    ((endingHead 1 .writing true []).room 4 ∧ (endingHead 1 .writing true []).holdsPosition ∧
        ((recording 189999).power .zero 190000).isSome = true) ∧
      ([false, true].map (fun on =>
        let t := run (.positionRecord true .zero 190000) (endingHead 1 .writing on [])
        (t.ldu.writeSet, t.wgc.append, t.wgc.correction))) =
        [(some { peak := 38505, bias := 11552, cool := 1540 }, some (.zero, 189999), 1045),
         (some { peak := 38689, bias := 11607, cool := 1548 }, some (.zero, 189999), 1050)] ∧
      ([endingHead 1 .suspending true [], (endingHead 1 .writing true []).setLines { inhibit := .released, encoderReady := false },
        (endingHead 1 .writing true []).setCt { (recording 0).ct with records := Two.fill Ct.blankRecords },
        endingHead 0 .suspending true []].map (fun s => queueNow (run (.positionRecord true .zero 190000) s))) =
        [([(.suspended, some .command)], .idle), ([(.halted, some .underrun)], .idle),
         ([(.halted, some .noCalibration)], .idle), ([], .idle)] ∧
      (run (.positionRecord true .zero 190000) (endingHead 0 .writing false [])).eu.notices =
        [.segmentDone 40 3 189999 1045 0] := by
  unfold State.room State.settled State.holdsPosition
  and_intros <;> decide +kernel

/-- A COASTED boundary ends a block and carries a continuation as a VALID one does (R141, R142). -/
theorem test_coasted_boundaries_carry_a_segment :
    let h : Segment := { segmentAt 190000 .queued none none with link := .append }
    ((endingHead 1 .writing true []).passesBoundary false) ∧
      ([endingHead 1 .writing true [], endingHead 0 .writing true [h]].map (fun s =>
        let t := run (.positionRecord false .zero 0) s
        (t.ldu.writeSet.map PowerSet.peak, queueNow t))) =
        [(some 38689, [(.writing, none)], .opened), (some 38689, [(.writing, none)], .opened)] := by
  unfold State.passesBoundary State.holdsPosition
  and_intros <;> decide +kernel

/-- The next head, APPEND and starting at the boundary's block: it goes on, or fails one of the four conditions; and a
next head that does not continue. -/
theorem test_AppendContinuesThroughTheOpenGate :
    let h : Segment := { segmentAt 190000 .queued none none with link := .append }
    let go : State := endingHead 0 .writing true [h]
    (go.holdsPosition ∧ go.room 5 ∧ go.runProtected .zero 190000 190002 = false) ∧
      ([go, go.setPu { go.pu with maps := Two.fill ⟨7, .inner, false⟩ }, go.setPu { go.pu with sense := .asserted },
        go.setLines { inhibit := .released, encoderReady := false },
        go.setCt { go.ct with records := Two.fill Ct.blankRecords },
        endingHead 0 .writing true [{ h with link := .fresh }], endingHead 0 .writing true [{ h with start := 190001 }]].map
          (fun s => queueNow (run (.positionRecord true .zero 190000) s))) =
        [([(.writing, none)], .opened), ([], .idle), ([(.suspended, some .inhibit)], .idle),
         ([(.halted, some .underrun)], .idle), ([(.halted, some .noCalibration)], .idle),
         ([(.waiting, none)], .waiting), ([(.waiting, none)], .waiting)] := by
  unfold State.room State.settled State.holdsPosition
  and_intros <;> decide +kernel

theorem test_RunningCorrectionFollowsTheReturn :
    (returnLevel { sum := 2976, count := 2 } = some 1488 ∧ returnLevel { sum := 0, count := 2 } = none ∧
        returnLevel { sum := 0, count := 0 } = none) ∧
      (rpcUpdate (withHead (segmentAt 2100 .writing none none) .opened (some .segment) ((recording 2100).setWgc {
        (recording 2100).wgc with correction := 1040, wRef := some 1520, returns := { sum := 2976, count := 2 } }))).wgc.correction = 1045 ∧
      (rpcUpdate (withHead (segmentAt 2100 .writing none none) .opened (some .segment) ((recording 2100).setWgc {
        (recording 2100).wgc with correction := 1040, wRef := none, returns := { sum := 2976, count := 2 } }))).wgc.wRef = some 1488 ∧
      ((rpcUpdate (withHead (segmentAt 2100 .writing none none) .opened (some .segment) ((recording 2100).setWgc {
        (recording 2100).wgc with correction := 1146, wRef := some 1520, returns := { sum := 2976, count := 2 } }))).wgc.correction = 1150 ∧
        (rpcUpdate (withHead (segmentAt 2100 .writing none none) .opened (some .segment) ((recording 2100).setWgc {
        (recording 2100).wgc with correction := 1146, wRef := some 1520, returns := { sum := 2976, count := 2 } }))).eu.latches.rpcLimit = true) ∧
      (rpcUpdate (withHead (segmentAt 2100 .writing none none) .opened (some .segment) ((recording 2100).setWgc {
        (recording 2100).wgc with correction := 854, wRef := some 1488, returns := { sum := 3040, count := 2 } }))).wgc.correction = 850 := by
  decide +kernel

theorem test_ProtectedRangeOfAMap :
    ((recording 0).ct.hasSurface .one = true ∧ State.reset.ct.hasSurface .one = false) ∧
      ((7 : Nat) ≤ 7 ∧ (1024 : Nat) ≤ 1025 ∧ (1024 : Nat) < 1025 ∧ 1025 / 2 ^ (7 - 7) = 1025 ∧ 1025 / 2 ^ (7 - 1) = 16) ∧
      (({ code := 1, side := .inner, complement := false } : ProtMap).rangeOn 1025).meets 15 15 = true ∧
      (({ code := 1, side := .inner, complement := false } : ProtMap).rangeOn 1025).meets 16 16 = false := by
  decide +kernel

/-- A run meets the last 24,576 blocks when its last block is the first of them, and not when it is the one before. -/
theorem test_run_query_meets_the_range :
    [(0, 761855), (0, 761856), (786431, 786431)].map (fun r =>
      ((recording 0).setPu { (recording 0).pu with maps := Two.fill ⟨2, .outer, false⟩ }).runProtected .zero r.1 r.2) =
      [false, true, true] := by
  decide +kernel

theorem test_SetProtectReplacesTheMap :
    ((recording 0).takesFrames ∧ (recording 0).pu.lock = .opened ∧ (recording 0).wgc.gate = .idle) ∧
      answer (.setProtect (ProtectFields.bytes ⟨0, 2, 1, 0⟩)) (recording 0) = some (.ok, false, [0, 2, 1, 0, 1, 11, 160, 0, 11, 255, 255]) ∧
      ([configured, (recording 0).setPu { (recording 0).pu with lock := .session },
        (recording 0).setPu { (recording 0).pu with lock := .line, sense := .asserted },
        (recording 0).setPu { (recording 0).pu with lock := .line },
        (recording 0).setWgc { (recording 0).wgc with gate := .waiting }].map (fun s =>
          (answer (.setProtect (ProtectFields.bytes ⟨0, 7, 1, 0⟩)) s).map Prod.fst)) =
        [some .wrongMode, some .locked, some .locked, some .ok, some .busy] ∧
      ([ProtectFields.mk 2 7 1 0, ⟨0, 8, 1, 0⟩, ⟨0, 7, 2, 0⟩, ⟨0, 7, 1, 2⟩].map (fun f =>
        (answer (.setProtect f.bytes) (recording 0)).map Prod.fst)) = List.replicate 4 (some .badValue) := by
  unfold State.takesFrames
  decide +kernel

theorem test_SetLockStrengthens :
    (recording 0).takesFrames ∧
      answer (.setLock (natBytes 1 4)) (recording 0) = some (.badValue, false, [0, 1]) ∧
      ([(Lock.opened, (0 : Nat), Inhibit.released), (.line, 0, .released), (.line, 0, .asserted), (.session, 2, .asserted),
        (.session, 1, .released), (.power, 2, .released), (.line, 3, .asserted)].map (fun x =>
          (answer (.setLock (natBytes 1 x.2.1))
            ((recording 0).setPu { (recording 0).pu with lock := x.1, sense := x.2.2 })).map (fun r => (r.1, r.2.2)))) =
        [some (.ok, [0, 1]), some (.ok, [0, 1]), some (.locked, [1, 0]), some (.ok, [2, 0]), some (.locked, [2, 1]),
         some (.locked, [3, 1]), some (.ok, [3, 0])] := by
  unfold State.takesFrames
  decide +kernel

theorem test_InhibitLineActsOnRecording :
    ((recording 0).lines.inhibit = .released ∧ Inhibit.asserted ≠ (recording 0).lines.inhibit) ∧
      (run (.inhibitLineChange .asserted)
        (withHead (segmentAt 2100 .writing none none) .opened (some .segment) (recording 2100))).wgc.queue =
        [segmentAt 2100 .suspending (some .inhibit) none] ∧
      (run (.inhibitLineChange .asserted)
        (withHead (segmentAt 2100 .waiting none none) .waiting (some .segment) (recording 2100))).wgc.queue =
        [segmentAt 2100 .waiting none none] ∧
      ([SubState.writeWait, .writing, .readWait, .measuring].map (fun x =>
        (run (.inhibitLineChange .asserted) (withTrial (trialAt x 1) .waiting (recording 0))).tcu.trial.bind Trial.mark)) =
        [some .inhibit, some .inhibit, none, none] ∧
      (run (.inhibitLineChange .released) (run (.inhibitLineChange .asserted) (recording 0))).wgc.arm = false := by
  decide +kernel

theorem test_MasksAndLatchesAreSet :
    ((recording 0).takesFrames ∧ (recording 0).settled ∧ (recording 0).room 18 ∧
        ([Event.calStale, .winTerr] : List Event).Nodup) ∧
      ((answer (.setMask (maskListBytes ([(Event.calStale, true), (.winTerr, false)].map (fun x => ⟨x.1.code, x.2.toNat⟩)))) ((recording 0).setEu { (recording 0).eu with
        latches := PerEvent.fill true })).map (fun r => (r.1, r.2.2.getLast?))) = some (.ok, some 1) ∧
      ((answer (.setMask (maskListBytes (Event.all.map (fun e => ⟨e.code, 1⟩)))) (recording 0)).map Prod.fst) =
        some .ok ∧
      ((answer (.setMask (maskListBytes [])) (recording 0)).map Prod.fst) = some .badValue ∧
      ((answer (.setMask (maskListBytes (List.replicate 19 ⟨0, 1⟩))) (recording 0)).map Prod.fst) = some .badValue ∧
      ((answer (.setMask (maskListBytes [⟨17, 1⟩, ⟨17, 0⟩])) (recording 0)).map Prod.fst) = some .badValue ∧
      ((answer (.clearEvents (nameListBytes [])) (recording 0)).map Prod.fst) = some .badValue ∧
      ((answer (.clearEvents (nameListBytes (List.replicate 19 0))) (recording 0)).map Prod.fst) = some .badValue ∧
      (run (.clearEvents (nameListBytes (List.replicate 18 16))) ((recording 0).setEu { (recording 0).eu with
        latches := PerEvent.fill true, dropped := 7 })).eu =
        { (recording 0).eu with latches := (PerEvent.fill true).put .noticeOverflow false } := by
  unfold State.takesFrames State.room State.settled
  decide +kernel

theorem test_masks_and_clears_of_no_event :
    [Instr.setMask (maskListBytes [⟨17, 1⟩, ⟨18, 1⟩]), .setMask (maskListBytes [⟨17, 2⟩]), .clearEvents [1, 18],
      .clearEvents [2, 0, 255]].map (fun c => (answer c (recording 0)).map Prod.fst) =
      List.replicate 4 (some .badValue) := by
  decide +kernel

/-- A pending exit's MODE_CHANGED is held back by the RPC_LIMIT and the SEGMENT_SUSPENDED of the boundary that lets it
complete, a FAULT entry by the APC_LIMIT of the update before it, and a CURRENT_LIMIT by WGC's notice (log entry 5). -/
theorem test_notices_wait_for_those_they_follow :
    (let s := announcing ((endingHead 1 .suspending true []).setWgc
        { (endingHead 1 .suspending true []).wgc with correction := 1148 })
     let o := (following reportPosters judgeExit (takeArrival (some (.zero, 190000))
        (s.setMc { s.mc with request := some .read }))).eu.outbox
     o.length = 3 ∧ readyPlaces [] o = [0, 1]) ∧
      (let s := announcing (recording 0)
       let o := (following [.event .apcLimit, .event .currentLimit] (mcFmon .high)
        (lduFmon 4095 (s.setLdu { s.ldu with ioff := -20000 }))).eu.outbox
       o.length = 3 ∧ readyPlaces [] o = [0]) ∧
      (let s := announcing (recording 0)
       let o := (handPowers { peak := 80000, bias := 80000, cool := 80000 } (post .wgc (.segmentRefused 1)
        (s.setCs { s.cs with active := some { bank := .b0, record := { bank with imax := 40000 } } }))).eu.outbox
       o.length = 2 ∧ readyPlaces [] o = [0]) := by
  decide +kernel

theorem test_TriggersAndDrops :
    (Eu.afterReset .released).latches.get .linkError = false ∧ (Eu.afterReset .released).unmasked.get .linkError = false ∧
      ((Eu.afterReset .released).trigger .linkError).outbox = [] ∧
      ([(254 : Nat), 255].map (fun n => ({ (Eu.afterReset .released) with dropped := n }.join 0 (.segmentRefused 1)).dropped)) =
        [255, 255] := by
  decide +kernel

theorem test_FramesAreJudgedByKindAndLength :
    ((recording 0).takesFrames ∧ namesCommand 0 = false ∧ namesCommand 48 = false ∧ opensFrame 48 = true) ∧
      (run (.discardedFrame 41 []) (recording 0)).cl.slot = (run (.getStatus []) (recording 0)).cl.slot ∧
      answer (.unknownKindFrame 48 [1]) (recording 0) = some (.unknownKind, false, []) ∧
      (fixedLengths.map (fun p => (answer (p.1 (List.replicate (p.2 + 1) 0)) (recording 0)).map Prod.fst)) =
        List.replicate 39 (some .badLength) ∧
      (permittedBodies.map (fun p => (answer (p.1 []) (recording 0)).map Prod.fst)) = List.replicate 8 (some .badLength) ∧
      ([Instr.requestMode [3, 2], .requestMode [4, 1, 0], .setScan [2, 0], .getCal [0, 0, 2, 0], .calibrate
        [0, 0, 7, 0, 117, 48, 5, 220, 8], .getStrategy [1], .segment [0, 1, 0, 0, 0, 1, 2], .setMask [1, 0],
        .clearEvents [0, 1]].map (fun c => (answer c (recording 0)).map Prod.fst)) =
        List.replicate 9 (some .badLength) ∧
      ((run (.disarm []) (recording 0)).cl.receive ≠ .blocked ∧ (run (.disarm []) (recording 0)).cl.slot ≠ .empty ∧
        (run (.discardedFrame 60 [1, 2]) ((run (.disarm []) (recording 0)).setCl
          { (run (.disarm []) (recording 0)).cl with discard := 15 })).cl.discard = 15) ∧
      (isBadlyFramed [34, 4, 0, 0, 0] 0 = true ∧
        (run (.badlyFramedFrame [34, 4, 0, 0, 0] 0) (recording 0)).eu.latches.linkError = true) := by
  unfold State.takesFrames
  decide +kernel

/-- No command with a presence byte, a count or a list permits a body without bytes. -/
theorem test_no_permitted_body_is_empty : ∀ p ∈ permittedBodies, ¬ p.2 [] := by
  simp [permittedBodies]

theorem test_ReadWindowsCarryTheRecord :
    ((recording 0).cl.receive ≠ .blocked ∧ (recording 0).cl.slot = .empty) ∧
      (run (.replyWindow 33) (recording 0)).cl.dataOut = [0, 0, 0, 0] ∧
      ((run (.arm []) (recording 0)).cl.slot ≠ .empty ∧
        (run (.replyWindow 47) (run (.arm []) (recording 0))).cl.slot ≠ .empty ∧
        (run (.replyWindow 48) (run (.arm []) (recording 0))).cl.slot = .empty ∧
        (run (.replyWindow 48) (run (.arm []) (recording 0))).cl.dataOut = [26, 0, 0, 0, 1, 1]) := by
  decide +kernel

theorem test_ReadWindowsCarryTheRecord_of_a_notice :
    ((recording 0).cl.receive ≠ .blocked ∧ (recording 0).eu.notices = []) ∧
      (run (.noticeWindow 24) (recording 0)).cl.dataOut = [0, 0, 0] ∧
      (run (.noticeWindow 31) ((recording 0).setEu { (recording 0).eu with notices := [.queueFlushed 3] })).eu.notices = [.queueFlushed 3] ∧
      (run (.noticeWindow 32) ((recording 0).setEu { (recording 0).eu with notices := [.queueFlushed 3] })).eu.notices = [] ∧
      (run (.noticeWindow 40) ((recording 0).setEu { (recording 0).eu with notices := [.queueFlushed 3] })).cl.dataOut = [6, 0, 1, 3, 0] := by
  decide +kernel

theorem test_ResetsGiveTheResetValues :
    ((run (.resetLine ⟨.asserted, true, true⟩) (recording 0)).cl.receive = .blocked ∧
        (run .blockedWindowEnd (run (.resetLine ⟨.asserted, true, true⟩) (recording 0))).cl.receive = .idle ∧
        (recording 0).cl.receive ≠ .blocked) ∧
      (run (.powerOnReset ⟨.released, false, false⟩) (recording 0)).cs.active.map ActiveBank.bank = some .b0 ∧
      (run (.powerOnReset ⟨.released, false, false⟩) ((recording 0).setCs { (recording 0).cs with
        banks := ((recording 0).cs.banks.put .b2 { record := bank, valid := true, locked := true }) })).cs.active.map
          ActiveBank.bank = some .b2 := by
  decide +kernel

theorem test_CommandedResetTakesTwoFrames :
    ((recording 0).takesFrames ∧ (recording 0).cl.resetEnable = false) ∧
      answer (.resetDevice []) (recording 0) = some (.nothingPending, false, []) ∧
      (run (.replyWindow 40) (run (.resetEnable []) (recording 0))).cl.resetEnable = true ∧
      (run (.resetDevice []) (run (.replyWindow 40) (run (.resetEnable []) (recording 0)))).mc.mode = .configure ∧
      ([Lock.session, .power].map (fun l =>
        (run (.resetDevice []) ((recording 0).setPu { (recording 0).pu with lock := l } |>.setCl
          { (recording 0).cl with resetEnable := true })).pu.lock)) = [.opened, .power] := by
  unfold State.takesFrames
  decide +kernel

theorem test_StoreCommandsActInConfigure :
    (configured.takesFrames ∧ bank.inRanges ∧ BankFields.fits ⟨255, bank⟩ ∧ configured.mc.mode = .configure ∧
        configured.cs.store = .idle) ∧
      ([recording 0, configured.setCs { configured.cs with store := .locking .b1 },
        configured.setCs { configured.cs with banks := configured.cs.banks.put .b2 { record := bank, valid := true, locked := true } },
        configured.setCs { configured.cs with banks := configured.cs.banks.put .b2 { record := bank, valid := false, locked := false } },
        configured.setCs { configured.cs with store := .writing .b2 bank }, configured].map (fun s =>
          ((answer (.writeBank (BankFields.bytes ⟨2, bank⟩)) s).map Prod.fst,
            (answer (.lockBank (natBytes 1 2)) s).map Prod.fst, (answer (.selectBank (natBytes 1 2)) s).map Prod.fst))) =
        [(some .wrongMode, some .wrongMode, some .wrongMode), (some .busy, some .busy, some .ok),
         (some .storeLocked, some .storeLocked, some .ok), (some .pending, some .badValue, some .badValue),
         (some .busy, some .busy, some .busy), (some .pending, some .pending, some .ok)] ∧
      ([Instr.writeBank (BankFields.bytes ⟨3, bank⟩), .writeBank (BankFields.bytes ⟨2, { bank with kEta := 51 }⟩),
        .lockBank (natBytes 1 3), .selectBank (natBytes 1 3)].map (fun c => (answer c configured).map Prod.fst)) =
        List.replicate 4 (some .badValue) := by
  unfold State.takesFrames CharRecord.inRanges BankFields.fits
  and_intros <;> decide +kernel

theorem test_StoreCompletionsEndTheOperation :
    configured.cs.store = .idle ∧
      (((configured.setCs { configured.cs with store := .writing .b0 bank })).room 2 ∧ (run (.storeWriteComplete bank) (configured.setCs { configured.cs with store := .writing .b0 bank })).eu.notices = [.bankWritten .b0 .written] ∧
        (run (.storeWriteComplete bank) (configured.setCs { configured.cs with store := .writing .b0 bank })).cs.active = some { bank := .b0, record := bank }) ∧
      (configured.cs.active.map ActiveBank.bank = some .b0 ∧ { bank with imax := 1 } ≠ bank ∧
        ((run (.storeWriteComplete { bank with imax := 1 })
          (configured.setCs { configured.cs with store := .writing .b1 bank })).cs.banks.get .b1).valid = false) ∧
      (run (.storeWriteComplete bank) (configured.setCs { configured.cs with store := .writing .b1 bank })).cs.active = configured.cs.active ∧
      ([true, false].map (fun x =>
        (run (.storeLockComplete x) (configured.setCs { configured.cs with store := .locking .b1 })).eu.notices)) =
        [[.bankWritten .b1 .locked], [.bankWritten .b1 .failed]] := by
  unfold State.room State.settled
  decide +kernel

theorem test_TrackerTakesThePort :
    ((standby .rewritable).mc.mode ≠ .read ∧ (standby .rewritable).mc.mode ≠ .record) ∧
      ((reading 5).mc.request = none ∧ (5 : Nat) < (reading 5).ct.blocks ∧ (reading 5).ct.hasSurface .one = true) ∧
      ([(true, Surface.zero, 6), (true, .zero, 7), (true, .one, 6), (false, .zero, 6), (true, .zero, 786432)].map
        (fun x => ((run (.positionRecord x.1 x.2.1 x.2.2) (reading 5)).pt.state,
          (run (.positionRecord x.1 x.2.1 x.2.2) (reading 5)).pt.coast))) =
        [(.locked, 0), (.acquiring, 0), (.acquiring, 0), (.locked, 1), (.locked, 1)] ∧
      (run (.positionRecord false .zero 0) ((reading 5).setPt { (reading 5).pt with coast := 3 })).pt.state = .lost ∧
      (run (.positionRecord false .zero 0) ((reading 5).setPt { (reading 5).pt with coast := 2 })).pt.coast = 3 ∧
      (run (.positionRecord true .zero 0) ((reading 5).setPt { (reading 5).pt with state := .acquiring, candAddress := 786431 })).pt.state = .locked ∧
      (run (.positionRecord false .zero 0) ((reading 5).setPt { (reading 5).pt with state := .acquiring, candAddress := 786431 })).pt.state = .lost ∧
      (run (.positionRecord true .one 0) ((reading 5).setPt { (reading 5).pt with state := .acquiring, candAddress := 786431 })).pt.candSurface = .one ∧
      (run (.positionRecord true .one 786431) ((reading 5).setPt Pt.afterReset)).pt.candAddress = 786431 ∧
      (run (.positionRecord false .one 0) ((reading 5).setPt Pt.afterReset)).pt = Pt.afterReset := by
  decide +kernel

theorem test_GeneratorDeliversItsNextAddress :
    ((reading 5).pt.genRunning = false ∧ (run (.requestMode (ModeFields.bytes ⟨4, some ⟨786431, 1, 2000⟩⟩)) (standby .rewritable)).pt.genRunning = true ∧ (run (.requestMode (ModeFields.bytes ⟨4, some ⟨786431, 1, 2000⟩⟩)) (standby .rewritable)).mc.request = none) ∧
      (run .generatedArrival (run (.requestMode (ModeFields.bytes ⟨4, some ⟨786431, 1, 2000⟩⟩)) (standby .rewritable))).pt.candAddress = 786431 ∧
      (run .generatedArrival (run .generatedArrival (run (.requestMode (ModeFields.bytes ⟨4, some ⟨786431, 1, 2000⟩⟩)) (standby .rewritable)))).pt.predicted = 1 ∧
      (run .generatedArrival (run .generatedArrival (run .generatedArrival (run (.requestMode (ModeFields.bytes ⟨4, some ⟨786431, 1, 2000⟩⟩)) (standby .rewritable))))).pt.current = 1 := by
  decide +kernel

theorem test_invariants_are_met_while_recording :
    LevelsAgree (recording 0) ∧ QueuesFit (recording 0) ∧ ScanSound (recording 0) := by
  unfold LevelsAgree QueuesFit ScanSound State.settled
  decide +kernel

theorem test_arm_is_sound_while_recording : ArmSound (recording 0) := fun _ => rfl

theorem test_settings_are_in_range_while_recording : RangesHold (recording 0) := by
  have channels : ∀ c : Channel, (recording 0).mon.latest.get c.index = 0 ∧ (recording 0).mon.counts.get c.index = 0 ∧
      ((recording 0).mon.offsets.get c.index).magnitude = 0 ∧
      (recording 0).mon.windows.get c.index = { low := 0, high := 4095, enabled := false } := by
    rintro (_ | _) <;> decide +kernel
  unfold RangesHold
  and_intros
  on_goal 14 => intro c; obtain ⟨h, k, l, w⟩ := channels c; simp [h, k, l, w]
  on_goal 14 => rintro _ ⟨⟩; decide
  all_goals decide +kernel

theorem test_gate_is_sound_while_writing : GateSound (writingHead 2100) := by
  unfold GateSound State.headOffGate
  decide +kernel

theorem test_exit_is_sound_while_writing : ExitSound (writingHead 2100) :=
  ⟨rfl, fun _ h => nomatch h⟩

theorem test_segments_are_sound_while_writing : SegmentsSound (writingHead 2100) := by
  constructor
  · rintro g (_ | ⟨_, ⟨⟩⟩)
    and_intros
    on_goal 6 => rintro _ ⟨⟩
    all_goals decide +kernel
  · rintro (h | h) <;> cases h

theorem test_trial_record_is_sound_while_writing : TrialRecordSound (writingHead 2100) := by
  rintro ⟨f, v, z⟩
  constructor
  · revert f v z
    rintro (_ | _) (_ | _ | _ | _) z <;> revert z <;> decide +kernel
  · rintro ⟨_, ⟨⟩, -⟩

theorem test_test_areas_are_sound_while_writing : TestAreasSound (writingHead 2100) := by
  constructor
  · rintro (_ | _) _ ⟨⟩
    decide
  · rintro _ ⟨⟩

/-- A segment that is being written, for the obligation EveryStepKeepsRecordingSound. -/
theorem test_recording_is_sound_while_writing : RecordingSound (writingHead 2100) :=
  ⟨test_gate_is_sound_while_writing, test_exit_is_sound_while_writing, test_segments_are_sound_while_writing,
    test_trial_record_is_sound_while_writing, test_test_areas_are_sound_while_writing, fun _ h => nomatch h⟩

/-- The marks of a trial that waits to write while the line is asserted. -/
theorem test_marks_are_sound_while_inhibited :
    TrialMarksSound (run (.inhibitLineChange .asserted) (trialState .writeWait 0 .waiting 2100)) := by
  rintro x h
  obtain rfl : { trialAt .writeWait 0 with inhibitMark := true } = x := Option.some.inj h
  decide +kernel

theorem test_BodiesAreReadBack :
    readMode (ModeFields.bytes ⟨255, some ⟨16777215, 255, 65535⟩⟩) = some ⟨255, some ⟨16777215, 255, 65535⟩⟩ ∧
      readNames (nameListBytes [255, 0]) = some [255, 0] ∧
      readGetCal (GetCalFields.bytes ⟨255, 255, some 255⟩) = some ⟨255, 255, some 255⟩ ∧
      readCalibrate (CalibrateFields.bytes ⟨255, 255, 255, 16777215, 65535, some (-32768), none, some 65535⟩) =
        some ⟨255, 255, 255, 16777215, 65535, some (-32768), none, some 65535⟩ ∧
      readStrategy (StrategyFields.bytes ⟨255, 255, ⟨-128, 127, -1, 0, 1⟩⟩) = some ⟨255, 255, ⟨-128, 127, -1, 0, 1⟩⟩ ∧
      readGetStrategy (getStrategyBytes (some 255)) = some (some 255) ∧
      readSegment (SegmentFields.bytes ⟨65535, 255, 255, 65535, some 16777215⟩) =
        some ⟨65535, 255, 255, 65535, some 16777215⟩ ∧
      readMasks (maskListBytes [⟨255, 255⟩, ⟨0, 1⟩]) = some [⟨255, 255⟩, ⟨0, 1⟩] ∧
      readBank (BankFields.bytes ⟨255, ⟨16777215, 65535, -32768, 65535, 255, 16777215, 65535, 65535⟩⟩) =
        some ⟨255, ⟨16777215, 65535, -32768, 65535, 255, 16777215, 65535, 65535⟩⟩ ∧
      readPutCal (PutCalFields.bytes ⟨⟨255, 255, 255⟩, 16777215, 65535, 65535, 32767⟩) =
        some ⟨⟨255, 255, 255⟩, 16777215, 65535, 65535, 32767⟩ := by
  and_intros <;> decide +kernel

theorem test_no_word_spells_a_command (s : State) (nbits w : Nat) :
    decodeTableWord nbits w = none ∧ s.withFetchWord nbits w = s := ⟨rfl, rfl⟩

end Sys2Proof.Tests
end

section
/-! SUPPORT. SET_POOL (R16): its body is read back, what its owner answers in each case, and obligation O3. -/

namespace Sys2Proof.Machine

/-- A command with one field of n bytes reads back the integer that was encoded (R188). -/
@[simp] theorem readNat_natBytes (n v : Nat) (h : v < 256 ^ n) : readNat n (natBytes n v) = some v := by
  have ht : takeNat n (natBytes n v ++ []) = some (v, []) := takeNat_natBytes n v [] h
  rw [List.append_nil] at ht
  rw [readNat, ht, whole_nil]

/-- A SET_POOL frame that holds a depth is handled by MC with that depth. -/
theorem exec_setPool (d : Nat) (s : State) (h : d < 256) :
    exec (.setPool (natBytes 1 d)) s = command 2 (natBytes 1 d) (some (setPool d)) s := by
  have hx : exec (.setPool (natBytes 1 d)) s = execSetPool (natBytes 1 d) s := rfl
  rw [hx, execSetPool, readNat_natBytes 1 d (by omega), Option.map_some]

/-- R16: outside CONFIGURE the depth is refused, whatever it is. -/
theorem setPool_wrongMode (d : Nat) (s : State) (h : s.mc.mode ≠ .configure) :
    setPool d s = refuse .wrongMode s := by
  rw [setPool, if_pos h]

/-- R16: in CONFIGURE a depth outside 2 to 32 is refused. -/
theorem setPool_badValue (d : Nat) (s : State) (h : s.mc.mode = .configure) (hd : d < 2 ∨ 32 < d) :
    setPool d s = refuse .badValue s := by
  have hr : inRange 2 32 d = false := by
    simp only [inRange, Bool.and_eq_false_iff, decide_eq_false_iff_not]
    omega
  rw [setPool, if_neg (not_not_intro h), if_pos hr]

/-- R16: in CONFIGURE a depth of 2 to 32 is set, both queues are emptied, and the reply counts the notices lost. -/
theorem setPool_taken (d : Nat) (s : State) (h : s.mc.mode = .configure) (hl : 2 ≤ d) (hu : d ≤ 32) :
    setPool d s =
      ({ s with
          mc := { s.mc with segDepth := d }
          wgc := { s.wgc with queue := [] }
          eu := { s.eu with notices := [] } },
        okBody (natBytes 1 d ++ natBytes 1 (40 - d) ++ natBytes 1 s.eu.notices.length)) := by
  have hr : ¬ inRange 2 32 d = false := by simp [inRange, hl, hu]
  rw [setPool, if_neg (not_not_intro h), if_neg hr]
  rfl

/-- Settles O3, by the three cases of the owner's check: a refusal leaves everything but the link, and a depth that is
taken is written before the reply fills the slot. -/
theorem setPoolSetsTheSplitAndEmptiesTheQueues : Obligations.SetPoolSetsTheSplitAndEmptiesTheQueues := by
  intro s d hs hd
  have hb : (natBytes 1 d).length ≤ 62 := by simp
  rw [exec_setPool d s hd]
  refine ⟨fun hm => ?wrongMode, fun hm hr => ?badValue, fun hm hl hu => ?taken⟩
  case wrongMode =>
    exact command_unchanged 2 _ (setPool d) s (plain .wrongMode) hs hb (setPool_wrongMode d _ hm)
  case badValue =>
    exact command_unchanged 2 _ (setPool d) s (plain .badValue) hs hb (setPool_badValue d _ hm hr)
  case taken =>
    rw [command_owned 2 _ (setPool d) s hs hb, setPool_taken d (acceptFrame _ s) hm hl hu]
    rfl

end Sys2Proof.Machine
end

section
/-! SUPPORT. START_SCAN (R37): what its owner answers in each scan state, the conversion it begins, and obligation O8. -/

namespace Sys2Proof.Machine

/-- A START_SCAN frame without fields is handled by MON. -/
theorem exec_startScan_nil (s : State) : exec (.startScan []) s = command 4 [] (some startScan) s := rfl

/-- R37: in STOPPED an empty list is refused. -/
theorem startScan_emptyList (s : State) (h : s.mon.scanState = .stopped) (hl : s.mon.scanList = []) :
    startScan s = refuse .badValue s := by
  simp only [startScan, h, if_pos hl]

/-- R37: in STOPPED with a list the scan runs from the first entry. -/
theorem startScan_starts (s : State) (h : s.mon.scanState = .stopped) (hl : s.mon.scanList ≠ []) :
    startScan s = (s.setMon { s.mon with scanState := .running, position := 0 }, plain .ok) := by
  simp only [startScan, h, if_neg hl]

/-- R37: in RUNNING the scan goes on from where it is. -/
theorem startScan_running (s : State) (h : s.mon.scanState = .running) : startScan s = (s, plain .ok) := by
  simp only [startScan, h]

/-- R37: in STOPPING the command is refused, and the scan stops as before. -/
theorem startScan_stopping (s : State) (h : s.mon.scanState = .stopping) : startScan s = refuse .busy s := by
  simp only [startScan, h]

/-- A scan that stands at its first entry converts it (R37, R39). -/
theorem Mon.inFlight_first (m : Mon) (h : m.scanState ≠ .stopped) (hp : m.position = 0) :
    m.inFlight = m.scanList.head? := by
  rw [Mon.inFlight, if_neg h, hp, List.head?_eq_getElem?]

/-- Settles O8, by the four cases of the owner: three leave everything but the link, and the one that starts the scan
leaves it at the first entry, whose conversion is then in flight. -/
theorem startScanByTheScanState : Obligations.StartScanByTheScanState := by
  intro s hs
  have hb : ([] : Body).length ≤ 62 := Nat.zero_le 62
  rw [exec_startScan_nil s]
  refine ⟨fun hm hl => ?emptyList, fun hm hl => ?starts, fun hm => ?running, fun hm => ?stopping⟩
  case emptyList =>
    exact command_unchanged 4 [] startScan s (plain .badValue) hs hb (startScan_emptyList _ hm hl)
  case starts =>
    refine ⟨_, ?_, Mon.inFlight_first { s.mon with scanState := .running, position := 0 } (by simp) rfl, rfl⟩
    rw [command_owned 4 [] startScan s hs hb, startScan_starts (acceptFrame _ s) hm hl]
    rfl
  case running =>
    exact command_unchanged 4 [] startScan s (plain .ok) hs hb (startScan_running _ hm)
  case stopping =>
    exact command_unchanged 4 [] startScan s (plain .busy) hs hb (startScan_stopping _ hm)

end Sys2Proof.Machine
end

section
/-! SUPPORT. SET_TEST_AREA (R94): its body is read back, what its owner answers in each case, and obligation O23. -/

namespace Sys2Proof.Machine

/-- The fields of a SET_TEST_AREA are read back when each fits its width (R188). -/
theorem readArea_bytes (f : AreaFields) (hs : f.surface < 256) (ha : f.first < 256 ^ 3) (hn : f.length < 256 ^ 2) :
    readArea f.bytes = some f := by
  have hl : takeNat 2 (natBytes 2 f.length ++ []) = some (f.length, []) := takeNat_natBytes 2 _ [] hn
  rw [List.append_nil] at hl
  simp only [readArea, AreaFields.bytes, List.append_assoc, takeNat_natBytes 1 _ _ (hs.trans_eq (pow_one 256).symm),
    takeNat_natBytes 3 _ _ ha, hl, Option.bind_eq_bind, Option.bind_some, whole_nil]

@[simp] theorem AreaFields.bytes_length (f : AreaFields) : f.bytes.length = 6 := by
  simp [AreaFields.bytes]

/-- A SET_TEST_AREA frame that holds its fields is handled by TCU with those fields. -/
theorem exec_setTestArea (f : AreaFields) (s : State) (hs : f.surface < 256) (ha : f.first < 256 ^ 3)
    (hn : f.length < 256 ^ 2) :
    exec (.setTestArea f.bytes) s = command 19 f.bytes (some (setTestArea f)) s := by
  have hx : exec (.setTestArea f.bytes) s = execSetTestArea f.bytes s := rfl
  rw [hx, execSetTestArea, readArea_bytes f hs ha hn, Option.map_some]

/-- A code past the last name of an enumeration names nothing. -/
theorem nameAt_eq_none {α : Type} (names : List α) (k : Nat) (h : names.length ≤ k) : nameAt names k = none :=
  List.getElem?_eq_none h

/-- Without a disc no surface is one the disc has (R80). -/
theorem Ct.disc_ne_none (c : Ct) (f : Surface) (h : c.hasSurface f = true) : c.disc ≠ none := by
  intro hd
  simp only [Ct.hasSurface, hd, Bool.false_eq_true] at h

/-- R93: every block of an area is available while the pointer is at its first block. -/
theorem TestArea.remaining_of_next_eq_first (a n : Nat) :
    ({ first := a, length := n, next := a } : TestArea).remaining = n :=
  Nat.add_sub_cancel_left a n

/-- SET_TEST_AREA is judged by its fields only in STANDBY or READ with a disc set (R94). -/
def State.takesTestArea (s : State) : Prop := (s.mc.mode = .standby ∨ s.mc.mode = .read) ∧ s.ct.disc ≠ none

/-- In such a state neither of the owner's checks of mode and disc refuses the command. -/
theorem State.takesTestArea_iff (s : State) :
    s.takesTestArea ↔ ¬ (s.mc.mode ≠ .standby ∧ s.mc.mode ≠ .read) ∧ ¬ s.ct.disc = none := by
  simp only [State.takesTestArea, not_and_or, not_not, ne_eq]

/-- The first block and the length of the fields make a test area of this surface of the set disc (R94). -/
def AreaFields.liesOn (f : AreaFields) (g : Surface) (c : Ct) : Prop :=
  c.hasSurface g = true ∧ 16 ≤ f.length ∧ f.length ≤ 4096 ∧ f.first + f.length ≤ c.blocks

/-- The owner's check of the fields is that they lie on the surface. -/
theorem AreaFields.liesOn_iff (f : AreaFields) (g : Surface) (c : Ct) :
    (c.hasSurface g && inRange 16 4096 f.length && decide (f.first + f.length ≤ c.blocks)) = true ↔
      f.liesOn g c := by
  simp only [inRange, Bool.and_eq_true, decide_eq_true_eq, AreaFields.liesOn, and_assoc]

/-- R94: in every other mode, and while no disc is set, the command is refused, whatever its fields. -/
theorem setTestArea_wrongMode (f : AreaFields) (s : State)
    (h : (s.mc.mode ≠ .standby ∧ s.mc.mode ≠ .read) ∨ s.ct.disc = none) :
    setTestArea f s = refuse .wrongMode s := by
  by_cases hm : s.mc.mode ≠ .standby ∧ s.mc.mode ≠ .read
  · rw [setTestArea, if_pos hm]
  · rw [setTestArea, if_neg hm, if_pos (h.resolve_left hm)]

/-- R94: a code that names no surface is refused. -/
theorem setTestArea_noSurface (f : AreaFields) (s : State) (h : s.takesTestArea)
    (hf : nameAt Surface.all f.surface = none) : setTestArea f s = refuse .badValue s := by
  obtain ⟨hm, hd⟩ := s.takesTestArea_iff.mp h
  rw [setTestArea, if_neg hm, if_neg hd, hf]

/-- R94: fields that do not lie on the surface they name are refused. -/
theorem setTestArea_badValue (f : AreaFields) (g : Surface) (s : State) (h : s.takesTestArea)
    (hf : nameAt Surface.all f.surface = some g) (hl : ¬ f.liesOn g s.ct) :
    setTestArea f s = refuse .badValue s := by
  obtain ⟨hm, hd⟩ := s.takesTestArea_iff.mp h
  rw [setTestArea, if_neg hm, if_neg hd, hf]
  exact if_neg (mt (f.liesOn_iff g s.ct).mp hl)

/-- R94: fields that lie on the surface they name replace its area, the pointer stands at the first block, and the reply
gives the whole length as remaining. -/
theorem setTestArea_taken (f : AreaFields) (g : Surface) (s : State) (h : s.takesTestArea)
    (hf : nameAt Surface.all f.surface = some g) (hl : f.liesOn g s.ct) :
    setTestArea f s =
      (s.setTcu { s.tcu with
          areas := s.tcu.areas.put g (some { first := f.first, length := f.length, next := f.first }) },
        okBody (surfaceByte g ++ natBytes 3 f.first ++ natBytes 2 f.length ++ natBytes 3 f.first ++
          natBytes 2 f.length)) := by
  obtain ⟨hm, hd⟩ := s.takesTestArea_iff.mp h
  rw [setTestArea, if_neg hm, if_neg hd, hf]
  simp only [if_pos ((f.liesOn_iff g s.ct).mpr hl), areaBytes, TestArea.remaining_of_next_eq_first, List.append_assoc]

/-- Settles O23, by the cases of the owner: three refusals leave everything but the link, and an area that is taken is
written before the reply fills the slot. -/
theorem setTestAreaSetsThePointer : Obligations.SetTestAreaSetsThePointer := by
  intro s a n hs ha hn
  have hb (f : Nat) : (AreaFields.bytes ⟨f, a, n⟩).length ≤ 62 := by simp
  have hx (f : Nat) (hf : f < 256) := exec_setTestArea ⟨f, a, n⟩ s hf ha hn
  have hc (f : Surface) : f.code < 256 := f.code_lt.trans (by decide)
  refine ⟨fun f hm hg hl hu he => ?taken, fun f hf hm => ?wrongMode, fun f hm hd hr => ?badValue,
    fun f h2 hf hm hd => ?noSurface⟩
  case taken =>
    rw [hx _ (hc f), command_owned 19 _ _ s hs (hb _),
      setTestArea_taken _ f (acceptFrame _ s) ⟨hm, s.ct.disc_ne_none f hg⟩ (nameAt_surface f) ⟨hg, hl, hu, he⟩]
    rfl
  case wrongMode =>
    rw [hx f hf]
    exact command_unchanged 19 _ _ s (plain .wrongMode) hs (hb f)
      (setTestArea_wrongMode _ (acceptFrame _ s) hm)
  case badValue =>
    have hl : ¬ AreaFields.liesOn ⟨f.code, a, n⟩ f s.ct := by
      rintro ⟨hg, h16, h4096, he⟩
      rcases hr with hg' | hr
      · exact absurd (hg.symm.trans hg') (by decide)
      · simp only at h16 h4096 he
        omega
    rw [hx _ (hc f)]
    exact command_unchanged 19 _ _ s (plain .badValue) hs (hb _)
      (setTestArea_badValue _ f (acceptFrame _ s) ⟨hm, hd⟩ (nameAt_surface f) hl)
  case noSurface =>
    rw [hx f hf]
    exact command_unchanged 19 _ _ s (plain .badValue) hs (hb f)
      (setTestArea_noSurface _ (acceptFrame _ s) ⟨hm, hd⟩ (nameAt_eq_none Surface.all f h2))

end Sys2Proof.Machine
end

section
/-! SUPPORT. ARM and DISARM (R131): ARM's three checks, what each owner answers in each case, and obligation O31. -/

namespace Sys2Proof.Machine

/-- The modes that may write are RECORD and SELFTEST (R131, R136). -/
theorem Mode.mayWrite_iff (m : Mode) : m.mayWrite = true ↔ m = .record ∨ m = .selftest := by
  cases m <;> decide

/-- The scan serves ARM when it is RUNNING and its list holds TERR and RSUM (R131). -/
theorem Mon.serves_terr_rsum_iff (m : Mon) :
    m.serves [.terr, .rsum] = true ↔
      m.scanState = .running ∧ Channel.terr ∈ m.scanList ∧ Channel.rsum ∈ m.scanList := by
  simp [Mon.serves]

/-- An ARM frame without fields is handled by WGC. -/
theorem exec_arm_nil (s : State) : exec (.arm []) s = command 26 [] (some arm) s := rfl

/-- A DISARM frame without fields is handled by WGC. -/
theorem exec_disarm_nil (s : State) : exec (.disarm []) s = command 27 [] (some disarm) s := rfl

/-- R131: the answer of a refused ARM shows the latch as it stands. -/
def armRefusal (why : Status) (s : State) : Answer := { status := why, clamped := false, body := flagByte s.wgc.arm }

/-- R131, check 1: outside RECORD and SELFTEST ARM is refused. -/
theorem armOwner_wrongMode (s : State) (hm : ¬ s.mc.mode.mayWrite = true) : arm s = (s, armRefusal .wrongMode s) := by
  rw [arm, if_pos (eq_false_of_ne_true hm)]
  rfl

/-- R131, check 2: with the inhibit sense asserted ARM is refused. -/
theorem armOwner_inhibited (s : State) (hm : s.mc.mode.mayWrite = true) (hp : s.pu.sense = .asserted) :
    arm s = (s, armRefusal .inhibited s) := by
  rw [arm, if_neg (ne_false_of_eq_true hm), if_pos hp]
  rfl

/-- R131, check 3: with a scan that does not serve TERR and RSUM ARM is refused. -/
theorem armOwner_scanRequired (s : State) (hm : s.mc.mode.mayWrite = true) (hp : s.pu.sense ≠ .asserted)
    (hc : ¬ s.mon.serves [.terr, .rsum] = true) : arm s = (s, armRefusal .scanRequired s) := by
  rw [arm, if_neg (ne_false_of_eq_true hm), if_neg hp, if_pos (eq_false_of_ne_true hc)]
  rfl

/-- R131: when all three checks pass the latch is set, and the reply shows it set. -/
theorem armOwner_taken (s : State) (hm : s.mc.mode.mayWrite = true) (hp : s.pu.sense ≠ .asserted)
    (hc : s.mon.serves [.terr, .rsum] = true) :
    arm s = (s.setWgc { s.wgc with arm := true }, okBody (flagByte true)) := by
  rw [arm, if_neg (ne_false_of_eq_true hm), if_neg hp, if_neg (ne_false_of_eq_true hc)]

/-- Settles O31, by the four cases of ARM's checks and the one case of DISARM: a refused ARM leaves everything but the
link, and a latch that is written is written before the reply fills the slot. -/
theorem armAndDisarmTheLatch : Obligations.ArmAndDisarmTheLatch := by
  intro s hs
  have hb : ([] : Body).length ≤ 62 := Nat.zero_le 62
  have hreleased (hp : s.pu.sense = .released) : s.pu.sense ≠ .asserted := by simp [hp]
  rw [exec_arm_nil, exec_disarm_nil]
  simp only [← not_or, ← Mode.mayWrite_iff]
  refine ⟨fun hm => ?wrongMode, fun hm hp => ?inhibited, fun hm hp hc => ?scanRequired,
    fun hm hp hr ht hu => ?taken, ?disarmed⟩
  case wrongMode =>
    exact command_unchanged 26 [] arm s (armRefusal .wrongMode s) hs hb (armOwner_wrongMode (acceptFrame _ s) hm)
  case inhibited =>
    exact command_unchanged 26 [] arm s (armRefusal .inhibited s) hs hb (armOwner_inhibited (acceptFrame _ s) hm hp)
  case scanRequired =>
    have hserves : ¬ s.mon.serves [.terr, .rsum] = true := by
      rwa [s.mon.serves_terr_rsum_iff, not_and_or, not_and_or]
    exact command_unchanged 26 [] arm s (armRefusal .scanRequired s) hs hb
      (armOwner_scanRequired (acceptFrame _ s) hm (hreleased hp) hserves)
  case taken =>
    have hserves : s.mon.serves [.terr, .rsum] = true := s.mon.serves_terr_rsum_iff.mpr ⟨hr, ht, hu⟩
    rw [command_owned 26 [] arm s hs hb, armOwner_taken (acceptFrame _ s) hm (hreleased hp) hserves]
    rfl
  case disarmed =>
    rw [command_owned 27 [] disarm s hs hb]
    rfl

end Sys2Proof.Machine
end

section
/-! SUPPORT. The protected range of a map (R159): the length of a size code, the blocks a range holds, a run's query as
a search for one of its blocks, and obligation O41. -/

namespace Sys2Proof.Machine

/-- R159: size codes 1 to 7 name the fractions 1/64 to 1, each the double of the one before, and code 0 names none. -/
theorem protLength_eq (c n : Nat) (hc : c ≤ 7) : protLength c n = if c = 0 then 0 else n / 2 ^ (7 - c) := by
  interval_cases c <;> simp [protLength]

/-- A size code never names more than the whole surface. -/
theorem protLength_le (c n : Nat) : protLength c n ≤ n := by
  unfold protLength
  split <;> omega

/-- A range that is a run has its first block at or below its last. -/
def ProtRange.ordered : ProtRange → Prop
  | .run lo hi => lo ≤ hi
  | .absent | .empty => True

/-- R160: a run of blocks shares a block with a run lo to hi when neither ends before the other begins. -/
theorem ProtRange.meets_run_iff (lo hi first last : Nat) :
    (ProtRange.run lo hi).meets first last = true ↔ first ≤ hi ∧ lo ≤ last := by
  simp only [ProtRange.meets, Bool.and_eq_true, decide_eq_true_eq]

/-- R160: the query of a run finds the range exactly when it finds it at one of the run's blocks. Where the two runs
share a block, the larger of their first blocks is one. -/
theorem ProtRange.meets_iff_exists_block (r : ProtRange) (hr : r.ordered) (first last : Nat) (h : first ≤ last) :
    r.meets first last = true ↔ ∃ b, first ≤ b ∧ b ≤ last ∧ r.meets b b = true := by
  cases r with
  | absent => simp [ProtRange.meets]
  | empty => simp [ProtRange.meets]
  | run lo hi =>
    simp only [ProtRange.meets_run_iff]
    constructor
    · rintro ⟨hfirst, hlast⟩
      exact ⟨max first lo, le_max_left first lo, max_le h hlast, max_le hfirst hr, le_max_right first lo⟩
    · rintro ⟨b, hfirst, hlast, hhi, hlo⟩
      exact ⟨hfirst.trans hhi, hlo.trans hlast⟩

/-- R159: a run that a map gives is ordered, since its length is no more than the surface and an empty range is given
apart. -/
theorem ProtMap.rangeOn_ordered (m : ProtMap) (n : Nat) : (m.rangeOn n).ordered := by
  have hle := protLength_le m.code n
  simp only [ProtMap.rangeOn]
  (repeat' split) <;> simp only [ProtRange.ordered] <;> omega

/-- R159: the protected range of a surface is ordered, whether or not the disc has the surface. -/
theorem State.protRange_ordered (s : State) (f : Surface) : (s.protRange f).ordered := by
  by_cases h : s.ct.hasSurface f = true
  · rw [State.protRange, if_pos h]
    exact ProtMap.rangeOn_ordered _ _
  · rw [State.protRange, if_neg h]
    trivial

/-- R159: the blocks that the size code and side of a map name, before its complement is taken. -/
def ProtMap.sideHolds (m : ProtMap) (n a : Nat) : Bool :=
  match m.side with
  | .inner => decide (a < protLength m.code n)
  | .outer => decide (n ≤ a + protLength m.code n)

/-- R159: with complement off, a block is protected when the side of the map names it. The empty range stands for the
length 0, where the side names none. -/
theorem ProtMap.rangeOn_meets_plain (m : ProtMap) (n a : Nat) (hm : m.complement = false) (ha : a < n) :
    (m.rangeOn n).meets a a = m.sideHolds n a := by
  have hle := protLength_le m.code n
  rw [Bool.eq_iff_iff, ProtMap.rangeOn, if_neg (by simp [hm])]
  by_cases hz : protLength m.code n = 0
  · cases hs : m.side <;> simp [ProtMap.sideHolds, ProtRange.meets, hs, hz, ha]
  · rw [if_neg hz]
    cases hs : m.side <;>
      simp only [ProtRange.meets_run_iff, ProtMap.sideHolds, hs, decide_eq_true_eq] <;> omega

/-- R159: with complement on, a block is protected when the side of the map does not name it. The empty range stands for
the length of the whole surface, where the side names every block. -/
theorem ProtMap.rangeOn_meets_complement (m : ProtMap) (n a : Nat) (hm : m.complement = true) (ha : a < n) :
    (m.rangeOn n).meets a a = !m.sideHolds n a := by
  have hle := protLength_le m.code n
  rw [Bool.eq_iff_iff, ProtMap.rangeOn, if_pos hm]
  by_cases hz : protLength m.code n = n
  · cases hs : m.side <;> simp [ProtMap.sideHolds, ProtRange.meets, hs, hz, ha]
  · rw [if_neg hz]
    cases hs : m.side <;>
      simp only [ProtRange.meets_run_iff, ProtMap.sideHolds, hs, Bool.not_eq_true', decide_eq_false_iff_not] <;> omega

/-- Settles O41, by the cases of R159: whether the disc has the surface, the query of an ordered range, and the blocks
that the side of a map names with its complement off and on. -/
theorem protectedRangeOfAMap : Obligations.ProtectedRangeOfAMap := by
  refine ⟨fun s f => ⟨fun hf => ?range, fun hf => ?absent⟩, fun s f first last h => ?query,
    fun c n a side hc _ ha length hl => ?blocks⟩
  case range => rw [State.protRange, if_pos hf]
  case absent =>
    have hr : s.protRange f = .absent := by rw [State.protRange, if_neg (ne_true_of_eq_false hf)]
    refine ⟨hr, fun first last => ?_⟩
    rw [State.runProtected, hr, ProtRange.meets]
  case query => exact (s.protRange f).meets_iff_exists_block (s.protRange_ordered f) first last h
  case blocks =>
    obtain rfl : length = protLength c n := hl.trans (protLength_eq c n hc).symm
    refine ⟨ProtMap.rangeOn_meets_plain _ n a rfl ha, ProtMap.rangeOn_meets_plain _ n a rfl ha, ?_⟩
    rw [ProtMap.rangeOn_meets_complement _ n a rfl ha, ProtMap.rangeOn_meets_plain _ n a rfl ha]
    rfl

end Sys2Proof.Machine
end

section
/-! SUPPORT. SET_LOCK (R163): when the lock may change, what its owner answers in each case, and obligation O43. -/

namespace Sys2Proof.Machine

/-- A SET_LOCK frame that holds a byte is handled by PU with that byte. -/
theorem exec_setLock (n : Nat) (s : State) (h : n < 256) :
    exec (.setLock (natBytes 1 n)) s = command 36 (natBytes 1 n) (some (setLock n)) s := by
  have hx : exec (.setLock (natBytes 1 n)) s = execSetLock (natBytes 1 n) s := rfl
  rw [hx, execSetLock, readNat_natBytes 1 n (by omega), Option.map_some]

/-- R163: a lock may become the same or a stronger one, and LINE is released to OPEN while the line is released. -/
theorem Pu.lockMay_iff (p : Pu) (l : Lock) :
    p.lockMay l = true ↔ p.lock.code ≤ l.code ∨ (p.lock = .line ∧ l = .opened ∧ p.sense = .released) := by
  simp only [Pu.lockMay, Bool.or_eq_true, Bool.and_eq_true, decide_eq_true_eq, and_assoc]

/-- R163: the answer of a refused SET_LOCK shows the lock and the sense as they stand. -/
def lockRefusal (why : Status) (s : State) : Answer := { status := why, clamped := false, body := lockBody s.pu }

/-- R163: a byte that names no lock mode is refused. -/
theorem setLock_badValue (n : Nat) (s : State) (h : nameAt Lock.all n = none) :
    setLock n s = (s, lockRefusal .badValue s) := by
  rw [setLock, h]
  rfl

/-- R163: a lock mode that the lock may become is taken, and the reply shows it. -/
theorem setLock_taken (l : Lock) (s : State) (h : s.pu.lockMay l = true) :
    setLock l.code s =
      (s.setPu { s.pu with lock := l }, okBody (natBytes 1 l.code ++ natBytes 1 s.pu.sense.code)) := by
  simp only [setLock, nameAt_lock, if_pos h]
  rfl

/-- R163: a lock mode that the lock may not become is refused. -/
theorem setLock_locked (l : Lock) (s : State) (h : ¬ s.pu.lockMay l = true) :
    setLock l.code s = (s, lockRefusal .locked s) := by
  simp only [setLock, nameAt_lock, if_neg h]
  rfl

/-- Settles O43, by the three cases of the owner: both refusals leave everything but the link, and a lock that is taken
is written before the reply fills the slot. -/
theorem setLockStrengthens : Obligations.SetLockStrengthens := by
  intro s hs
  have hb (n : Nat) : (natBytes 1 n).length ≤ 62 := by simp
  have hc (l : Lock) : l.code < 256 := l.code_lt.trans (by decide)
  refine ⟨fun n h4 hn => ?badValue, fun l hl => ?taken, fun l hweaker hl => ?locked⟩
  case badValue =>
    rw [exec_setLock n s hn]
    exact command_unchanged 36 _ (setLock n) s (lockRefusal .badValue s) hs (hb n)
      (setLock_badValue n (acceptFrame _ s) (nameAt_eq_none Lock.all n h4))
  case taken =>
    rw [exec_setLock _ s (hc l), command_owned 36 _ (setLock l.code) s hs (hb _),
      setLock_taken l (acceptFrame _ s) ((s.pu.lockMay_iff l).mpr hl)]
    rfl
  case locked =>
    have hmay : ¬ s.pu.lockMay l = true := fun h => ((s.pu.lockMay_iff l).mp h).elim hweaker.not_ge hl
    rw [exec_setLock _ s (hc l)]
    exact command_unchanged 36 _ (setLock l.code) s (lockRefusal .locked s) hs (hb _)
      (setLock_locked l (acceptFrame _ s) hmay)

end Sys2Proof.Machine
end

section
/-! SUPPORT. The bodies of the command frames: each is read back as the fields it was made from, its length, and
obligation O60 (R188). -/

namespace Sys2Proof.Machine

/-- An integer at the end of a body is read back. -/
@[simp] theorem takeNat_natBytes_end (n v : Nat) (h : v < 256 ^ n) : takeNat n (natBytes n v) = some (v, []) := by
  have ht := takeNat_natBytes n v [] h
  rwa [List.append_nil] at ht

/-- A signed integer at the end of a body is read back. -/
@[simp] theorem takeInt_intBytes_end (n : Nat) (v : Int) (h0 : -(256 ^ n : Int) ≤ 2 * v) (h1 : 2 * v < 256 ^ n) :
    takeInt n (intBytes n v) = some (v, []) := by
  have ht := takeInt_intBytes n v [] h0 h1
  rwa [List.append_nil] at ht

/-- An optional field at the end of a body is read back when its value is. -/
theorem takeOptional_bytes_end {α : Type} (f : Body → Option (α × Body)) (e : α → Body) (x : Option α)
    (h : ∀ y, x = some y → f (e y) = some (y, [])) : takeOptional x.isSome f (optionalBytes e x) = some (x, []) := by
  have ht := takeOptional_bytes f e x [] (fun y hy => by rw [List.append_nil]; exact h y hy)
  rwa [List.append_nil] at ht

/-- A list at the end of a body is read back when each entry is and its count fits the count byte. -/
theorem takeList_listBytes_end {α : Type} (f : Body → Option (α × Body)) (e : α → Body) (l : List α)
    (hl : l.length < 256) (h : ∀ x ∈ l, ∀ u, f (e x ++ u) = some (x, u)) :
    takeList f (listBytes e l) = some (l, []) := by
  have ht := takeList_listBytes f e l [] hl h
  rwa [List.append_nil] at ht

/-- A presence byte of one field holds its bit. -/
theorem testBit_toNat_zero (a : Bool) : a.toNat.testBit 0 = a := by cases a <;> rfl

/-- The bits of a presence byte of three fields. -/
theorem testBit_presence_three (a b c : Bool) :
    (a.toNat + 2 * (b.toNat + 2 * c.toNat)).testBit 0 = a ∧ (a.toNat + 2 * (b.toNat + 2 * c.toNat)).testBit 1 = b ∧
      (a.toNat + 2 * (b.toNat + 2 * c.toNat)).testBit 2 = c := by
  cases a <;> cases b <;> cases c <;> decide

theorem takeSelfTest_bytes (x : SelfTestFields) (h0 : x.start < 256 ^ 3) (h1 : x.surface < 256)
    (h2 : x.interval < 256 ^ 2) : takeSelfTest x.bytes = some (x, []) := by
  simp (disch := omega) only [takeSelfTest, SelfTestFields.bytes, List.append_assoc, takeNat_natBytes,
    takeNat_natBytes_end, Option.bind_eq_bind, Option.bind_some]

theorem readMode_bytes (f : ModeFields) (h : f.fits) : readMode f.bytes = some f := by
  obtain ⟨ht, hx⟩ := h
  have ho : takeOptional f.selfTest.isSome takeSelfTest (optionalBytes SelfTestFields.bytes f.selfTest) =
      some (f.selfTest, []) :=
    takeOptional_bytes_end _ _ _ fun y hy => takeSelfTest_bytes y (hx y hy).1 (hx y hy).2.1 (hx y hy).2.2
  simp (disch := omega) only [readMode, ModeFields.bytes, List.append_assoc, takeNat_natBytes, takePresence_one,
    Option.bind_eq_bind, Option.bind_some, testBit_toNat_zero, ho, whole_nil]

theorem readNames_bytes (l : List Nat) (hl : l.length < 256) (h : ∀ x ∈ l, x < 256) :
    readNames (nameListBytes l) = some l := by
  rw [readNames, nameListBytes, takeList_listBytes_end _ _ l hl fun x hx u =>
    takeNat_natBytes 1 x u (by have := h x hx; omega), whole_nil]

theorem readOffset_bytes (f : OffsetFields) (h0 : f.channel < 256) (h1 : f.sign < 256) (h2 : f.magnitude < 256) :
    readOffset f.bytes = some f := by
  simp (disch := omega) only [readOffset, OffsetFields.bytes, List.append_assoc, takeNat_natBytes,
    takeNat_natBytes_end, Option.bind_eq_bind, Option.bind_some, whole_nil]

theorem readWindow_bytes (f : WindowFields) (h0 : f.channel < 256) (h1 : f.low < 256 ^ 2) (h2 : f.high < 256 ^ 2)
    (h3 : f.enable < 256) : readWindow f.bytes = some f := by
  simp (disch := omega) only [readWindow, WindowFields.bytes, List.append_assoc, takeNat_natBytes,
    takeNat_natBytes_end, Option.bind_eq_bind, Option.bind_some, whole_nil]

theorem readReadPower_bytes (f : ReadPowerFields) (h0 : f.surface < 256) (h1 : f.power < 256 ^ 2) :
    readReadPower f.bytes = some f := by
  simp (disch := omega) only [readReadPower, ReadPowerFields.bytes, takeNat_natBytes,
    takeNat_natBytes_end, Option.bind_eq_bind, Option.bind_some, whole_nil]

theorem readDisc_bytes (f : DiscFields) (h0 : f.media < 256) (h1 : f.surfaces < 256) (h2 : f.blocks < 256 ^ 3) :
    readDisc f.bytes = some f := by
  simp (disch := omega) only [readDisc, DiscFields.bytes, List.append_assoc, takeNat_natBytes,
    takeNat_natBytes_end, Option.bind_eq_bind, Option.bind_some, whole_nil]

/-- Eight starts at the end of a body are read back. -/
theorem takeStarts_bytes (t : Eight Nat) (h : ∀ i : Fin 8, t.get i < 256 ^ 3) :
    takeStarts (startBytes t) = some (t, []) := by
  have h0 : t.t0 < 256 ^ 3 := h 0
  have h1 : t.t1 < 256 ^ 3 := h 1
  have h2 : t.t2 < 256 ^ 3 := h 2
  have h3 : t.t3 < 256 ^ 3 := h 3
  have h4 : t.t4 < 256 ^ 3 := h 4
  have h5 : t.t5 < 256 ^ 3 := h 5
  have h6 : t.t6 < 256 ^ 3 := h 6
  have h7 : t.t7 < 256 ^ 3 := h 7
  simp only [takeStarts, startBytes, List.append_assoc, takeNat_natBytes, takeNat_natBytes_end,
    Option.bind_eq_bind, Option.bind_some, h0, h1, h2, h3, h4, h5, h6, h7]

theorem readZones_bytes (f : ZoneFields) (hs : f.surface < 256) (h : ∀ i : Fin 8, f.starts.get i < 256 ^ 3) :
    readZones f.bytes = some f := by
  simp (disch := omega) only [readZones, ZoneFields.bytes, takeNat_natBytes, takeStarts_bytes f.starts h,
    Option.bind_eq_bind, Option.bind_some, whole_nil]

/-- A key is read back, in front of any further bytes. -/
theorem takeKey_bytes (f : KeyFields) (t : Body) (h0 : f.surface < 256) (h1 : f.speed < 256) (h2 : f.zone < 256) :
    takeKey (f.bytes ++ t) = some (f, t) := by
  simp (disch := omega) only [takeKey, KeyFields.bytes, List.append_assoc, takeNat_natBytes,
    Option.bind_eq_bind, Option.bind_some]

theorem readKey_bytes (f : KeyFields) (h0 : f.surface < 256) (h1 : f.speed < 256) (h2 : f.zone < 256) :
    readKey f.bytes = some f := by
  have hk := takeKey_bytes f [] h0 h1 h2
  rw [List.append_nil] at hk
  rw [readKey, hk, whole_nil]

theorem readPutCal_bytes (f : PutCalFields) (h0 : f.key.surface < 256) (h1 : f.key.speed < 256)
    (h2 : f.key.zone < 256) (h3 : f.peak < 256 ^ 3) (h4 : f.bias < 256 ^ 2) (h5 : f.cool < 256 ^ 2)
    (h6 : -32768 ≤ f.target) (h7 : f.target ≤ 32767) : readPutCal f.bytes = some f := by
  simp (disch := omega) only [readPutCal, PutCalFields.bytes, List.append_assoc, takeKey_bytes f.key _ h0 h1 h2,
    takeNat_natBytes, takeInt_intBytes_end, Option.bind_eq_bind, Option.bind_some, whole_nil]

theorem readGetCal_bytes (f : GetCalFields) (h0 : f.surface < 256) (h1 : f.speed < 256)
    (h2 : ∀ z, f.zone = some z → z < 256) : readGetCal f.bytes = some f := by
  have ho : takeOptional f.zone.isSome (takeNat 1) (optionalBytes (natBytes 1) f.zone) = some (f.zone, []) :=
    takeOptional_bytes_end _ _ _ fun y hy => takeNat_natBytes_end 1 y (by have := h2 y hy; omega)
  simp (disch := omega) only [readGetCal, GetCalFields.bytes, List.append_assoc, takeNat_natBytes, takePresence_one,
    Option.bind_eq_bind, Option.bind_some, testBit_toNat_zero, ho, whole_nil]

theorem readCalibrate_bytes (f : CalibrateFields) (h : f.fits) : readCalibrate f.bytes = some f := by
  obtain ⟨h0, h1, h2, h3, h4, ht, hb, hc⟩ := h
  have htarget (t : Body) : takeOptional f.target.isSome (takeInt 2) (optionalBytes (intBytes 2) f.target ++ t) =
      some (f.target, t) :=
    takeOptional_bytes _ _ _ _ fun y hy =>
      takeInt_intBytes 2 y t (by have := ht y hy; omega) (by have := ht y hy; omega)
  have hbias (t : Body) : takeOptional f.bias.isSome (takeNat 2) (optionalBytes (natBytes 2) f.bias ++ t) =
      some (f.bias, t) := takeOptional_bytes _ _ _ _ fun y hy => takeNat_natBytes 2 y t (hb y hy)
  have hcool : takeOptional f.cool.isSome (takeNat 2) (optionalBytes (natBytes 2) f.cool) = some (f.cool, []) :=
    takeOptional_bytes_end _ _ _ fun y hy => takeNat_natBytes_end 2 y (hc y hy)
  obtain ⟨b0, b1, b2⟩ := testBit_presence_three f.target.isSome f.bias.isSome f.cool.isSome
  simp (disch := omega) only [readCalibrate, CalibrateFields.bytes, List.append_assoc, takeNat_natBytes,
    takePresence_three, Option.bind_eq_bind, Option.bind_some, b0, b1, b2, htarget, hbias, hcool, whole_nil]

theorem StrategyEntry.fits_iff (e : StrategyEntry) :
    e.fits ↔ (-128 ≤ e.leadDelay ∧ e.leadDelay ≤ 127) ∧ (-128 ≤ e.leadWidth ∧ e.leadWidth ≤ 127) ∧
      (-128 ≤ e.midWidth ∧ e.midWidth ≤ 127) ∧ (-128 ≤ e.tailWidth ∧ e.tailWidth ≤ 127) ∧
      (-128 ≤ e.coolWidth ∧ e.coolWidth ≤ 127) := by
  simp [StrategyEntry.fits, StrategyEntry.fields]

theorem readStrategy_bytes (f : StrategyFields) (h0 : f.speed < 256) (h1 : f.mark < 256) (h : f.entry.fits) :
    readStrategy f.bytes = some f := by
  obtain ⟨⟨a0, b0⟩, ⟨a1, b1⟩, ⟨a2, b2⟩, ⟨a3, b3⟩, a4, b4⟩ := f.entry.fits_iff.1 h
  simp (disch := omega) only [readStrategy, StrategyFields.bytes, StrategyEntry.bytes, List.append_assoc,
    takeNat_natBytes, takeInt_intBytes, takeInt_intBytes_end, Option.bind_eq_bind, Option.bind_some, whole_nil]

theorem readGetStrategy_bytes (v : Option Nat) (h : ∀ x, v = some x → x < 256) :
    readGetStrategy (getStrategyBytes v) = some v := by
  have ho : takeOptional v.isSome (takeNat 1) (optionalBytes (natBytes 1) v) = some (v, []) :=
    takeOptional_bytes_end _ _ _ fun y hy => takeNat_natBytes_end 1 y (by have := h y hy; omega)
  simp only [readGetStrategy, getStrategyBytes, takePresence_one, Option.bind_eq_bind, Option.bind_some,
    testBit_toNat_zero, ho, whole_nil]

theorem readSegment_bytes (f : SegmentFields) (h0 : f.tag < 256 ^ 2) (h1 : f.surface < 256) (h2 : f.link < 256)
    (h3 : f.count < 256 ^ 2) (h4 : ∀ x, f.start = some x → x < 256 ^ 3) : readSegment f.bytes = some f := by
  have ho : takeOptional f.start.isSome (takeNat 3) (optionalBytes (natBytes 3) f.start) = some (f.start, []) :=
    takeOptional_bytes_end _ _ _ fun y hy => takeNat_natBytes_end 3 y (h4 y hy)
  simp (disch := omega) only [readSegment, SegmentFields.bytes, List.append_assoc, takeNat_natBytes,
    takePresence_one, Option.bind_eq_bind, Option.bind_some, testBit_toNat_zero, ho, whole_nil]

theorem readRpc_bytes (f : RpcFields) (h0 : f.enable < 256) (h1 : f.deadband < 256) (h2 : f.step < 256) :
    readRpc f.bytes = some f := by
  simp (disch := omega) only [readRpc, RpcFields.bytes, List.append_assoc, takeNat_natBytes,
    takeNat_natBytes_end, Option.bind_eq_bind, Option.bind_some, whole_nil]

theorem readProtect_bytes (f : ProtectFields) (h0 : f.surface < 256) (h1 : f.code < 256) (h2 : f.side < 256)
    (h3 : f.complement < 256) : readProtect f.bytes = some f := by
  simp (disch := omega) only [readProtect, ProtectFields.bytes, List.append_assoc, takeNat_natBytes,
    takeNat_natBytes_end, Option.bind_eq_bind, Option.bind_some, whole_nil]

/-- An entry of SET_MASK is read back, in front of any further bytes. -/
theorem takeMask_bytes (f : MaskFields) (t : Body) (h0 : f.event < 256) (h1 : f.setting < 256) :
    takeMask (f.bytes ++ t) = some (f, t) := by
  simp (disch := omega) only [takeMask, MaskFields.bytes, List.append_assoc, takeNat_natBytes,
    Option.bind_eq_bind, Option.bind_some]

theorem readMasks_bytes (l : List MaskFields) (hl : l.length < 256)
    (h : ∀ x ∈ l, x.event < 256 ∧ x.setting < 256) : readMasks (maskListBytes l) = some l := by
  rw [readMasks, maskListBytes, takeList_listBytes_end _ _ l hl fun x hx u =>
    takeMask_bytes x u (h x hx).1 (h x hx).2, whole_nil]

theorem readBank_bytes (f : BankFields) (h : f.fits) : readBank f.bytes = some f := by
  obtain ⟨h0, h1, h2, h3, h4, h5, h6, h7, h8, h9⟩ := h
  simp (disch := omega) only [readBank, BankFields.bytes, charBytes, List.append_assoc, takeNat_natBytes,
    takeNat_natBytes_end, takeInt_intBytes, Option.bind_eq_bind, Option.bind_some, whole_nil]

/-- Two's complement of an integer that is not negative is the integer itself. -/
theorem intBytes_nonneg (n : Nat) (v : Int) (h0 : 0 ≤ v) (h1 : v < 256 ^ n) : intBytes n v = natBytes n v.toNat := by
  rw [intBytes, Int.emod_eq_of_lt h0 h1]

/-- Two's complement of a negative integer is its distance below the next power. -/
theorem intBytes_neg (n : Nat) (v : Int) (h0 : v < 0) (h1 : -(256 ^ n) ≤ v) :
    intBytes n v = natBytes n (256 ^ n + v).toNat := by
  rw [intBytes, ← Int.add_emod_left, Int.emod_eq_of_lt (by omega) (by omega)]

/-- A presence byte of up to four fields weighs each bit by its place. -/
theorem presence_weights (a b c d : Bool) :
    presence [a] = natBytes 1 a.toNat ∧ presence [a, b] = natBytes 1 (a.toNat + 2 * b.toNat) ∧
      presence [a, b, c] = natBytes 1 (a.toNat + 2 * b.toNat + 4 * c.toNat) ∧
      presence [a, b, c, d] = natBytes 1 (a.toNat + 2 * b.toNat + 4 * c.toNat + 8 * d.toNat) := by
  cases a <;> cases b <;> cases c <;> cases d <;> decide

/-- Each enumeration's byte is its place in its owner's list. -/
theorem namesAreTheirPlaces : NamesAreTheirPlaces := by
  unfold NamesAreTheirPlaces
  decide

/-- Settles O60: one lemma for each body, above; each reads its fields off in the order in which they were put. -/
theorem bodiesAreReadBack : Obligations.BodiesAreReadBack := by
  refine ⟨readMode_bytes, readNames_bytes, readOffset_bytes, readWindow_bytes, readReadPower_bytes, readDisc_bytes,
    readZones_bytes, readPutCal_bytes, readKey_bytes, readGetCal_bytes, readArea_bytes, readCalibrate_bytes,
    readStrategy_bytes, readGetStrategy_bytes, readSegment_bytes, readRpc_bytes, readProtect_bytes, readMasks_bytes,
    readBank_bytes, readNat_natBytes, fun v => ⟨by simp [natBytes], fun n => rfl⟩,
    fun n v => ⟨intBytes_nonneg n v, intBytes_neg n v⟩, fun a b c d => ⟨rfl, presence_weights a b c d⟩,
    fun α f x => ⟨rfl, rfl⟩, namesAreTheirPlaces⟩

end Sys2Proof.Machine
end

section
/-! SUPPORT. The moves of the recording path: the few writes that every handling of WGC and TCU is made of, and for each
shared operation that it is made of them. What all of the moves keep, every handling keeps. -/

namespace Sys2Proof.Machine

/-- The events that no handling of the recording path triggers: those of the windows (R172) and that of APC (R66). -/
def eventAside (e : Event) : Bool := e.channel.isSome || decide (e = .apcLimit)

theorem eventAside_window (c : Channel) : eventAside c.event = true := by cases c <;> rfl

/-- What the Event Unit may have come to within a handling (R173, R177): queue, count, masks and senses stand, no latch is
cleared, none of an event aside is touched, and the notices generated before still wait, in their order. -/
structure Eu.Follows (x u : Eu) : Prop where
  notices : x.notices = u.notices
  dropped : x.dropped = u.dropped
  unmasked : x.unmasked = u.unmasked
  senses : x.senses = u.senses
  inhibitSense : x.inhibitSense = u.inhibitSense
  latched : ∀ e, u.latches.get e = true → x.latches.get e = true
  aside : ∀ e : Event, eventAside e = true → x.latches.get e = u.latches.get e
  outbox : u.outbox.map Posted.notice <+: x.outbox.map Posted.notice

theorem Eu.Follows.refl (u : Eu) : u.Follows u :=
  ⟨rfl, rfl, rfl, rfl, rfl, fun _ h => h, fun _ _ => rfl, List.prefix_rfl⟩

theorem Eu.Follows.trans {x y u : Eu} (h : x.Follows y) (k : y.Follows u) : x.Follows u :=
  ⟨h.notices.trans k.notices, h.dropped.trans k.dropped, h.unmasked.trans k.unmasked, h.senses.trans k.senses,
    h.inhibitSense.trans k.inhibitSense, fun e he => h.latched e (k.latched e he),
    fun e he => (h.aside e he).trans (k.aside e he), k.outbox.trans h.outbox⟩

theorem Eu.post_follows (u : Eu) (p : Poster) (n : Notice) : (u.post p n).Follows u :=
  ⟨rfl, rfl, rfl, rfl, rfl, fun _ h => h, fun _ _ => rfl, by simp [Eu.post]⟩

theorem ne_of_eventAside {d e : Event} (hd : eventAside d = true) (he : eventAside e = false) : d ≠ e := by
  rintro rfl
  exact absurd (hd.symm.trans he) (by decide)

/-- A trigger of another event is such a change. -/
theorem Eu.trigger_follows (u : Eu) (e : Event) (h : eventAside e = false) : (u.trigger e).Follows u := by
  have latched : ({ u with latches := u.latches.put e true } : Eu).Follows u :=
    ⟨rfl, rfl, rfl, rfl, rfl, fun d hd => by simp [hd], fun d hd => by simp [ne_of_eventAside hd h],
      List.prefix_rfl⟩
  unfold Eu.trigger
  split
  · exact Eu.Follows.refl u
  · dsimp only
    split
    · exact (Eu.post_follows _ _ _).trans latched
    · exact latched

/-- A trigger that may or may not come is such a change. -/
theorem Eu.ite_trigger_follows (u : Eu) (e : Event) (h : eventAside e = false) (c : Bool) :
    (if c then u.trigger e else u).Follows u := by
  cases c
  · exact Eu.Follows.refl u
  · exact u.trigger_follows e h

theorem Eu.hold_follows (u : Eu) (n : Nat) (ps : List Poster) : (u.hold n ps).Follows u := by
  obtain ⟨h1, h2, h3, h4, h5, h6, h7⟩ := Eu.hold_frame u n ps
  exact ⟨h5, h6, h2, h3, h4, fun e he => h1 ▸ he, fun e _ => by rw [h1], by rw [h7]⟩

/-- What a write of WGC's state within a handling leaves: gate and user, which the gate's own moves write, and the
settings; the latch is not set, the queue does not grow, and the correction is held to its range (R151). -/
structure Wgc.Follows (x w : Wgc) : Prop where
  gate : x.gate = w.gate
  user : x.user = w.user
  arm : x.arm = true → w.arm = true
  queue : x.queue.length ≤ w.queue.length
  correction : x.correction = w.correction ∨ (850 ≤ x.correction ∧ x.correction ≤ 1150)
  rpcOn : x.rpcOn = w.rpcOn
  deadband : x.deadband = w.deadband
  rpcStep : x.rpcStep = w.rpcStep
  waitLimit : x.waitLimit = w.waitLimit

theorem Wgc.Follows.disarmed {x w : Wgc} (h : x.Follows w) : ({ x with arm := false } : Wgc).Follows w :=
  ⟨h.gate, h.user, fun k => absurd k (by simp), h.queue, h.correction, h.rpcOn, h.deadband, h.rpcStep, h.waitLimit⟩

/-- What a change of the stream leaves of WSG: the speed class and the entries. -/
def Wsg.Streams (x w : Wsg) : Prop := x.speed = w.speed ∧ x.entries = w.entries

/-- One write of the recording path. -/
inductive Move : State → State → Prop where
  | shut (w : Option GateUser) (s : State) : Move s (shutGate w s)
  | opened (u : GateUser) (s : State) : Move s (openGate u s)
  | powers (p : PowerSet) (s : State) : Move s (handPowers p s)
  | stream (w : Wsg) (s : State) (h : w.Streams s.wsg) : Move s (setStream w s)
  | wgc (w : Wgc) (s : State) (h : w.Follows s.wgc) : Move s (s.setWgc w)
  | tcu (x : Tcu) (s : State) : Move s (s.setTcu x)
  | records (r : Two (Four (Eight CalRecord))) (s : State) : Move s (s.setCt { s.ct with records := r })
  | events (u : Eu) (s : State) (h : u.Follows s.eu) : Move s (s.setEu u)
  | free (n : Nat) (s : State) : Move s (s.setFree n)

/-- A handling of the recording path: any number of moves. -/
def Moves : State → State → Prop := Relation.ReflTransGen Move

namespace Moves

variable {s t : State}

theorem refl (s : State) : Moves s s := Relation.ReflTransGen.refl

theorem trans {u : State} (h : Moves s t) (k : Moves t u) : Moves s u := Relation.ReflTransGen.trans h k

theorem tail {u : State} (h : Moves s t) (k : Move t u) : Moves s u := Relation.ReflTransGen.tail h k

/-- What every move keeps, a handling keeps. -/
theorem keeps {P : State → Prop} (hP : ∀ s t, Move s t → P s → P t) (h : Moves s t) (hs : P s) : P t := by
  induction h with
  | refl => exact hs
  | tail _ k ih => exact hP _ _ k ih

theorem shut (h : Moves s t) (w : Option GateUser) : Moves s (shutGate w t) := h.tail (.shut w t)
theorem openGate (h : Moves s t) (u : GateUser) : Moves s (openGate u t) := h.tail (.opened u t)
theorem handPowers (h : Moves s t) (p : PowerSet) : Moves s (handPowers p t) := h.tail (.powers p t)
theorem setStream (h : Moves s t) {w : Wsg} (hw : w.Streams t.wsg) : Moves s (setStream w t) := h.tail (.stream w t hw)
theorem setWgc (h : Moves s t) {w : Wgc} (hw : w.Follows t.wgc) : Moves s (t.setWgc w) := h.tail (.wgc w t hw)
theorem setTcu (h : Moves s t) (x : Tcu) : Moves s (t.setTcu x) := h.tail (.tcu x t)
theorem setEu (h : Moves s t) {u : Eu} (hu : u.Follows t.eu) : Moves s (t.setEu u) := h.tail (.events u t hu)
theorem post (h : Moves s t) (p : Poster) (n : Notice) : Moves s (post p n t) := h.setEu (t.eu.post_follows p n)

theorem trigger (h : Moves s t) {e : Event} (he : eventAside e = false) : Moves s (trigger e t) :=
  h.setEu (t.eu.trigger_follows e he)

theorem following (h : Moves s t) (ps : List Poster) {f : State → State} (hf : Moves t (f t)) :
    Moves s (following ps f t) := (h.trans hf).setEu ((f t).eu.hold_follows _ _)

/-- A change of the head changes no length. -/
theorem mapHead_follows (w : Wgc) (f : Segment → Segment) : (w.mapHead f).Follows w := by
  unfold Wgc.mapHead
  split
  · exact ⟨rfl, rfl, id, le_rfl, .inl rfl, rfl, rfl, rfl, rfl⟩
  · next h => exact ⟨rfl, rfl, id, by simp [h], .inl rfl, rfl, rfl, rfl, rfl⟩

theorem suspendHead (h : Moves s t) (why : SegReason) : Moves s (suspendHead why t) := by
  unfold Machine.suspendHead
  split
  · exact h
  · exact (h.setWgc (mapHead_follows _ _)).post _ _

theorem haltHead (h : Moves s t) (why : SegReason) (d : Option Nat) : Moves s (haltHead why d t) := by
  unfold Machine.haltHead
  split
  · exact h
  · exact (h.setWgc (mapHead_follows _ _).disarmed).post _ _

theorem dropHead (h : Moves s t) : Moves s (dropHead t) :=
  h.setWgc ⟨rfl, rfl, id, by simp, .inl rfl, rfl, rfl, rfl, rfl⟩

theorem clearReturns (h : Moves s t) : Moves s (clearReturns t) :=
  h.setWgc ⟨rfl, rfl, id, le_rfl, .inl rfl, rfl, rfl, rfl, rfl⟩

theorem haltAtOnce (h : Moves s t) (why : SegReason) : Moves s (haltAtOnce why t) := by
  unfold Machine.haltAtOnce
  split
  · exact h
  · split
    · exact (h.shut none).clearReturns.haltHead _ _
    · exact h

theorem proceed (h : Moves s t) (k : Nat) : Moves s (proceed k t) := by
  induction k generalizing t with
  | zero => exact h
  | succ k ih =>
    unfold Machine.proceed
    split
    · exact h
    · split
      · exact h
      · split
        · exact h.suspendHead _
        · split
          · exact h
          · split
            · exact ih (h.dropHead.post _ _)
            · obtain ⟨a, b, c, d, e, f, g, i, j⟩ :=
                mapHead_follows (shutGate (some .segment) t).wgc fun h => { h with state := .waiting }
              exact (h.shut _).setWgc ⟨a, b, c, d, e, f, g, i, j⟩

theorem newHead (h : Moves s t) : Moves s (newHead t) := h.proceed _

theorem waitOn (h : Moves s t) : Moves s (waitOn t) := by
  have counted : Moves s (t.setWgc { t.wgc with wait := t.wgc.wait + 1 }) :=
    h.setWgc ⟨rfl, rfl, id, le_rfl, .inl rfl, rfl, rfl, rfl, rfl⟩
  unfold Machine.waitOn
  dsimp only
  split
  · exact (counted.shut none).haltHead _ _
  · exact counted

theorem openSegment (h : Moves s t) (g : Segment) : Moves s (openSegment g t) := by
  unfold Machine.openSegment
  split
  · exact (h.shut none).suspendHead _
  · split
    · exact (h.shut none).haltHead _ _
    · split
      · exact (h.shut none).haltHead _ _
      · split
        · exact (h.shut none).haltHead _ _
        · obtain ⟨a, b, c, d, -, f, g, i, j⟩ := mapHead_follows
            { t.wgc with correction := 1000, wRef := none, returns := { sum := 0, count := 0 }, wait := 0 }
            fun h => { h with state := .writing }
          have begun := h.setWgc ⟨a, b, c, d, .inr (by unfold Wgc.mapHead; split <;> simp), f, g, i, j⟩
          exact (begun.handPowers _).openGate .segment

theorem rpcUpdate (h : Moves s t) : Moves s (rpcUpdate t) := by
  unfold Machine.rpcUpdate
  split
  · exact h
  · split
    · exact h
    · split
      · exact h.setWgc ⟨rfl, rfl, id, le_rfl, .inl rfl, rfl, rfl, rfl, rfl⟩
      · dsimp only
        have range (x : Int) : 850 ≤ (clampInt 850 1150 x).toNat ∧ (clampInt 850 1150 x).toNat ≤ 1150 := by
          simp only [clampInt]
          omega
        refine (h.setWgc ?_).setEu ?_
        · obtain ⟨a, b, c, d, -, f, g, i, j⟩ := mapHead_follows
            { t.wgc with correction := _ } fun h => { h with largest := _, limitMark := _ }
          exact ⟨a, b, c, d, .inr (by unfold Wgc.mapHead; split <;> exact range _), f, g, i, j⟩
        · exact Eu.ite_trigger_follows _ _ rfl _

theorem completeHead (h : Moves s t) : Moves s (completeHead t) := by
  unfold Machine.completeHead
  split
  · exact h
  · exact h.dropHead.post _ _

theorem continueHead (h : Moves s t) (g : Segment) : Moves s (continueHead g t) := by
  unfold Machine.continueHead
  split
  · exact (((h.shut none).dropHead).post _ _).newHead
  · split
    · exact (h.shut none).suspendHead _
    · split
      · exact (h.shut none).haltHead _ _
      · split
        · exact (h.shut none).haltHead _ _
        · exact (h.setWgc (mapHead_follows _ _)).handPowers _

theorem afterComplete (h : Moves s t) (f : Surface) (a : Nat) : Moves s (afterComplete f a t) := by
  unfold Machine.afterComplete
  split
  · exact h.shut none
  · split
    · exact h.continueHead _
    · exact (h.shut none).newHead

theorem countBlock (h : Moves s t) : Moves s (countBlock t) := by
  unfold Machine.countBlock
  split
  · exact h
  · obtain ⟨a, b, c, d, e, f, g, i, j⟩ := mapHead_follows t.wgc fun h => { h with done := h.done + 1 }
    exact h.setWgc ⟨a, b, c, d, e, f, g, i, j⟩

theorem afterBlock (h : Moves s t) (f : Surface) (a : Nat) : Moves s (afterBlock f a t) := by
  unfold Machine.afterBlock
  split
  · exact h
  · split
    · exact h.completeHead.afterComplete f a
    · split
      · exact (h.shut none).suspendHead _
      · split
        · exact (h.shut none).haltHead _ _
        · split
          · exact (h.shut none).haltHead _ _
          · exact h.handPowers _

theorem endBlock (h : Moves s t) (f : Surface) (a : Nat) : Moves s (endBlock f a t) :=
  h.countBlock.rpcUpdate.clearReturns.afterBlock f a

theorem wgcBoundary (h : Moves s t) (f : Surface) (a : Nat) (b : BoundaryKind) : Moves s (wgcBoundary f a b t) := by
  unfold Machine.wgcBoundary
  split
  · exact h
  · split
    · split
      · exact h.openSegment _
      · exact h.waitOn
    · exact h.endBlock f a
    · exact h.endBlock f a
    · exact h
    · exact h
    · exact h

theorem wgcPositionLost (h : Moves s t) (r : PositionReport) : Moves s (wgcPositionLost r t) := by
  unfold Machine.wgcPositionLost
  split
  · exact h
  · split
    · exact (h.shut none).haltHead _ _
    · exact h.haltAtOnce _

theorem wgcReturn (h : Moves s t) (v : Nat) : Moves s (wgcReturn v t) := by
  unfold Machine.wgcReturn
  split
  · exact h.setWgc ⟨rfl, rfl, id, le_rfl, .inl rfl, rfl, rfl, rfl, rfl⟩
  · exact h

theorem pauseHead (h : Moves s t) (why : SegReason) : Moves s (pauseHead why t) := by
  unfold Machine.pauseHead
  split
  · exact h
  · split
    · exact h.suspendHead _
    · exact (h.shut none).suspendHead _
    · exact h.setWgc (mapHead_follows _ _)
    · exact h
    · exact h
    · exact h

theorem wgcInhibit (h : Moves s t) : Moves s (wgcInhibit t) := by
  have cleared : Moves s (t.setWgc { t.wgc with arm := false }) :=
    h.setWgc ⟨rfl, rfl, fun k => absurd k (by simp), le_rfl, .inl rfl, rfl, rfl, rfl, rfl⟩
  unfold Machine.wgcInhibit
  dsimp only
  split
  · exact cleared
  · split
    · exact cleared.pauseHead _
    · exact cleared

theorem wgcExitPending (h : Moves s t) : Moves s (wgcExitPending t) :=
  (h.setWgc (w := { t.wgc with exitMark := true }) ⟨rfl, rfl, id, le_rfl, .inl rfl, rfl, rfl, rfl, rfl⟩).pauseHead _

theorem wgcExitWithdrawn (h : Moves s t) : Moves s (wgcExitWithdrawn t) :=
  h.setWgc ⟨rfl, rfl, id, le_rfl, .inl rfl, rfl, rfl, rfl, rfl⟩

theorem haltForMode (h : Moves s t) (why : SegReason) : Moves s (haltForMode why t) := by
  unfold Machine.haltForMode
  split
  · exact h
  · split
    · exact (h.shut none).haltHead _ _
    · exact h.haltAtOnce _

theorem flushQueue (h : Moves s t) : Moves s (flushQueue t) := by
  have flushed : Moves s (t.setWgc { t.wgc with queue := [] }) :=
    h.setWgc ⟨rfl, rfl, id, by simp, .inl rfl, rfl, rfl, rfl, rfl⟩
  unfold Machine.flushQueue
  dsimp only
  split
  · exact flushed
  · exact flushed.post _ _

theorem clearMarks (h : Moves s t) : Moves s (clearMarks t) :=
  h.setWgc ⟨rfl, rfl, fun h => (Bool.and_eq_true_iff.1 h).1, le_rfl, .inl rfl, rfl, rfl, rfl, rfl⟩

theorem wgcModeReaction (h : Moves s t) : Moves s (wgcModeReaction t) := by
  unfold Machine.wgcModeReaction
  split
  · exact h.clearMarks
  · exact h.clearMarks.newHead
  · exact h.clearMarks
  · exact ((h.clearMarks.haltForMode _).shut none).flushQueue
  · exact ((h.clearMarks.haltForMode _).shut none).flushQueue
  · exact (h.clearMarks.haltForMode _).shut none

theorem putRecord (h : Moves s t) (k : CalKey) (r : CalRecord) : Moves s (t.setCt (t.ct.putRecord k r)) :=
  h.tail (.records _ t)

theorem settleRecord (h : Moves s t) (x : Trial) (p : Option Nat) : Moves s (settleRecord x p t) := by
  unfold Machine.settleRecord
  split
  · exact h.putRecord _ _
  · exact h.putRecord _ _

theorem setTrial (h : Moves s t) (x : Trial) : Moves s (setTrial x t) := h.setTcu _

theorem setPointer (h : Moves s t) (f : Surface) (n : Nat) : Moves s (setPointer f n t) := h.setTcu _

theorem endTrial (h : Moves s t) (o : TrialOutcome) (r : Option TrialReason) (p : Option Nat) :
    Moves s (endTrial o r p t) := by
  unfold Machine.endTrial
  split
  · exact h
  · next x _ =>
    dsimp only
    have closed : Moves s (if t.wgc.gate = .opened then shutGate (some .trial) t else t) := by
      split
      · exact h.shut _
      · exact h
    exact ((((closed.settleRecord x p).post _ _).shut none).following _ (newHead (refl _))).setTcu _

theorem abortTrial (h : Moves s t) (why : TrialReason) : Moves s (abortTrial why t) := h.endTrial _ _ _

theorem trialWaitOn (h : Moves s t) (x : Trial) : Moves s (trialWaitOn x t) := by
  unfold Machine.trialWaitOn
  dsimp only
  split
  · exact (h.setTrial _).endTrial _ _ _
  · exact h.setTrial _

theorem trialOpen (h : Moves s t) (x : Trial) : Moves s (trialOpen x t) :=
  (((h.setTrial _).setPointer _ _).handPowers _).openGate .trial

theorem beginPattern_streams (w : Wsg) : w.beginPattern.Streams w := by
  unfold Wsg.beginPattern Wsg.startTrain
  dsimp only
  split <;> exact ⟨rfl, rfl⟩

theorem trialNextStep (h : Moves s t) (x : Trial) : Moves s (trialNextStep x t) :=
  (((h.setTrial _).setPointer _ _).handPowers _).setStream (beginPattern_streams _)

theorem trialWritten (h : Moves s t) (x : Trial) : Moves s (trialWritten x t) := by
  unfold Machine.trialWritten
  dsimp only
  split
  · exact (h.shut _).abortTrial _
  · exact (h.shut _).setTrial _

theorem trialFit (h : Moves s t) (x : Trial) : Moves s (trialFit x t) := (h.setTrial x).endTrial _ _ _

theorem trialWriteWait (h : Moves s t) (x : Trial) (f : Surface) (a : Nat) (b : BoundaryKind) :
    Moves s (trialWriteWait x f a b t) := by
  unfold Machine.trialWriteWait
  split
  · exact h.abortTrial _
  · split
    · split
      · exact h.abortTrial _
      · exact h.trialOpen _
    · exact h.trialWaitOn _

theorem trialWriting (h : Moves s t) (x : Trial) : Moves s (trialWriting x t) := by
  unfold Machine.trialWriting
  split
  · split
    · exact h.abortTrial _
    · exact h.trialNextStep _
  · exact h.trialWritten _

theorem trialReadWait (h : Moves s t) (x : Trial) (f : Surface) (a : Nat) (b : BoundaryKind) :
    Moves s (trialReadWait x f a b t) := by
  unfold Machine.trialReadWait
  split
  · exact h.abortTrial _
  · split
    · exact h.setTrial _
    · exact h.trialWaitOn _

theorem trialMeasuring (h : Moves s t) (x : Trial) : Moves s (trialMeasuring x t) := by
  unfold Machine.trialMeasuring
  dsimp only
  split
  · split
    · exact (h.setTrial _).abortTrial _
    · exact h.setTrial _
  · exact h.trialFit _

theorem tcuBoundary (h : Moves s t) (f : Surface) (a : Nat) (b : BoundaryKind) : Moves s (tcuBoundary f a b t) := by
  unfold Machine.tcuBoundary
  split
  · exact h
  · split
    · exact h.trialWriteWait _ f a b
    · exact h.trialWriting _
    · exact h.trialReadWait _ f a b
    · exact h.trialMeasuring _

theorem tcuSample (h : Moves s t) (c : Channel) (v : Nat) : Moves s (tcuSample c v t) := by
  unfold Machine.tcuSample
  split
  · exact h
  · split
    · exact h.setTrial _
    · exact h

theorem tcuTracking (h : Moves s t) : Moves s (tcuTracking t) := by
  unfold Machine.tcuTracking
  split
  · exact h
  · split
    · exact h.abortTrial _
    · exact h

theorem tcuPositionLost (h : Moves s t) (r : PositionReport) : Moves s (tcuPositionLost r t) := h.abortTrial _

theorem tcuSupply (h : Moves s t) : Moves s (tcuSupply t) := by
  unfold Machine.tcuSupply
  split
  · exact h
  · split
    · exact h.abortTrial _
    · exact h

theorem tcuInhibit (h : Moves s t) : Moves s (tcuInhibit t) := by
  unfold Machine.tcuInhibit
  split
  · exact h
  · split
    · exact h.setTrial _
    · exact h

theorem tcuExitPending (h : Moves s t) : Moves s (tcuExitPending t) := by
  unfold Machine.tcuExitPending
  split
  · exact h
  · exact h.setTrial _

theorem tcuExitWithdrawn (h : Moves s t) : Moves s (tcuExitWithdrawn t) := by
  unfold Machine.tcuExitWithdrawn
  split
  · exact h
  · exact h.setTrial _

theorem tcuModeReaction (h : Moves s t) (a b : Mode) : Moves s (tcuModeReaction a b t) := by
  unfold Machine.tcuModeReaction
  split
  · exact h.abortTrial _
  · split
    · exact h.abortTrial _
    · exact h

theorem bothTake (h : Moves s t) {w x : State → State} (hw : ∀ {u}, Moves s u → Moves s (w u))
    (hx : ∀ {u}, Moves s u → Moves s (x u)) : Moves s (bothTake w x t) := by
  have drawn : Moves s t.draw.2 := h.tail (.free _ t)
  unfold Machine.bothTake
  dsimp only
  split
  · split
    · exact hx (hw drawn)
    · exact (hw (hx drawn)).setEu ((w _).eu.hold_follows _ _)
  · exact hx (hw h)

theorem deliverBoundary (h : Moves s t) (f : Surface) (a : Nat) (b : BoundaryKind) :
    Moves s (deliverBoundary f a b t) := h.bothTake (fun k => k.wgcBoundary f a b) (fun k => k.tcuBoundary f a b)

theorem deliverReport (h : Moves s t) (r : PositionReport) : Moves s (deliverReport r t) :=
  h.following _ ((refl t).bothTake (fun k => k.wgcPositionLost r) (fun k => k.tcuPositionLost r))

theorem judgeStale (h : Moves s t) : Moves s (judgeStale t) := by
  unfold Machine.judgeStale
  exact (h.tail (.records _ t)).setEu (Eu.ite_trigger_follows _ _ rfl _)

theorem continueStopped (h : Moves s t) : Moves s (continueStopped t) := (h.setWgc (mapHead_follows _ _)).newHead

theorem countDamaged (h : Moves s t) (a : Nat) : Moves s (countDamaged a t) := by
  unfold Machine.countDamaged
  split
  · exact h
  · obtain ⟨a, b, c, d, e, f, g, i, j⟩ := mapHead_follows t.wgc fun h => { h with done := h.done + 1 }
    exact h.setWgc ⟨a, b, c, d, e, f, g, i, j⟩

theorem resumeHalted (h : Moves s t) (g : Segment) : Moves s (resumeHalted g t).1 := by
  have cleared : Moves s (t.setWgc { t.wgc with arm := false }) :=
    h.setWgc ⟨rfl, rfl, fun k => absurd k (by simp), le_rfl, .inl rfl, rfl, rfl, rfl, rfl⟩
  unfold Machine.resumeHalted
  dsimp only
  split
  · exact cleared.continueStopped
  · split
    · split
      · exact (cleared.countDamaged _).completeHead.newHead
      · exact (cleared.countDamaged _).continueStopped
    · exact cleared.continueStopped

theorem abortHead (h : Moves s t) (g : Segment) : Moves s (abortHead g t) := by
  unfold Machine.abortHead
  dsimp only
  refine ((dropHead ?_).post _ _).newHead
  split
  · exact (h.shut none).clearReturns
  · split
    · exact h.shut none
    · exact h

end Moves

/-- A move leaves the blocks that are not of the recording path, and of CT everything but the records. -/
theorem Move.frame {s t : State} (h : Move s t) :
    t.mc = s.mc ∧ t.pt = s.pt ∧ t.mon = s.mon ∧ t.pu = s.pu ∧ t.cl = s.cl ∧ t.cs = s.cs ∧ t.lines = s.lines ∧
      t.pending = s.pending ∧ t.ct = { s.ct with records := t.ct.records } := by
  cases h <;> exact ⟨rfl, rfl, rfl, rfl, rfl, rfl, rfl, rfl, rfl⟩

/-- A move changes the Event Unit as a handling may. -/
theorem Move.eu_follows {s t : State} (h : Move s t) : t.eu.Follows s.eu := by
  cases h with
  | powers p =>
    have computed : (recompute (s.setLdu { s.ldu with writeSet := some p })).eu.Follows s.eu :=
      Eu.ite_trigger_follows _ _ rfl _
    exact (Eu.hold_follows _ _ _).trans computed
  | events _ _ h => exact h
  | _ => exact Eu.Follows.refl _

/-- A move leaves of LDU what only its own commands and MON's completions change. -/
theorem Move.ldu_frame {s t : State} (h : Move s t) :
    t.ldu.readPower = s.ldu.readPower ∧ t.ldu.apcOn = s.ldu.apcOn ∧ t.ldu.ioff = s.ldu.ioff ∧
      t.ldu.clampMark = s.ldu.clampMark := by
  cases h <;> exact ⟨rfl, rfl, rfl, rfl⟩

/-- A move leaves the speed class and the strategy entries. -/
theorem Move.wsg_frame {s t : State} (h : Move s t) : t.wsg.Streams s.wsg := by
  cases h with
  | opened u =>
    cases u
    · exact ⟨rfl, rfl⟩
    · exact Moves.beginPattern_streams _
  | stream _ _ h => exact h
  | _ => exact ⟨rfl, rfl⟩

theorem Moves.frame {s t : State} (h : Moves s t) :
    t.mc = s.mc ∧ t.pt = s.pt ∧ t.mon = s.mon ∧ t.pu = s.pu ∧ t.cl = s.cl ∧ t.cs = s.cs ∧ t.lines = s.lines ∧
      t.pending = s.pending ∧ t.ct = { s.ct with records := t.ct.records } := by
  induction h with
  | refl => exact ⟨rfl, rfl, rfl, rfl, rfl, rfl, rfl, rfl, rfl⟩
  | tail _ k ih =>
    obtain ⟨a1, a2, a3, a4, a5, a6, a7, a8, a9⟩ := ih
    obtain ⟨b1, b2, b3, b4, b5, b6, b7, b8, b9⟩ := k.frame
    exact ⟨b1.trans a1, b2.trans a2, b3.trans a3, b4.trans a4, b5.trans a5, b6.trans a6, b7.trans a7, b8.trans a8,
      by rw [b9, a9]⟩

theorem Moves.eu_follows {s t : State} (h : Moves s t) : t.eu.Follows s.eu :=
  h.keeps (P := fun t => t.eu.Follows s.eu) (fun _ _ k ih => k.eu_follows.trans ih) (Eu.Follows.refl _)

theorem Moves.ldu_frame {s t : State} (h : Moves s t) :
    t.ldu.readPower = s.ldu.readPower ∧ t.ldu.apcOn = s.ldu.apcOn ∧ t.ldu.ioff = s.ldu.ioff ∧
      t.ldu.clampMark = s.ldu.clampMark := by
  induction h with
  | refl => exact ⟨rfl, rfl, rfl, rfl⟩
  | tail _ k ih =>
    obtain ⟨a1, a2, a3, a4⟩ := ih
    obtain ⟨b1, b2, b3, b4⟩ := k.ldu_frame
    exact ⟨b1.trans a1, b2.trans a2, b3.trans a3, b4.trans a4⟩

theorem Moves.wsg_frame {s t : State} (h : Moves s t) : t.wsg.Streams s.wsg :=
  h.keeps (P := fun t => t.wsg.Streams s.wsg)
    (fun _ _ k ih => ⟨k.wsg_frame.1.trans ih.1, k.wsg_frame.2.trans ih.2⟩) ⟨rfl, rfl⟩

end Sys2Proof.Machine
end

section
/-! SUPPORT. What a step can do: the acts of the machine, one for each way in which a command or an event changes the
state, and that every command is made of them; obligations O1 and O2. -/

namespace Sys2Proof.Machine

/-- One whole change of the state: an event as its block takes it, or an accepted command as its owner acts on it, with
the checks that let it. -/
inductive Act : State → State → Prop where
  | link (s : State) (c : Cl) (h : c.discard ≤ max 15 s.cl.discard) : Act s (s.setCl c)
  | linkError (s : State) : Act s (finish (trigger .linkError s))
  | noticeRead (s : State) (n : Notice) (rest : List Notice) (h : s.eu.notices = n :: rest) :
      Act s (s.setEu { s.eu with notices := rest })
  | reset (s : State) (pu : Pu) (lines : Lines) (low : Bool) : Act s (resetBlocks pu lines low s)
  | stream (s : State) (w : Wsg) (h : w.Streams s.wsg) : Act s (setStream w s)
  | ready (s : State) (on : Bool) : Act s (s.setLines { s.lines with encoderReady := on })
  | inhibit (s : State) (level : Inhibit) : Act s (lineChanged level s)
  | arrival (s : State) (v : Option (Surface × Nat)) : Act s (conclude (takeArrival v s))
  | generated (s : State) (v : Option (Surface × Nat)) (n : Nat) :
      Act s (conclude ((takeArrival v s).setPt { (takeArrival v s).pt with genNext := n }))
  | completion (s : State) (c : Channel) (raw : Nat) (h : s.mon.inFlight = some c) :
      Act s (conclude (takeCompletion c raw s))
  | written (s : State) (b : BankNo) (r x : CharRecord) : Act s (finish (writeEnds b r x s))
  | locked (s : State) (b : BankNo) (m : Bool) : Act s (finish (lockEnds b m s))
  | withdraw (s : State) : Act s (withdrawExit s)
  | grant (s : State) (m : Mode) (g : SelfTest) (hf : m ≠ .fault) (hl : legalTarget s.mc.mode m = true) :
      Act s (grantMode m g s)
  | pool (s : State) (d : Nat) (hm : s.mc.mode = .configure) (h : 2 ≤ d ∧ d ≤ 32) :
      Act s (((s.setMc { s.mc with segDepth := d }).setWgc { s.wgc with queue := [] }).setEu { s.eu with notices := [] })
  | scanList (s : State) (l : List Channel) (hs : s.mon.scanState = .stopped) (hl : 1 ≤ l.length ∧ l.length ≤ 8) :
      Act s (s.setMon { s.mon with scanList := l, position := 0 })
  | scanStart (s : State) (h : s.mon.scanList ≠ []) : Act s (s.setMon { s.mon with scanState := .running, position := 0 })
  | scanStop (s : State) (h : s.mon.scanState = .running) : Act s (s.setMon { s.mon with scanState := .stopping })
  | offset (s : State) (c : Channel) (o : Offset) (h : o.magnitude ≤ 31) :
      Act s (s.setMon { s.mon with offsets := s.mon.offsets.put c.index o })
  | window (s : State) (c : Channel) (w : Window) (h : w.low ≤ w.high ∧ w.high ≤ 4095) :
      Act s (s.setMon { s.mon with windows := s.mon.windows.put c.index w })
  | readPower (s : State) (p : Two Nat) : Act s (finish (recompute (s.setLdu { s.ldu with readPower := p })))
  | apc (s : State) (on : Bool) : Act s (s.setLdu { s.ldu with apcOn := on })
  | disc (s : State) (d : Disc) (z : Two (Option (Eight Nat))) (hm : s.mc.mode = .standby) :
      Act s (s.setCt { s.ct with disc := some d, zones := z })
  | zones (s : State) (f : Surface) (z : Two (Option (Eight Nat))) (hm : s.mc.mode = .standby) :
      Act s (s.setCt { s.ct with zones := z, records := s.ct.records.put f Ct.blankRecords })
  | unload (s : State) (hm : s.mc.mode = .standby) : Act s (discUnload s).1
  | record (s : State) (k : CalKey) (r : CalRecord) (hk : (s.ct.record k).state ≠ .trial) (hr : r.state ≠ .trial) :
      Act s (s.setCt (s.ct.putRecord k r))
  | staleSpan (s : State) (n : Nat) (h : 10 ≤ n ∧ n ≤ 600) : Act s (s.setCt { s.ct with staleSpan := n })
  | testArea (s : State) (f : Surface) (a : TestArea) (hm : s.mc.mode = .standby ∨ s.mc.mode = .read)
      (ha : a.next = a.first) : Act s (s.setTcu { s.tcu with areas := s.tcu.areas.put f (some a) })
  | calibrate (s : State) (f : CalibrateFields) (t : Trial) (h : calibrateCheck f s = .ok t) :
      Act s (shutGate (some .trial) ((setTrial t s).setCt (s.ct.beginTrial t.key)))
  | abortCal (s : State) : Act s (conclude (abortTrial .command s))
  | speed (s : State) (v : Speed) : Act s (s.setWsg { s.wsg with speed := v })
  | strategy (s : State) (x : Four (Four (Option StrategyEntry))) : Act s (s.setWsg { s.wsg with entries := x })
  | latch (s : State) (on : Bool) (h : on = true → s.mc.mode.mayWrite = true) :
      Act s (s.setWgc { s.wgc with arm := on })
  | enqueue (s : State) (f : SegmentFields) (g : Segment) (hm : s.mc.mode.mayWrite = true)
      (hg : segmentOf f s = some g) (hd : s.wgc.queue.length < s.mc.segDepth) : Act s (conclude (enqueue g s))
  | pause (s : State) : Act s (conclude (pauseHead .command s))
  | resume (s : State) (g : Segment) (rest : List Segment) (hm : s.mc.mode.mayWrite = true)
      (hq : s.wgc.queue = g :: rest) (hg : g.state = .suspended) (hu : s.wgc.user ≠ some .trial)
      (hx : s.wgc.exitMark = false) : Act s (conclude (continueStopped s))
  | resumeHalted (s : State) (g : Segment) (rest : List Segment) (hm : s.mc.mode.mayWrite = true)
      (hq : s.wgc.queue = g :: rest) (hg : g.state = .halted) (hu : s.wgc.user ≠ some .trial)
      (hx : s.wgc.exitMark = false) : Act s (conclude (resumeHalted g s).1)
  | abortSegment (s : State) (g : Segment) (rest : List Segment) (hq : s.wgc.queue = g :: rest) :
      Act s (conclude (abortHead g s))
  | rpc (s : State) (on : Bool) (d k : Nat) (hd : d ≤ 100) (hk : 1 ≤ k ∧ k ≤ 20) :
      Act s (s.setWgc { s.wgc with rpcOn := on, deadband := d, rpcStep := k })
  | waitLimit (s : State) (n : Nat) (h : 16 ≤ n ∧ n ≤ 65535) : Act s (s.setWgc { s.wgc with waitLimit := n })
  | protection (s : State) (p : Pu) (h : p.sense = s.pu.sense) : Act s (s.setPu p)
  | masks (s : State) (l : List (Event × Bool)) : Act s (finish (s.setEu (l.foldl Eu.setMask s.eu)))
  | clear (s : State) (l : List Event) : Act s (s.setEu (s.eu.clear l))
  | store (s : State) (b : Three Bank) (x : StoreState) : Act s (s.setCs { s.cs with banks := b, store := x })
  | bank (s : State) (a : ActiveBank) : Act s (finish (bankChange (s.setCs { s.cs with active := some a })))

/-- Any number of acts. -/
def Acts : State → State → Prop := Relation.ReflTransGen Act

namespace Acts

variable {s t : State}

theorem refl (s : State) : Acts s s := Relation.ReflTransGen.refl

theorem one (h : Act s t) : Acts s t := Relation.ReflTransGen.single h

theorem tail {u : State} (h : Acts s t) (k : Act t u) : Acts s u := Relation.ReflTransGen.tail h k

theorem trans {u : State} (h : Acts s t) (k : Acts t u) : Acts s u := Relation.ReflTransGen.trans h k

/-- What every act keeps, any number of them keep. -/
theorem keeps {P : State → Prop} (hP : ∀ s t, Act s t → P s → P t) (h : Acts s t) (hs : P s) : P t := by
  induction h with
  | refl => exact hs
  | tail _ k ih => exact hP _ _ k ih

/-! ### What each owner does -/

theorem requestMode (f : ModeFields) (s : State) : Acts s (requestMode f s).1 := by
  unfold Machine.requestMode judgeMode
  dsimp only
  split
  · exact refl s
  · split
    · exact refl s
    · split
      · exact refl s
      · next hf =>
        split
        · exact one (.withdraw s)
        · split
          · exact refl s
          · next hl =>
            split
            · exact refl s
            · split
              · exact refl s
              · exact one (.grant s _ _ hf (by simpa using hl))

theorem setPool (d : Nat) (s : State) : Acts s (setPool d s).1 := by
  unfold Machine.setPool
  split
  · exact refl s
  · next hm =>
    split
    · exact refl s
    · next hd =>
      have range : 2 ≤ d ∧ d ≤ 32 := by simpa [inRange] using hd
      exact one (.pool s d (not_not.1 hm) range)

/-- A list of names is as long as the list of bytes it was read from. -/
theorem namesOf_length {α : Type} (names : List α) (l : List Nat) (xs : List α) (h : namesOf names l = some xs) :
    xs.length = l.length := by
  induction l generalizing xs with
  | nil =>
    obtain rfl : [] = xs := by simpa [namesOf] using h
    rfl
  | cons k rest ih =>
    unfold namesOf at h
    split at h
    · next x ys _ hys =>
      obtain rfl : x :: ys = xs := by simpa using h
      simp [ih ys hys]
    · exact absurd h (by simp)

theorem setScan (l : List Nat) (s : State) : Acts s (setScan l s).1 := by
  unfold Machine.setScan
  split
  · exact refl s
  · next hs =>
    split
    · exact refl s
    · next hl =>
      split
      · exact refl s
      · next xs hx =>
        have range : 1 ≤ l.length ∧ l.length ≤ 8 := by simpa [inRange] using hl
        exact one (.scanList s xs (not_not.1 hs) (by rwa [namesOf_length _ _ _ hx]))

theorem startScan (s : State) : Acts s (startScan s).1 := by
  unfold Machine.startScan
  split
  · exact refl s
  · exact refl s
  · split
    · exact refl s
    · next hl => exact one (.scanStart s hl)

theorem stopScan (s : State) : Acts s (stopScan s).1 := by
  unfold Machine.stopScan
  split
  · exact refl s
  · next hs =>
    split
    · exact refl s
    · exact one (.scanStop s (not_not.1 hs))

theorem setOffset (f : OffsetFields) (s : State) : Acts s (setOffset f s).1 := by
  unfold Machine.setOffset
  split
  · exact refl s
  · split
    · exact one (.offset s _ _ (min_le_left 31 _))
    · exact refl s

theorem setWindow (f : WindowFields) (s : State) : Acts s (setWindow f s).1 := by
  unfold Machine.setWindow
  split
  · split
    · next h => exact one (.window s _ _ ⟨h.2, h.1⟩)
    · exact refl s
  · exact refl s

theorem setReadPower (f : ReadPowerFields) (s : State) : Acts s (setReadPower f s).1 := by
  unfold Machine.setReadPower
  split
  · exact refl s
  · split
    · exact refl s
    · exact one (.readPower s _)

theorem setApc (n : Nat) (s : State) : Acts s (setApc n s).1 := by
  unfold Machine.setApc
  split
  · exact refl s
  · exact one (.apc s _)

theorem setDisc (f : DiscFields) (s : State) : Acts s (setDisc f s).1 := by
  unfold Machine.setDisc
  split
  · exact refl s
  · next hm =>
    split
    · exact refl s
    · split
      · exact refl s
      · exact one (.disc s _ _ (not_not.1 hm))

theorem setZones (f : ZoneFields) (s : State) : Acts s (setZones f s).1 := by
  unfold Machine.setZones
  split
  · exact refl s
  · next hm =>
    split
    · exact refl s
    · split
      · split
        · exact refl s
        · exact one (.zones s _ _ (not_not.1 (not_or.1 hm).1))
      · exact refl s

theorem discUnload (s : State) : Acts s (discUnload s).1 := by
  by_cases h : s.mc.mode = .standby
  · exact one (.unload s h)
  · rw [Machine.discUnload, if_pos h]
    exact refl s

/-- R80: the checks let through a record that is not in TRIAL. -/
theorem recordCheck_ok (f : KeyFields) (s : State) (k : CalKey) (h : recordCheck f s = .ok k) :
    (s.ct.record k).state ≠ .trial := by
  unfold recordCheck at h
  split at h
  · exact absurd h (by simp)
  · split at h
    · exact absurd h (by simp)
    · split at h
      · exact absurd h (by simp)
      · split at h
        · exact absurd h (by simp)
        · next hk =>
          obtain rfl := Except.ok.inj h
          exact hk

theorem putCal (f : PutCalFields) (s : State) : Acts s (putCal f s).1 := by
  unfold Machine.putCal
  split
  · exact refl s
  · next k hk =>
    split
    · exact one (.record s k _ (recordCheck_ok _ s k hk) (by simp))
    · exact refl s

theorem invalidateCal (f : KeyFields) (s : State) : Acts s (invalidateCal f s).1 := by
  unfold Machine.invalidateCal
  split
  · exact refl s
  · next k hk => exact one (.record s k _ (recordCheck_ok _ s k hk) (by simp [CalRecord.blank]))

theorem getCal (f : GetCalFields) (s : State) : Acts s (getCal f s).1 := by
  unfold Machine.getCal
  (repeat' split) <;> exact refl s

theorem setStaleSpan (n : Nat) (s : State) : Acts s (setStaleSpan n s).1 :=
  one (.staleSpan s _ (by simp only [clampNat]; omega))

theorem setTestArea (f : AreaFields) (s : State) : Acts s (setTestArea f s).1 := by
  unfold Machine.setTestArea
  split
  · exact refl s
  · next hm =>
    split
    · exact refl s
    · split
      · exact refl s
      · split
        · exact one (.testArea s _ _ (by simpa [or_iff_not_imp_left] using hm) rfl)
        · exact refl s

theorem calibrate (f : CalibrateFields) (s : State) : Acts s (calibrate f s).1 := by
  unfold Machine.calibrate
  split
  · exact refl s
  · next t ht => exact one (.calibrate s f t ht)

theorem abortCal (s : State) : Acts s (abortCal s).1 := by
  unfold Machine.abortCal
  split
  · exact refl s
  · exact one (.abortCal s)

theorem setSpeed (n : Nat) (s : State) : Acts s (setSpeed n s).1 := by
  unfold Machine.setSpeed
  split
  · exact refl s
  · split
    · exact refl s
    · exact one (.speed s _)

theorem putStrategy (f : StrategyFields) (s : State) : Acts s (putStrategy f s).1 := by
  unfold Machine.putStrategy
  split
  · exact one (.strategy s _)
  · exact refl s

theorem getStrategy (v : Option Nat) (s : State) : Acts s (getStrategy v s).1 := by
  unfold Machine.getStrategy
  (repeat' split) <;> exact refl s

theorem arm (s : State) : Acts s (arm s).1 := by
  unfold Machine.arm
  dsimp only
  split
  · exact refl s
  · next hm =>
    split
    · exact refl s
    · split
      · exact refl s
      · exact one (.latch s true fun _ => by simpa using hm)

theorem disarm (s : State) : Acts s (disarm s).1 := one (.latch s false (by simp))

theorem segment (f : SegmentFields) (s : State) : Acts s (segment f s).1 := by
  unfold Machine.segment
  split
  · exact refl s
  · next hm =>
    split
    · exact refl s
    · next g hg =>
      split
      · exact refl s
      · next hd =>
        split
        · exact refl s
        · split
          · exact refl s
          · split
            · exact one (.latch s false (by simp))
            · exact one (.enqueue s f g (by simpa using hm) hg (not_le.1 hd))

theorem pause (s : State) : Acts s (pause s).1 := by
  unfold Machine.pause
  split
  · exact refl s
  · exact one (.pause s)

theorem resume (s : State) : Acts s (resume s).1 := by
  unfold Machine.resume
  split
  · exact refl s
  · next hm =>
    have may : s.mc.mode.mayWrite = true := by simpa using hm
    split
    · exact refl s
    · next g rest hq =>
      split
      · exact refl s
      · next hg =>
        split
        · exact refl s
        · next hu =>
          split
          · exact refl s
          · next hx =>
            have unmarked : s.wgc.exitMark = false := by simpa using hx
            split
            · next hs => exact one (.resume s g rest may hq hs hu unmarked)
            · next hs =>
              split
              · exact refl s
              · have halted : g.state = .halted := not_not.1 fun k => hg ⟨hs, k⟩
                exact one (.resumeHalted s g rest may hq halted hu unmarked)

theorem abortSegment (s : State) : Acts s (abortSegment s).1 := by
  unfold Machine.abortSegment
  split
  · exact refl s
  · next g rest hq => exact one (.abortSegment s g rest hq)

theorem setRpc (f : RpcFields) (s : State) : Acts s (setRpc f s).1 := by
  unfold Machine.setRpc
  split
  · exact refl s
  · exact one (.rpc s _ _ _ (min_le_left 100 _) (by simp only [clampNat]; omega))

theorem setWaitLimit (n : Nat) (s : State) : Acts s (setWaitLimit n s).1 := by
  unfold Machine.setWaitLimit
  split
  · next h => exact one (.waitLimit s n (by simpa [inRange] using h))
  · exact refl s

theorem setProtect (f : ProtectFields) (s : State) : Acts s (setProtect f s).1 := by
  unfold Machine.setProtect
  split
  · exact refl s
  · split
    · exact refl s
    · split
      · exact refl s
      · split
        · exact refl s
        · exact one (.protection s _ rfl)

theorem setLock (n : Nat) (s : State) : Acts s (setLock n s).1 := by
  unfold Machine.setLock
  split
  · exact refl s
  · split
    · exact one (.protection s _ rfl)
    · exact refl s

theorem setMask (l : List MaskFields) (s : State) : Acts s (setMask l s).1 := by
  unfold Machine.setMask
  split
  · exact refl s
  · split
    · exact refl s
    · split
      · exact one (.masks s _)
      · exact refl s

theorem clearEvents (l : List Nat) (s : State) : Acts s (clearEvents l s).1 := by
  unfold Machine.clearEvents
  split
  · exact refl s
  · split
    · exact refl s
    · exact one (.clear s _)

theorem resetEnable (s : State) : Acts s (resetEnable s).1 := one (.link s _ (le_max_right _ _))

theorem writeBank (f : BankFields) (s : State) : Acts s (writeBank f s).1 := by
  unfold Machine.writeBank
  split
  · exact refl s
  · split
    · exact refl s
    · split
      · exact refl s
      · split
        · exact refl s
        · split
          · exact refl s
          · exact one (.store s _ _)

theorem lockBank (n : Nat) (s : State) : Acts s (lockBank n s).1 := by
  unfold Machine.lockBank
  split
  · exact refl s
  · split
    · exact refl s
    · split
      · exact refl s
      · split
        · exact refl s
        · split
          · exact refl s
          · exact one (.store s _ _)

theorem selectBank (n : Nat) (s : State) : Acts s (selectBank n s).1 := by
  unfold Machine.selectBank
  split
  · exact refl s
  · split
    · exact refl s
    · split
      · exact refl s
      · split
        · exact refl s
        · exact one (.bank s _)

/-! ### What the link does -/

theorem endWindow (l : List Byte) (s : State) : Acts s (endWindow l s) := one (.link s _ (le_max_right _ _))

theorem badFraming (n : Nat) (s : State) : Acts s (badFraming n s) := by
  have ended : Acts s (Machine.endWindow (zeros n) s) := endWindow _ s
  exact ended.tail (.linkError _)

/-- A frame is left, discarded, or answered by an owner, who acts between the two writes of the link. -/
theorem takeFrame (kind : Byte) (body : Body) (failing : Status) (owner : Option Owner) (s : State)
    (h : ∀ o, owner = some o → ∀ u, Acts u (o u).1) : Acts s (takeFrame kind body failing owner s) := by
  have discarded (n : Nat) : Acts s (discardFrame n s) :=
    one (.link s _ (le_max_of_le_left (min_le_left 15 (s.cl.discard + 1))))
  unfold Machine.takeFrame
  split
  · exact endWindow _ s
  · split
    · exact badFraming _ s
    · split
      · have accepted : Acts s (acceptFrame (2 + body.length) s) := one (.link s _ (Nat.zero_le _))
        have acted : Acts (acceptFrame (2 + body.length) s)
            ((owner.getD (refuse failing)) (acceptFrame (2 + body.length) s)).1 := by
          cases owner with
          | none => exact refl _
          | some o => exact h o rfl _
        exact (accepted.trans acted).tail (.link _ _ (le_max_right _ _))
      · exact discarded _
      · exact discarded _

end Acts

/-- A command answers a next state, to which it comes by acts. -/
def Answers (m : Body → State → Host.Outcome State Fault Refusal) : Prop :=
  ∀ body s, ∃ t, m body s = .next t ∧ Acts s t

/-- A command of the index answers when its owner acts. -/
theorem command_answers {α : Type} (kind : Byte) (read : Body → Option α) (owner : α → Owner)
    (h : ∀ x u, Acts u (owner x u).1) : Answers fun body s => command kind body ((read body).map owner) s := by
  intro body s
  refine ⟨_, rfl, Acts.takeFrame _ _ _ _ s fun o ho u => ?_⟩
  obtain ⟨x, -, rfl⟩ := Option.map_eq_some_iff.1 ho
  exact h x u

theorem query_acts (body : State → Body) (u : State) : Acts u (query body u).1 := Acts.refl u

theorem execResetDevice_answers : Answers execResetDevice := by
  intro body s
  unfold execResetDevice
  split
  · exact ⟨_, rfl, Acts.one (.reset s _ _ _)⟩
  · exact command_answers 43 readNothing (fun _ => refuse .nothingPending) (fun _ u => Acts.refl u) body s

/-- Every command of the index answers. -/
theorem commandIndex_answers : ∀ m ∈ commandIndex, Answers m := by
  simp only [commandIndex, List.forall_mem_cons]
  exact ⟨command_answers _ _ _ Acts.requestMode, command_answers _ _ _ Acts.setPool,
    command_answers _ _ _ Acts.setScan, command_answers _ _ _ fun _ => Acts.startScan,
    command_answers _ _ _ fun _ => Acts.stopScan, command_answers _ _ _ Acts.setOffset,
    command_answers _ _ _ Acts.setWindow, command_answers _ _ _ fun _ => query_acts _,
    command_answers _ _ _ Acts.setReadPower, command_answers _ _ _ Acts.setApc,
    command_answers _ _ _ fun _ => query_acts _, command_answers _ _ _ Acts.setDisc,
    command_answers _ _ _ Acts.setZones, command_answers _ _ _ fun _ => Acts.discUnload,
    command_answers _ _ _ Acts.putCal, command_answers _ _ _ Acts.invalidateCal, command_answers _ _ _ Acts.getCal,
    command_answers _ _ _ Acts.setStaleSpan, command_answers _ _ _ Acts.setTestArea,
    command_answers _ _ _ Acts.calibrate, command_answers _ _ _ fun _ => Acts.abortCal,
    command_answers _ _ _ fun _ => query_acts _, command_answers _ _ _ Acts.setSpeed,
    command_answers _ _ _ Acts.putStrategy, command_answers _ _ _ Acts.getStrategy,
    command_answers _ _ _ fun _ => Acts.arm, command_answers _ _ _ fun _ => Acts.disarm,
    command_answers _ _ _ Acts.segment, command_answers _ _ _ fun _ => Acts.pause,
    command_answers _ _ _ fun _ => Acts.resume, command_answers _ _ _ fun _ => Acts.abortSegment,
    command_answers _ _ _ Acts.setRpc, command_answers _ _ _ Acts.setWaitLimit,
    command_answers _ _ _ fun _ => query_acts _, command_answers _ _ _ Acts.setProtect,
    command_answers _ _ _ Acts.setLock, command_answers _ _ _ fun _ => query_acts _,
    command_answers _ _ _ Acts.setMask, command_answers _ _ _ Acts.clearEvents,
    command_answers _ _ _ fun _ => query_acts _, command_answers _ _ _ fun _ => query_acts _,
    command_answers _ _ _ fun _ => Acts.resetEnable, execResetDevice_answers, command_answers _ _ _ Acts.writeBank,
    command_answers _ _ _ Acts.lockBank, command_answers _ _ _ Acts.selectBank,
    command_answers _ _ _ fun _ => query_acts _, by simp⟩

/-- A frame goes to a command of the index or is answered UNKNOWN_KIND. -/
theorem dispatch_answers (kind : Byte) : Answers (dispatch kind) := by
  intro body s
  unfold dispatch
  split
  · next m hm =>
    unfold commandOf at hm
    split at hm
    · exact absurd hm (by simp)
    · exact commandIndex_answers m (List.mem_of_getElem? hm) body s
  · exact ⟨_, rfl, Acts.takeFrame _ _ _ _ s (by simp)⟩

/-- A command of the index is dispatched by its own kind byte (R187). -/
theorem exec_eq_dispatch (c : Instr) (kind : Byte) (body : Body) (s : State) (h : c.frame = some (kind, body)) :
    exec c s = dispatch kind body s := by
  cases c <;> cases h <;> rfl

theorem replyRead_acts (edges : Nat) (s : State) : Acts s (replyRead edges s) := by
  unfold replyRead
  dsimp only
  split
  · exact Acts.endWindow _ s
  · split
    · exact Acts.endWindow _ s
    · exact Acts.endWindow _ s
    · split
      · exact (Acts.endWindow _ s).tail (.link _ _ (Nat.zero_le _))
      · exact Acts.endWindow _ s

theorem noticeRead_acts (edges : Nat) (s : State) : Acts s (noticeRead edges s) := by
  unfold noticeRead
  split
  · exact Acts.endWindow _ s
  · split
    · exact Acts.endWindow _ s
    · next n rest hn =>
      dsimp only
      split
      · exact (Acts.endWindow _ s).tail (.noticeRead _ n rest hn)
      · exact Acts.endWindow _ s

/-- A window of any bytes is read, discarded or dispatched. -/
theorem linkWindow_answers (bytes : List Byte) (extra : Fin 8) (s : State) :
    ∃ t, linkWindow bytes extra s = .next t ∧ Acts s t := by
  unfold linkWindow
  split
  · exact ⟨_, rfl, Acts.endWindow _ s⟩
  · split
    · exact ⟨_, rfl, Acts.refl s⟩
    · split
      · exact ⟨_, rfl, replyRead_acts _ s⟩
      · split
        · exact ⟨_, rfl, noticeRead_acts _ s⟩
        · split
          · exact ⟨_, rfl, Acts.badFraming _ s⟩
          · exact dispatch_answers _ _ s

/-! ### What WSG's stream leaves -/

theorem Wsg.startTrain_streams (w : Wsg) (n window notBefore : Nat) : (w.startTrain n window notBefore).Streams w := by
  unfold Wsg.startTrain
  split <;> exact ⟨rfl, rfl⟩

theorem Wsg.startAhead_streams (w : Wsg) (live : Bool) : (w.startAhead live).Streams w := by
  unfold Wsg.startAhead
  split
  · split
    · exact ⟨rfl, rfl⟩
    · split
      · exact w.startTrain_streams _ _ _
      · exact ⟨rfl, rfl⟩
  · exact ⟨rfl, rfl⟩

theorem Wsg.Streams.trans {x y w : Wsg} (h : x.Streams y) (k : y.Streams w) : x.Streams w :=
  ⟨h.1.trans k.1, h.2.trans k.2⟩

theorem Wsg.passRun_streams (w : Wsg) (live : Bool) : (w.passRun live).Streams w := by
  unfold Wsg.passRun
  split
  · dsimp only
    refine (Wsg.startAhead_streams _ live).trans ?_
    generalize (if live = true then _ else RunKind.space) = kind
    split
    · exact (Wsg.startTrain_streams _ _ _ _).trans ⟨rfl, rfl⟩
    · exact ⟨rfl, rfl⟩
  · exact ⟨rfl, rfl⟩

theorem Wsg.takeRun_streams (w : Wsg) (live : Bool) (a : Run) : (w.takeRun live a).Streams w := by
  unfold Wsg.takeRun
  split
  · exact ⟨rfl, rfl⟩
  · split
    · dsimp only
      split
      · exact (Wsg.startTrain_streams _ _ _ _).trans ⟨rfl, rfl⟩
      · exact ⟨rfl, rfl⟩
    · exact (Wsg.startAhead_streams _ live).trans ⟨rfl, rfl⟩
    · exact (Wsg.startAhead_streams _ live).trans (w.passRun_streams live)

theorem Wsg.tick_streams (w : Wsg) (live : Bool) : (w.tick live).Streams w := by
  unfold Wsg.tick
  split
  · exact ⟨rfl, rfl⟩
  · split
    · exact (Wsg.startAhead_streams _ live).trans ⟨rfl, rfl⟩
    · split
      · exact ⟨rfl, rfl⟩
      · exact (Wsg.passRun_streams _ live).trans ⟨rfl, rfl⟩

theorem wsgReady_acts (ready : Bool) (s : State) : Acts s (wsgReady ready s) := by
  unfold wsgReady
  split
  · refine Acts.one (.stream s _ ?_)
    split
    · exact s.wsg.startAhead_streams true
    · exact ⟨rfl, rfl⟩
  · exact Acts.refl s

theorem tick_acts (s : State) : Acts s (tick s) := by
  unfold tick
  split
  · exact Acts.one (.stream s _ (s.wsg.tick_streams _))
  · exact Acts.refl s

/-- An event without a frame answers a next state. -/
theorem event_answers (c : Instr) (s : State) (h : c.frame = none) : ∃ t, exec c s = .next t ∧ Acts s t := by
  cases c with
  | unknownKindFrame kind body => exact linkWindow_answers (frameBytes kind body) 0 s
  | badlyFramedFrame bytes extra => exact linkWindow_answers _ _ s
  | discardedFrame kind body => exact linkWindow_answers (frameBytes kind body) 0 s
  | replyWindow edges => exact ⟨_, rfl, replyRead_acts edges s⟩
  | noticeWindow edges => exact ⟨_, rfl, noticeRead_acts edges s⟩
  | blockedWindowEnd =>
    refine ⟨_, rfl, ?_⟩
    unfold blockedEnd
    split
    · exact Acts.one (.link s _ (le_max_right _ _))
    · exact Acts.refl s
  | powerOnReset lines => exact ⟨_, rfl, Acts.one (.reset s _ _ _)⟩
  | resetLine lines => exact ⟨_, rfl, Acts.one (.reset s _ _ _)⟩
  | positionRecord valid f a =>
    refine ⟨_, rfl, ?_⟩
    split
    · exact Acts.one (.arrival s _)
    · exact Acts.refl s
  | generatedArrival =>
    refine ⟨_, rfl, ?_⟩
    split
    · exact Acts.one (.generated s _ _)
    · exact Acts.refl s
  | conversionComplete raw =>
    refine ⟨_, rfl, ?_⟩
    split
    · exact Acts.refl s
    · next c hc => exact Acts.one (.completion s c _ hc)
  | inhibitLineChange level =>
    refine ⟨_, rfl, ?_⟩
    split
    · exact Acts.refl s
    · exact Acts.one (.inhibit s level)
  | encoderReadyChange ready =>
    refine ⟨_, rfl, ?_⟩
    split
    · exact Acts.refl s
    · exact (Acts.one (.ready s ready)).trans (wsgReady_acts _ _)
  | channelRun run =>
    refine ⟨_, rfl, ?_⟩
    split
    · exact Acts.one (.stream s _ (s.wsg.takeRun_streams _ _))
    · exact Acts.refl s
  | storeWriteComplete x =>
    refine ⟨_, rfl, ?_⟩
    split
    · exact Acts.refl s
    · exact Acts.refl s
    · exact Acts.one (.written s _ _ _)
  | storeLockComplete m =>
    refine ⟨_, rfl, ?_⟩
    split
    · exact Acts.refl s
    · exact Acts.refl s
    · exact Acts.one (.locked s _ _)
  | trialPatternRun =>
    refine ⟨_, rfl, ?_⟩
    split
    · exact Acts.one (.stream s _ (s.wsg.passRun_streams _))
    · exact Acts.refl s
  | _ => cases h

/-- Every command answers a next state, to which it comes by acts. -/
theorem exec_answers (c : Instr) (s : State) : ∃ t, exec c s = .next t ∧ Acts s t := by
  cases h : c.frame with
  | none => exact event_answers c s h
  | some p =>
    obtain ⟨kind, body⟩ := p
    rw [exec_eq_dispatch c kind body s h]
    exact dispatch_answers kind body s

/-- A step takes the front command off the queue, where there is one, and acts. -/
theorem step_acts (s t : State) (h : step s = .next t) : ∃ rest, Acts (s.setPending rest) t := by
  unfold step at h
  split at h
  · obtain rfl : tick s = t := by simpa using h
    exact ⟨s.pending, tick_acts s⟩
  · next c rest _ =>
    obtain ⟨u, hu, ha⟩ := exec_answers c (s.setPending rest)
    obtain rfl : u = t := by simpa [hu] using h
    exact ⟨rest, ha⟩

/-- What no change of the queue of commands touches and every act keeps, every step keeps. -/
theorem step_keeps {P : State → Prop} (hq : ∀ s l, P s → P (s.setPending l)) (hP : ∀ s t, Act s t → P s → P t)
    (s t : State) (hs : P s) (h : step s = .next t) : P t := by
  obtain ⟨rest, ha⟩ := step_acts s t h
  exact ha.keeps hP (hq s rest hs)

/-- No act touches the queue of commands. -/
theorem Act.pending {s t : State} (h : Act s t) : t.pending = s.pending := by
  cases h with
  | reset pu lines low => exact (bankChange_frame _).2.2.2.2.2.2.2.2.2.2.2.2
  | calibrate f t h => simp
  | unload hm => rw [discUnload, if_neg (not_not.2 hm)]; simp
  | resumeHalted g rest hm hq hg hu hx =>
    simp only [conclude_frame]
    exact ((Moves.refl s).resumeHalted g).frame.2.2.2.2.2.2.2.1
  | completion c raw h => simp [takeCompletion]
  | _ => simp

theorem Acts.pending {s t : State} (h : Acts s t) : t.pending = s.pending :=
  h.keeps (P := fun t => t.pending = s.pending) (fun _ _ k ih => k.pending.trans ih) rfl

/-- Settles O1: a step on a queue that holds a command is the command's meaning on the state without it. -/
theorem stepRunsTheFrontCommand : Obligations.StepRunsTheFrontCommand := by
  intro c rest s h
  rw [step, h]

/-! ### The channel clock on an empty queue (log entry 8) -/

theorem step_empty (s : State) (h : s.pending = []) : step s = .next (tick s) := by
  rw [step, h]

/-- A train that starts is all that a start changes. -/
theorem Wsg.startTrain_eq (w : Wsg) (n window notBefore : Nat) :
    w.startTrain n window notBefore = { w with train := (w.startTrain n window notBefore).train } := by
  unfold Wsg.startTrain
  split <;> rfl

theorem Wsg.startAhead_eq (w : Wsg) (live : Bool) :
    w.startAhead live = { w with train := (w.startAhead live).train } := by
  unfold Wsg.startAhead
  split
  · split
    · rfl
    · split
      · exact w.startTrain_eq _ _ _
      · rfl
  · rfl

/-- The run in progress gives way to the run ahead; beside that the train alone may change (R121, R123). -/
theorem Wsg.passRun_eq (w : Wsg) (live : Bool) (r : PlacedRun) (a : Run) (hr : w.run = some r)
    (ha : w.ahead = some a) :
    w.passRun live = { w with
      now := max w.now r.finish
      run := some { kind := if live then a.kind else .space, length := a.length, start := r.finish }
      pattern := w.pattern.map (fun i => (i + 1) % 16)
      ahead := w.pattern.map (fun i => patternRun (i + 2))
      train := (w.passRun live).train } := by
  unfold Wsg.passRun
  simp only [hr, ha]
  rw [Wsg.startAhead_eq]
  generalize (if live = true then _ else RunKind.space) = kind
  split
  · rw [Wsg.startTrain_eq]
  · rfl

/-- One sixteenth within a run: the count rises, and a train may start. -/
theorem Wsg.tick_within (w : Wsg) (live : Bool) (r : PlacedRun) (hr : w.run = some r) (h : w.now + 1 < r.finish) :
    w.tick live = ({ w with now := w.now + 1 } : Wsg).startAhead live := by
  simp [Wsg.tick, hr, h]

theorem Wsg.tick_none (w : Wsg) (live : Bool) (hr : w.run = none) : w.tick live = w := by
  simp [Wsg.tick, hr]

/-- The end of a run with none held ahead: the instant stands still. -/
theorem Wsg.tick_end_none (w : Wsg) (live : Bool) (r : PlacedRun) (hr : w.run = some r) (h : ¬ w.now + 1 < r.finish)
    (ha : w.ahead = none) : w.tick live = w := by
  simp [Wsg.tick, hr, h, ha]

/-- The end of a run with one held ahead, which takes its place. -/
theorem Wsg.tick_end_some (w : Wsg) (live : Bool) (r : PlacedRun) (a : Run) (hr : w.run = some r)
    (h : ¬ w.now + 1 < r.finish) (ha : w.ahead = some a) :
    w.tick live = ({ w with now := w.now + 1 } : Wsg).passRun live := by
  simp [Wsg.tick, hr, h, ha]

theorem tick_opened (s : State) (h : s.wgc.gate = .opened) :
    tick s = { s with
      wsg := s.wsg.tick s.streamLive, ldu := { s.ldu with driven := (s.wsg.tick s.streamLive).select } } := by
  have driven : (s.setWsg (s.wsg.tick s.streamLive)).drivenNow = (s.wsg.tick s.streamLive).select := if_pos h
  rw [tick, if_pos h, setStream, driven]
  rfl

/-- Settles O2: the acts of every command keep the queue of commands; and with an empty queue the step is a tick, by
the case of WSG's stream that stands. -/
theorem everyStepAnswersNext : Obligations.EveryStepAnswersNext := by
  refine ⟨fun c s => ?_, fun s hp hg => ?_, fun s hp hg => ?_⟩
  · obtain ⟨t, ht, ha⟩ := exec_answers c s
    exact ⟨t, ht, ha.pending⟩
  · rw [step_empty s hp, tick, if_neg hg]
  · refine ⟨s.wsg.tick s.streamLive, by rw [step_empty s hp, tick_opened s hg], fun hr => ?_, fun r hr => ⟨?_, ?_⟩⟩
    · exact s.wsg.tick_none _ hr
    · intro hn
      rw [s.wsg.tick_within _ r hr hn, Wsg.startAhead_eq]
    · intro hn
      have ended : ¬ s.wsg.now + 1 < r.finish := by
        rw [PlacedRun.finish]
        omega
      refine ⟨fun ha => s.wsg.tick_end_none _ r hr ended ha, fun a ha => ?_⟩
      have finish_eq : r.finish = s.wsg.now + 1 := hn.symm
      rw [s.wsg.tick_end_some _ r a hr ended ha,
        Wsg.passRun_eq { s.wsg with now := s.wsg.now + 1 } s.streamLive r a hr ha]
      simp only [finish_eq, max_self]

end Sys2Proof.Machine
end

section
/-! SUPPORT. What every step keeps of levels, queues, latch, ranges and scan: each act is one direct write of a block,
if any, and then stirs of the blocks that share operations; obligations O56 to O58. -/

namespace Sys2Proof.Machine

/-- One change of the shared operations: a move of the recording path, a new position, a computation of the levels, an
APC update, a change of mode, or the end of the step. -/
inductive Stir : State → State → Prop where
  | move (s t : State) (h : Move s t) : Stir s t
  | track (s : State) (p : Pt) (hf : p.surface = s.pt.surface) (hc : s.pt.coast ≤ 3 → p.coast ≤ 3) : Stir s (s.setPt p)
  | lock (s : State) (p : Pt) (hc : p.coast ≤ 3) : Stir s (recompute (s.setPt p))
  | compute (s : State) : Stir s (recompute s)
  | apc (s : State) (v : Nat) : Stir s (apcUpdate v s)
  | mode (s : State) (m : Mode) (g : SelfTest) : Stir s (changeMode m g s)
  | finish (s : State) : Stir s (finish s)

/-- Any number of stirs. -/
def Stirs : State → State → Prop := Relation.ReflTransGen Stir

namespace Stirs

variable {s t : State}

theorem refl (s : State) : Stirs s s := Relation.ReflTransGen.refl

theorem tail {u : State} (h : Stirs s t) (k : Stir t u) : Stirs s u := Relation.ReflTransGen.tail h k

theorem trans {u : State} (h : Stirs s t) (k : Stirs t u) : Stirs s u := Relation.ReflTransGen.trans h k

theorem keeps {P : State → Prop} (hP : ∀ s t, Stir s t → P s → P t) (h : Stirs s t) (hs : P s) : P t := by
  induction h with
  | refl => exact hs
  | tail _ k ih => exact hP _ _ k ih

theorem moves {u : State} (h : Stirs s t) (k : Moves t u) : Stirs s u := by
  induction k with
  | refl => exact h
  | tail _ k ih => exact ih.tail (.move _ _ k)

theorem one {u : State} (h : Stirs s t) (k : Move t u) : Stirs s u := h.tail (.move _ _ k)

theorem changeMode (h : Stirs s t) (m : Mode) (g : SelfTest) : Stirs s (changeMode m g t) := h.tail (.mode t m g)

theorem hold (h : Stirs s t) (n : Nat) (ps : List Poster) : Stirs s (t.setEu (t.eu.hold n ps)) :=
  h.one (.events _ _ (t.eu.hold_follows n ps))

theorem trigger (h : Stirs s t) {e : Event} (he : eventAside e = false) : Stirs s (trigger e t) :=
  h.one (.events _ _ (t.eu.trigger_follows e he))

theorem finish (h : Stirs s t) : Stirs s (finish t) := h.tail (.finish t)

theorem judgeExit (h : Stirs s t) : Stirs s (judgeExit t) := by
  unfold Machine.judgeExit
  split
  · exact h
  · split
    · exact h.changeMode _ _
    · exact h

theorem conclude (h : Stirs s t) : Stirs s (conclude t) := (h.judgeExit.hold _ _).finish

theorem takeArrival (h : Stirs s t) (v : Option (Surface × Nat)) : Stirs s (takeArrival v t) := by
  have acquired (f : Surface) (a : Nat) : Stirs s (acquire f a t) := h.tail (.track _ _ rfl fun _ => Nat.zero_le 3)
  have advanced (a c : Nat) (b : BoundaryKind) (hc : c ≤ 3) : Stirs s (advance a c b t) :=
    (h.tail (.track t { t.pt with current := a, predicted := successor t.ct.blocks a, coast := c } rfl
      fun _ => hc)).moves ((Moves.refl _).deliverBoundary _ _ _)
  unfold Machine.takeArrival
  split
  · exact h
  · exact acquired _ _
  · exact h.tail (.track _ _ rfl id)
  · split
    · unfold lockOn
      dsimp only
      split
      · next hf => exact h.tail (.track _ _ hf fun _ => Nat.zero_le 3)
      · exact h.tail (.lock _ _ (Nat.zero_le 3))
    · exact acquired _ _
  · split
    · exact advanced _ _ _ (Nat.zero_le 3)
    · exact ((acquired _ _).trigger rfl).moves ((Moves.refl _).deliverReport _)
  · split
    · next hc => exact advanced _ _ _ hc
    · exact ((h.tail (.track t { t.pt with state := .lost, coast := 0 } rfl fun _ => Nat.zero_le 3)).trigger
        rfl).moves ((Moves.refl _).deliverReport _)

theorem lduFmon (h : Stirs s t) (v : Nat) : Stirs s (lduFmon v t) := by
  unfold Machine.lduFmon
  split
  · exact h.tail (.apc t v)
  · exact h

theorem mcFmon (h : Stirs s t) (j : Judgement) : Stirs s (mcFmon j t) := by
  unfold Machine.mcFmon
  split
  · exact (h.changeMode _ _).trigger rfl
  · exact h

theorem deliverFmon (h : Stirs s t) (v : Nat) (j : Judgement) : Stirs s (deliverFmon v j t) := by
  have drawn : Stirs s t.draw.2 := h.one (.free _ t)
  unfold Machine.deliverFmon
  dsimp only
  split
  · split
    · exact ((drawn.lduFmon v).mcFmon j).hold _ _
    · exact (drawn.mcFmon j).lduFmon v
  · exact (h.lduFmon v).mcFmon j

theorem deliver (h : Stirs s t) (c : Channel) (v : Nat) (j : Judgement) : Stirs s (deliver c v j t) := by
  have start : Moves t t := Moves.refl t
  cases c with
  | fmon => exact h.deliverFmon v j
  | temp => exact (h.tail (.compute t)).moves (Moves.refl _).judgeStale
  | vld =>
    dsimp only [Machine.deliver]
    split
    · exact h.moves (start.haltAtOnce _).tcuSupply
    · exact h
  | terr =>
    dsimp only [Machine.deliver]
    split
    · exact h.moves (start.haltAtOnce _).tcuTracking
    · exact h
  | rsum => exact h.moves ((start.wgcReturn v).tcuSample .rsum v)
  | rtop => exact h.moves (start.tcuSample .rtop v)
  | rbot => exact h.moves (start.tcuSample .rbot v)
  | aux => exact h

end Stirs

/-- MON takes a completion and EU its judgement (R41, R172). -/
def sampled (c : Channel) (raw : Nat) (s : State) : State :=
  (s.setMon (s.mon.store c ((s.mon.offsets.get c.index).correct raw)).advance).setEu
    (s.eu.judged c ((s.mon.windows.get c.index).judge ((s.mon.offsets.get c.index).correct raw)))

/-- A completion is delivered to its receivers once MON and EU have taken it. -/
theorem takeCompletion_eq (c : Channel) (raw : Nat) (s : State) :
    takeCompletion c raw s = deliver c ((s.mon.offsets.get c.index).correct raw)
      ((s.mon.windows.get c.index).judge ((s.mon.offsets.get c.index).correct raw)) (sampled c raw s) := rfl

/-- One write of a command or event to its own block, with what lets it be made. -/
inductive Write : State → State → Prop where
  | link (s : State) (c : Cl) (h : c.discard ≤ max 15 s.cl.discard) : Write s (s.setCl c)
  | noticeRead (s : State) (n : Notice) (rest : List Notice) (h : s.eu.notices = n :: rest) :
      Write s (s.setEu { s.eu with notices := rest })
  | reset (s : State) (pu : Pu) (lines : Lines) (low : Bool) : Write s (resetBlocks pu lines low s)
  | ready (s : State) (on : Bool) : Write s (s.setLines { s.lines with encoderReady := on })
  | inhibit (s : State) (level : Inhibit) :
      Write s (((s.setLines { s.lines with inhibit := level }).setPu { s.pu with sense := level }).setEu
        { s.eu with inhibitSense := level })
  | sample (s : State) (c : Channel) (raw : Nat) (h : s.mon.inFlight = some c) (ht : c ≠ .temp) :
      Write s (sampled c raw s)
  | temperature (s : State) (raw : Nat) (h : s.mon.inFlight = some .temp) : Write s (recompute (sampled .temp raw s))
  | written (s : State) (b : BankNo) (r x : CharRecord) : Write s (writeEnds b r x s)
  | store (s : State) (b : Three Bank) (x : StoreState) : Write s (s.setCs { s.cs with banks := b, store := x })
  | bank (s : State) (a : ActiveBank) : Write s (bankChange (s.setCs { s.cs with active := some a }))
  | request (s : State) (r : Option Mode) : Write s (s.setMc { s.mc with request := r })
  | pool (s : State) (d : Nat) (h : 2 ≤ d ∧ d ≤ 32) :
      Write s (((s.setMc { s.mc with segDepth := d }).setWgc { s.wgc with queue := [] }).setEu { s.eu with notices := [] })
  | scanList (s : State) (l : List Channel) (hs : s.mon.scanState = .stopped) (hl : 1 ≤ l.length ∧ l.length ≤ 8) :
      Write s (s.setMon { s.mon with scanList := l, position := 0 })
  | scanStart (s : State) (h : s.mon.scanList ≠ []) :
      Write s (s.setMon { s.mon with scanState := .running, position := 0 })
  | scanStop (s : State) (h : s.mon.scanState = .running) : Write s (s.setMon { s.mon with scanState := .stopping })
  | offset (s : State) (c : Channel) (o : Offset) (h : o.magnitude ≤ 31) :
      Write s (s.setMon { s.mon with offsets := s.mon.offsets.put c.index o })
  | window (s : State) (c : Channel) (w : Window) (h : w.low ≤ w.high ∧ w.high ≤ 4095) :
      Write s (s.setMon { s.mon with windows := s.mon.windows.put c.index w })
  | readPower (s : State) (p : Two Nat) : Write s (recompute (s.setLdu { s.ldu with readPower := p }))
  | apc (s : State) (on : Bool) : Write s (s.setLdu { s.ldu with apcOn := on })
  | table (s : State) (d : Option Disc) (z : Two (Option (Eight Nat))) (r : Two (Four (Eight CalRecord))) :
      Write s (s.setCt { s.ct with disc := d, zones := z, records := r })
  | staleSpan (s : State) (n : Nat) (h : 10 ≤ n ∧ n ≤ 600) : Write s (s.setCt { s.ct with staleSpan := n })
  | unload (s : State) (hm : s.mc.mode = .standby) : Write s (discUnload s).1
  | strategy (s : State) (v : Speed) (x : Four (Four (Option StrategyEntry))) :
      Write s (s.setWsg { s.wsg with speed := v, entries := x })
  | latch (s : State) (on : Bool) (h : on = true → s.mc.mode.mayWrite = true) :
      Write s (s.setWgc { s.wgc with arm := on })
  | join (s : State) (g : Segment) (h : s.wgc.queue.length < s.mc.segDepth) :
      Write s (s.setWgc { s.wgc with arm := false, queue := s.wgc.queue ++ [g] })
  | rpc (s : State) (on : Bool) (d k : Nat) (hd : d ≤ 100) (hk : 1 ≤ k ∧ k ≤ 20) :
      Write s (s.setWgc { s.wgc with rpcOn := on, deadband := d, rpcStep := k })
  | waitLimit (s : State) (n : Nat) (h : 16 ≤ n ∧ n ≤ 65535) : Write s (s.setWgc { s.wgc with waitLimit := n })
  | protection (s : State) (p : Pu) : Write s (s.setPu p)
  | masks (s : State) (l : List (Event × Bool)) : Write s (s.setEu (l.foldl Eu.setMask s.eu))
  | clear (s : State) (l : List Event) : Write s (s.setEu (s.eu.clear l))

/-- A write, if any, and stirs. -/
def WriteThenStirs (s t : State) : Prop := ∃ u, (u = s ∨ Write s u) ∧ Stirs u t

theorem Stirs.unwritten {s t : State} (h : Stirs s t) : WriteThenStirs s t := ⟨s, .inl rfl, h⟩

theorem Write.stirred {s u t : State} (h : Write s u) (k : Stirs u t) : WriteThenStirs s t := ⟨u, .inr h, k⟩

theorem Write.alone {s t : State} (h : Write s t) : WriteThenStirs s t := h.stirred (Stirs.refl t)

theorem requestExit_split (m : Mode) (s : State) : WriteThenStirs s (requestExit m s) := by
  refine (Write.request s (some m)).stirred ?_
  have start : Stirs (s.setMc { s.mc with request := some m }) _ := Stirs.refl _
  unfold requestExit
  dsimp only
  split
  · exact start.judgeExit
  · exact (start.moves (Moves.refl _).wgcExitPending.tcuExitPending).judgeExit

theorem withdrawExit_split (s : State) : WriteThenStirs s (withdrawExit s) := by
  unfold withdrawExit
  split
  · exact (Write.request s none).stirred ((Stirs.refl _).moves (Moves.refl _).wgcExitWithdrawn.tcuExitWithdrawn)
  · exact (Stirs.refl s).unwritten

theorem lineChanged_split (level : Inhibit) (s : State) : WriteThenStirs s (lineChanged level s) := by
  refine (Write.inhibit s level).stirred ?_
  have raised := (Stirs.refl (((s.setLines { s.lines with inhibit := level }).setPu { s.pu with sense := level }).setEu
    { s.eu with inhibitSense := level })).trigger (e := .inhibitChanged) rfl
  unfold lineChanged
  dsimp only
  split
  · exact (raised.moves (Moves.refl _).wgcInhibit.tcuInhibit).finish
  · exact raised.finish

/-- The delivery of a completion follows the write of MON and EU; for TEMP the levels are part of the write. -/
theorem takeCompletion_split (c : Channel) (raw : Nat) (s : State) (h : s.mon.inFlight = some c) :
    WriteThenStirs s (takeCompletion c raw s) := by
  rw [takeCompletion_eq]
  by_cases ht : c = .temp
  · subst ht
    exact (Write.temperature s raw h).stirred ((Stirs.refl _).moves (Moves.refl _).judgeStale)
  · exact (Write.sample s c raw h ht).stirred ((Stirs.refl _).deliver c _ _)

theorem WriteThenStirs.trans {s t u : State} (h : WriteThenStirs s t) (k : Stirs t u) : WriteThenStirs s u := by
  obtain ⟨v, hw, hv⟩ := h
  exact ⟨v, hw, hv.trans k⟩

/-- Every act is a write, if any, and stirs. -/
theorem Act.split {s t : State} (h : Act s t) : WriteThenStirs s t := by
  have start (u : State) : Stirs u u := Stirs.refl u
  have still (u : State) : Moves u u := Moves.refl u
  cases h with
  | link c h => exact (Write.link s c h).alone
  | linkError => exact ((start s).trigger rfl).finish.unwritten
  | noticeRead n rest h => exact (Write.noticeRead s n rest h).alone
  | reset pu lines low => exact (Write.reset s pu lines low).alone
  | stream w h => exact ((start s).one (.stream w s h)).unwritten
  | ready on => exact (Write.ready s on).alone
  | inhibit level => exact lineChanged_split level s
  | arrival v => exact ((start s).takeArrival v).conclude.unwritten
  | generated v n => exact (((start s).takeArrival v).tail
      (.track _ { (takeArrival v s).pt with genNext := n } rfl id)).conclude.unwritten
  | completion c raw h => exact (takeCompletion_split c raw s h).trans (start _).conclude
  | written b r x => exact (Write.written s b r x).stirred (start _).finish
  | locked b m =>
    exact (Write.store s _ .idle).stirred ((start _).moves ((still _).post .cs _)).finish
  | withdraw => exact withdrawExit_split s
  | grant m g hf hl =>
    unfold grantMode
    split
    · exact (requestExit_split m s).trans (start _).finish
    · exact ((start s).changeMode m g).finish.unwritten
  | pool d _ h => exact (Write.pool s d h).alone
  | scanList l hs hl => exact (Write.scanList s l hs hl).alone
  | scanStart h => exact (Write.scanStart s h).alone
  | scanStop h => exact (Write.scanStop s h).alone
  | offset c o h => exact (Write.offset s c o h).alone
  | window c w h => exact (Write.window s c w h).alone
  | readPower p => exact (Write.readPower s p).stirred (start _).finish
  | apc on => exact (Write.apc s on).alone
  | disc d z hm => exact (Write.table s (some d) z s.ct.records).alone
  | zones f z hm => exact (Write.table s s.ct.disc z _).alone
  | unload hm => exact (Write.unload s hm).alone
  | record k r hk hr => exact (Write.table s s.ct.disc s.ct.zones _).alone
  | staleSpan n h => exact (Write.staleSpan s n h).alone
  | testArea f a hm ha => exact ((start s).one (.tcu _ s)).unwritten
  | calibrate f t h =>
    have begun : Moves s (setTrial t s) := (still s).setTrial t
    exact ((start s).moves ((begun.tail (.records _ _)).shut (some .trial))).unwritten
  | abortCal => exact ((start s).moves ((still s).abortTrial _)).conclude.unwritten
  | speed v => exact (Write.strategy s v s.wsg.entries).alone
  | strategy x => exact (Write.strategy s s.wsg.speed x).alone
  | latch on h => exact (Write.latch s on h).alone
  | enqueue f g _ _ hd =>
    refine WriteThenStirs.trans ?_ (start _).conclude
    unfold Machine.enqueue
    dsimp only
    split
    · exact (Write.join s g hd).stirred ((start _).moves (still _).newHead)
    · exact (Write.join s g hd).alone
  | pause => exact ((start s).moves ((still s).pauseHead _)).conclude.unwritten
  | resume => exact ((start s).moves (still s).continueStopped).conclude.unwritten
  | resumeHalted g => exact ((start s).moves ((still s).resumeHalted g)).conclude.unwritten
  | abortSegment g => exact ((start s).moves ((still s).abortHead g)).conclude.unwritten
  | rpc on d k hd hk => exact (Write.rpc s on d k hd hk).alone
  | waitLimit n h => exact (Write.waitLimit s n h).alone
  | protection p => exact (Write.protection s p).alone
  | masks l => exact (Write.masks s l).stirred (start _).finish
  | clear l => exact (Write.clear s l).alone
  | store b x => exact (Write.store s b x).alone
  | bank a => exact (Write.bank s a).stirred (start _).finish

/-- What writes, stirs and the queue of commands keep, every step keeps. -/
theorem step_keeps_of_writes {P : State → Prop} (hq : ∀ s l, P s → P (s.setPending l))
    (hw : ∀ s t, Write s t → P s → P t) (hs : ∀ s t, Stir s t → P s → P t) (s t : State) (h : P s)
    (hst : step s = .next t) : P t := by
  refine step_keeps hq (fun s t ha h => ?_) s t h hst
  obtain ⟨u, rfl | hu, k⟩ := ha.split
  · exact k.keeps hs h
  · exact k.keeps hs (hw _ _ hu h)

/-- A reset leaves the blocks at their reset values, but for LDU, which takes the chosen bank, and CS. -/
theorem resetBlocks_frame (pu : Pu) (lines : Lines) (low : Bool) (s : State) :
    (resetBlocks pu lines low s).mc = Mc.afterReset ∧ (resetBlocks pu lines low s).pt = Pt.afterReset ∧
      (resetBlocks pu lines low s).mon = Mon.afterReset ∧ (resetBlocks pu lines low s).ct = Ct.afterReset ∧
      (resetBlocks pu lines low s).tcu = Tcu.afterReset ∧ (resetBlocks pu lines low s).wsg = Wsg.afterReset ∧
      (resetBlocks pu lines low s).wgc = Wgc.afterReset ∧ (resetBlocks pu lines low s).pu = pu ∧
      (resetBlocks pu lines low s).cl = Cl.afterReset low ∧ (resetBlocks pu lines low s).cs = s.cs.afterReset ∧
      (resetBlocks pu lines low s).lines = lines ∧ (resetBlocks pu lines low s).free = s.free ∧
      (resetBlocks pu lines low s).pending = s.pending :=
  bankChange_frame _

/-! ### The levels (R62) and the driven level (R52) -/

/-- The levels are those computed from the inputs as they stand. -/
def LevelsCurrent (s : State) : Prop := s.ldu.levels = s.levelsNow

/-- The driven level is READ unless the gate is OPEN. -/
def DrivenAgrees (s : State) : Prop := s.ldu.driven = s.drivenNow

/-- A computation makes the levels those of the inputs. -/
theorem recompute_current (s : State) : LevelsCurrent (recompute s) := rfl

theorem bankChange_current (s : State) : LevelsCurrent (bankChange s) := by
  unfold bankChange
  split <;> exact recompute_current _

theorem Move.current {s t : State} (h : Move s t) (hs : LevelsCurrent s) : LevelsCurrent t := by
  cases h with
  | powers p => exact rfl
  | _ => exact hs

theorem Stir.current {s t : State} (h : Stir s t) (hs : LevelsCurrent s) : LevelsCurrent t := by
  cases h with
  | move _ h => exact h.current hs
  | track p hf hc =>
    have same : (s.setPt p).levelsNow = s.levelsNow := by
      show computeLevels _ _ _ _ (s.ldu.readPower.get p.surface) _ = _
      rw [hf]
      rfl
    exact hs.trans same.symm
  | lock p hc => exact recompute_current _
  | compute => exact recompute_current _
  | apc v =>
    unfold apcUpdate
    split
    · exact hs
    · exact recompute_current _
  | mode m g => exact recompute_current _
  | finish => exact hs

theorem Write.current {s t : State} (h : Write s t) (hs : LevelsCurrent s) : LevelsCurrent t := by
  cases h with
  | reset => exact bankChange_current _
  | bank a => exact bankChange_current _
  | readPower p => exact recompute_current _
  | temperature raw h => exact recompute_current _
  | sample c raw h ht =>
    have same : (sampled c raw s).levelsNow = s.levelsNow := by
      have measured : (sampled c raw s).mon.measured = s.mon.measured := by simp [sampled, Mon.advance, Mon.store, ht]
      have temperature : (sampled c raw s).temperature = s.temperature := by
        unfold State.temperature
        rw [measured]
        rfl
      unfold State.levelsNow
      rw [temperature]
      rfl
    exact hs.trans same.symm
  | written b r x =>
    unfold writeEnds
    dsimp only
    split
    · split
      · exact bankChange_current _
      · exact recompute_current _
    · exact hs
  | unload hm =>
    rw [discUnload, if_neg (not_not.2 hm)]
    exact hs
  | _ => exact hs

theorem Move.driven {s t : State} (h : Move s t) (hs : DrivenAgrees s) : DrivenAgrees t := by
  cases h with
  | shut w => cases w <;> rfl
  | opened u => cases u <;> rfl
  | stream w _ h => exact rfl
  | wgc w _ h =>
    have same : (s.setWgc w).drivenNow = s.drivenNow := by
      simp only [State.drivenNow, State.setWgc_wgc, State.setWgc_wsg, h.gate]
    exact hs.trans same.symm
  | _ => exact hs

/-- WGC's reaction to a change of mode clears the marks first. -/
theorem wgcModeReaction_moves (s : State) : Moves (clearMarks s) (wgcModeReaction s) := by
  unfold wgcModeReaction
  have start : Moves (clearMarks s) (clearMarks s) := Moves.refl _
  split
  · exact start
  · exact start.newHead
  · exact start
  · exact ((start.haltForMode _).shut none).flushQueue
  · exact ((start.haltForMode _).shut none).flushQueue
  · exact (start.haltForMode _).shut none

/-- R155: in a mode with the laser off the gate is IDLE. -/
theorem wgcModeReaction_idle (s : State) (h : s.mc.mode.laserOff = true) : (wgcModeReaction s).wgc.gate = .idle := by
  have flushed (u : State) : (flushQueue (shutGate none u)).wgc.gate = .idle := by
    unfold flushQueue
    dsimp only
    split <;> rfl
  unfold wgcModeReaction
  split
  · next hm => simp [hm, Mode.laserOff] at h
  · next hm => simp [hm, Mode.laserOff] at h
  · next hm => simp [hm, Mode.laserOff] at h
  · exact flushed _
  · exact flushed _
  · rfl

/-- The state that MC's own part of a change of mode leaves, before the blocks react. -/
def enterMode (target : Mode) (g : SelfTest) (s : State) : State :=
  (post .mc (.modeChanged s.mc.mode target) (s.setMc { s.mc with mode := target, request := none })).setPt
    (ptModeReaction target g s.pt)

/-- A change of mode is MC's part, then the reactions of TCU, WGC and LDU. -/
theorem changeMode_eq (target : Mode) (g : SelfTest) (s : State) :
    changeMode target g s =
      lduModeReaction (wgcModeReaction (tcuModeReaction s.mc.mode target (enterMode target g s))) := rfl

theorem lduModeReaction_driven (s : State) (h : DrivenAgrees s) (hg : s.mc.mode.laserOff = true → s.wgc.gate = .idle) :
    DrivenAgrees (lduModeReaction s) := by
  unfold lduModeReaction
  split
  · next hm =>
    have notOpen : s.wgc.gate ≠ .opened := by simp [hg hm]
    exact (if_neg notOpen).symm
  · exact h

theorem Stir.driven {s t : State} (h : Stir s t) (hs : DrivenAgrees s) : DrivenAgrees t := by
  cases h with
  | move _ h => exact h.driven hs
  | apc v =>
    unfold apcUpdate
    split <;> exact hs
  | mode m g =>
    rw [changeMode_eq]
    have entered : DrivenAgrees (enterMode m g s) := hs
    have reacted : Moves (enterMode m g s) (wgcModeReaction (tcuModeReaction s.mc.mode m (enterMode m g s))) :=
      ((Moves.refl _).tcuModeReaction _ _).wgcModeReaction
    refine lduModeReaction_driven _ (reacted.keeps (fun _ _ => Move.driven) entered) fun hm => ?_
    exact wgcModeReaction_idle _ (by simpa using hm)
  | _ => exact hs

/-- A change of bank leaves the driven level. -/
theorem bankChange_driven (s : State) (hs : DrivenAgrees s) : DrivenAgrees (bankChange s) := by
  unfold bankChange
  split <;> exact hs

theorem bankLost_driven (s : State) (hs : DrivenAgrees s) : DrivenAgrees (bankLost s) := by
  unfold bankLost
  split <;> exact hs

theorem Write.driven {s t : State} (h : Write s t) (hs : DrivenAgrees s) : DrivenAgrees t := by
  cases h with
  | reset => exact bankChange_driven _ rfl
  | bank a => exact bankChange_driven _ hs
  | written b r x =>
    unfold writeEnds
    dsimp only
    split
    · split
      · exact bankChange_driven _ hs
      · exact bankLost_driven _ hs
    · exact hs
  | unload hm =>
    rw [discUnload, if_neg (not_not.2 hm)]
    exact hs
  | _ => exact hs

/-- Settles O57: computation by computation, and gate by gate. -/
theorem everyStepKeepsLevelsAgree : Obligations.EveryStepKeepsLevelsAgree := by
  intro s t hs h
  exact ⟨step_keeps_of_writes (P := LevelsCurrent) (fun _ _ k => k) (fun _ _ => Write.current)
      (fun _ _ => Stir.current) s t hs.1 h,
    step_keeps_of_writes (P := DrivenAgrees) (fun _ _ k => k) (fun _ _ => Write.driven) (fun _ _ => Stir.driven)
      s t hs.2 h⟩

/-- In a mode with the laser off no level is limited. -/
theorem levelsNow_dark (s : State) (h : s.mc.mode.laserOff = true) :
    s.levelsNow.read.limited = false ∧ s.levelsNow.peak.limited = false ∧ s.levelsNow.bias.limited = false ∧
      s.levelsNow.cool.limited = false := by
  unfold State.levelsNow computeLevels
  dsimp only
  split
  · exact ⟨rfl, rfl, rfl, rfl⟩
  · rw [if_pos h]
    exact ⟨rfl, rfl, rfl, rfl⟩

/-- In a mode with the laser off a computation triggers nothing. -/
theorem recompute_dark_eu (s : State) (h : s.mc.mode.laserOff = true) : (recompute s).eu = s.eu := by
  obtain ⟨read, peak, bias, cool⟩ := levelsNow_dark s h
  rw [recompute_eu]
  simp [newlyLimited, read, peak, bias, cool]

/-- In a mode with the laser off a change of bank triggers nothing. -/
theorem bankChange_dark_eu (s : State) (h : s.mc.mode.laserOff = true) : (bankChange s).eu = s.eu := by
  unfold bankChange
  split <;> exact recompute_dark_eu _ h

/-- A reset leaves the Event Unit at its reset values. -/
theorem resetBlocks_eu (pu : Pu) (lines : Lines) (low : Bool) (s : State) :
    (resetBlocks pu lines low s).eu = Eu.afterReset lines.inhibit := bankChange_dark_eu _ rfl

/-! ### The queues (R15, R177, R178) -/

/-- Each queue within its depth, before the notices of the step have joined. -/
def DepthsHold (s : State) : Prop :=
  2 ≤ s.mc.segDepth ∧ s.mc.segDepth ≤ 32 ∧ s.wgc.queue.length ≤ s.mc.segDepth ∧
    s.eu.notices.length ≤ s.mc.noticeDepth ∧ s.eu.dropped ≤ 255

/-- What changes neither depth, queues nor count keeps them within their depths. -/
theorem DepthsHold.of_eq {s t : State} (h : DepthsHold s) (hm : t.mc.segDepth = s.mc.segDepth)
    (hw : t.wgc.queue.length ≤ s.wgc.queue.length) (hn : t.eu.notices = s.eu.notices)
    (hd : t.eu.dropped = s.eu.dropped) : DepthsHold t := by
  obtain ⟨h1, h2, h3, h4, h5⟩ := h
  unfold DepthsHold Mc.noticeDepth
  rw [hm, hn, hd]
  exact ⟨h1, h2, hw.trans h3, h4, h5⟩

theorem Move.queue_length {s t : State} (h : Move s t) : t.wgc.queue.length ≤ s.wgc.queue.length := by
  cases h with
  | wgc _ _ h => exact h.queue
  | opened u => cases u <;> exact le_rfl
  | _ => exact le_rfl

theorem Move.depths {s t : State} (h : Move s t) (hs : DepthsHold s) : DepthsHold t :=
  hs.of_eq (by rw [h.frame.1]) h.queue_length h.eu_follows.notices h.eu_follows.dropped

/-- A computation changes neither notices nor count. -/
theorem recompute_depths (s : State) (h : DepthsHold s) : DepthsHold (recompute s) := by
  have eu : (recompute s).eu.Follows s.eu := Eu.ite_trigger_follows _ _ rfl _
  exact h.of_eq rfl le_rfl eu.notices eu.dropped

theorem bankChange_depths (s : State) (h : DepthsHold s) : DepthsHold (bankChange s) := by
  unfold bankChange
  split <;> exact recompute_depths _ h

theorem bankLost_depths (s : State) (h : DepthsHold s) : DepthsHold (bankLost s) := by
  unfold bankLost
  split <;> exact recompute_depths _ h

theorem Stir.depths {s t : State} (h : Stir s t) (hs : DepthsHold s) : DepthsHold t := by
  cases h with
  | move _ h => exact h.depths hs
  | track => exact hs
  | lock => exact recompute_depths _ hs
  | compute => exact recompute_depths _ hs
  | apc v =>
    unfold apcUpdate
    split
    · exact hs
    · refine recompute_depths _ ?_
      refine hs.of_eq rfl le_rfl ?_ ?_ <;> (dsimp only [State.setEu_eu]; split) <;> simp
  | mode m g =>
    rw [changeMode_eq]
    have entered : DepthsHold (enterMode m g s) := hs
    have reacted : Moves (enterMode m g s) (wgcModeReaction (tcuModeReaction s.mc.mode m (enterMode m g s))) :=
      ((Moves.refl _).tcuModeReaction _ _).wgcModeReaction
    have kept := reacted.keeps (fun _ _ => Move.depths) entered
    unfold lduModeReaction
    split <;> exact recompute_depths _ kept
  | finish =>
    obtain ⟨h1, h2, h3, h4, h5⟩ := hs
    obtain ⟨-, -, -, -, -, notices, dropped⟩ := finish_eu s
    exact ⟨h1, h2, h3, notices h4, dropped h5⟩

/-- An entry of SET_MASK changes neither notices nor count. -/
theorem Eu.setMask_frame (u : Eu) (x : Event × Bool) :
    (u.setMask x).notices = u.notices ∧ (u.setMask x).dropped = u.dropped := by
  unfold Eu.setMask
  dsimp only
  split <;> exact ⟨rfl, rfl⟩

theorem Eu.setMasks_frame (l : List (Event × Bool)) (u : Eu) :
    (l.foldl Eu.setMask u).notices = u.notices ∧ (l.foldl Eu.setMask u).dropped = u.dropped := by
  induction l generalizing u with
  | nil => exact ⟨rfl, rfl⟩
  | cons x xs ih => exact ⟨(ih _).1.trans (u.setMask_frame x).1, (ih _).2.trans (u.setMask_frame x).2⟩

/-- A window judgement changes neither notices nor count. -/
theorem Eu.judged_frame (u : Eu) (c : Channel) (j : Judgement) :
    (u.judged c j).notices = u.notices ∧ (u.judged c j).dropped = u.dropped := by
  unfold Eu.judged
  dsimp only
  generalize (if j.out = true then WindowSense.outside else WindowSense.inside) = now
  split <;> simp

theorem sampled_depths (c : Channel) (raw : Nat) (s : State) (h : DepthsHold s) : DepthsHold (sampled c raw s) :=
  h.of_eq rfl le_rfl (Eu.judged_frame _ _ _).1 (Eu.judged_frame _ _ _).2

theorem Write.depths {s t : State} (h : Write s t) (hs : DepthsHold s) : DepthsHold t := by
  cases h with
  | noticeRead n rest h =>
    obtain ⟨h1, h2, h3, h4, h5⟩ := hs
    refine ⟨h1, h2, h3, ?_, h5⟩
    rw [h] at h4
    exact (Nat.le_succ _).trans h4
  | reset pu lines low =>
    obtain ⟨mc, -, -, -, -, -, wgc, -⟩ := resetBlocks_frame pu lines low s
    unfold DepthsHold
    rw [mc, wgc, resetBlocks_eu]
    exact ⟨by decide, by decide, Nat.zero_le _, Nat.zero_le _, Nat.zero_le _⟩
  | sample c raw h ht => exact sampled_depths c raw s hs
  | temperature raw h => exact recompute_depths _ (sampled_depths _ raw s hs)
  | written b r x =>
    unfold writeEnds
    dsimp only
    split
    · split
      · exact bankChange_depths _ hs
      · exact bankLost_depths _ hs
    · exact hs
  | bank a => exact bankChange_depths _ hs
  | pool d h =>
    obtain ⟨h1, h2, h3, h4, h5⟩ := hs
    exact ⟨h.1, h.2, Nat.zero_le _, Nat.zero_le _, h5⟩
  | readPower p => exact recompute_depths _ hs
  | unload hm =>
    rw [discUnload, if_neg (not_not.2 hm)]
    exact hs
  | join g h =>
    obtain ⟨h1, h2, h3, h4, h5⟩ := hs
    exact ⟨h1, h2, by simpa using h, h4, h5⟩
  | masks l => exact hs.of_eq rfl le_rfl (Eu.setMasks_frame l s.eu).1 (Eu.setMasks_frame l s.eu).2
  | clear l =>
    obtain ⟨h1, h2, h3, h4, h5⟩ := hs
    refine ⟨h1, h2, h3, h4, ?_⟩
    show (if _ then 0 else s.eu.dropped) ≤ 255
    split
    · exact Nat.zero_le _
    · exact h5
  | _ => exact hs

/-- After every act no notice waits. -/
theorem Act.settled {s t : State} (h : Act s t) (hs : s.settled) : t.settled := by
  cases h with
  | reset => rw [State.settled, resetBlocks_eu]; rfl
  | unload hm =>
    rw [discUnload, if_neg (not_not.2 hm)]
    exact hs
  | linkError => exact (finish_eu _).1
  | inhibit => exact (finish_eu _).1
  | arrival => exact (finish_eu _).1
  | generated => exact (finish_eu _).1
  | completion => exact (finish_eu _).1
  | written => exact (finish_eu _).1
  | locked => exact (finish_eu _).1
  | grant => exact (finish_eu _).1
  | readPower => exact (finish_eu _).1
  | abortCal => exact (finish_eu _).1
  | enqueue => exact (finish_eu _).1
  | pause => exact (finish_eu _).1
  | resume => exact (finish_eu _).1
  | resumeHalted => exact (finish_eu _).1
  | abortSegment => exact (finish_eu _).1
  | masks => exact (finish_eu _).1
  | bank => exact (finish_eu _).1
  | withdraw =>
    rw [State.settled, (withdrawExit_frame s).2.2.2.2.2.2.1]
    exact hs
  | _ => exact hs

theorem queuesFit_iff (s : State) : QueuesFit s ↔ DepthsHold s ∧ s.settled := by
  unfold QueuesFit DepthsHold
  tauto

/-! ### The latch (R132) -/

theorem Move.armSound {s t : State} (h : Move s t) (hs : ArmSound s) : ArmSound t := by
  cases h with
  | opened u => cases u <;> exact hs
  | wgc _ _ h => exact fun ha => hs (h.arm ha)
  | _ => exact hs

/-- R132: at a change of mode the latch is cleared unless the new mode writes. -/
theorem clearMarks_armSound (s : State) : ArmSound (clearMarks s) := fun h => (Bool.and_eq_true_iff.1 h).2

theorem Stir.armSound {s t : State} (h : Stir s t) (hs : ArmSound s) : ArmSound t := by
  cases h with
  | move _ h => exact h.armSound hs
  | apc v =>
    unfold apcUpdate
    split <;> exact hs
  | mode m g =>
    rw [changeMode_eq]
    have reacted := (wgcModeReaction_moves (tcuModeReaction s.mc.mode m (enterMode m g s))).keeps
      (fun _ _ => Move.armSound) (clearMarks_armSound _)
    unfold lduModeReaction
    split <;> exact reacted
  | _ => exact hs

theorem Write.armSound {s t : State} (h : Write s t) (hs : ArmSound s) : ArmSound t := by
  cases h with
  | reset pu lines low =>
    intro ha
    obtain ⟨-, -, -, -, -, -, wgc, -⟩ := resetBlocks_frame pu lines low s
    rw [wgc] at ha
    exact absurd ha (by decide)
  | written b r x =>
    obtain ⟨mc, -, -, -, -, -, wgc, -⟩ := writeEnds_frame b r x s
    unfold ArmSound
    rw [mc, wgc]
    exact hs
  | bank a =>
    obtain ⟨mc, -, -, -, -, -, wgc, -⟩ := bankChange_frame (s.setCs { s.cs with active := some a })
    unfold ArmSound
    rw [mc, wgc]
    exact hs
  | unload hm =>
    rw [discUnload, if_neg (not_not.2 hm)]
    exact hs
  | latch on h => exact h
  | join g h => exact fun ha => absurd ha (by simp)
  | _ => exact hs

/-! ### The scan (R34, R36 to R39) -/

theorem Stir.mon {s t : State} (h : Stir s t) : t.mon = s.mon := by
  cases h with
  | move _ h => exact h.frame.2.2.1
  | apc v => simp
  | mode m g => simp
  | _ => rfl

/-- The scan lies in its list, as a matter of MON alone. -/
def Mon.scanSound (m : Mon) : Prop :=
  m.scanList.length ≤ 8 ∧ (m.scanState ≠ .stopped → m.scanList ≠ []) ∧ (m.scanList ≠ [] → m.position < m.scanList.length)

theorem Mon.store_scan (m : Mon) (c : Channel) (v : Nat) (h : m.scanSound) : (m.store c v).scanSound := h

/-- R38, R39: the position that moves on stays in the list, and a scan is not started by it. -/
theorem Mon.advance_scan (m : Mon) (h : m.scanSound) : m.advance.scanSound := by
  obtain ⟨short, listed, inList⟩ := h
  refine ⟨short, fun k => listed fun hs => k ?_, fun hl => ?_⟩
  · show (if m.scanState = .stopping then ScanState.stopped else m.scanState) = .stopped
    split
    · rfl
    · exact hs
  · show (if m.position + 1 < m.scanList.length then m.position + 1 else 0) < m.scanList.length
    split
    · assumption
    · exact List.length_pos_of_ne_nil hl

theorem Write.scan {s t : State} (h : Write s t) (hs : s.mon.scanSound) : t.mon.scanSound := by
  obtain ⟨short, listed, inList⟩ := id hs
  cases h with
  | reset pu lines low =>
    obtain ⟨-, -, mon, -⟩ := resetBlocks_frame pu lines low s
    rw [mon]
    exact ⟨by decide, fun k => absurd rfl k, fun k => absurd rfl k⟩
  | written b r x => rwa [(writeEnds_frame b r x s).2.2.1]
  | bank a => rw [(bankChange_frame _).2.2.1]; exact hs
  | unload hm =>
    rw [discUnload, if_neg (not_not.2 hm)]
    exact hs
  | sample c raw h ht => exact Mon.advance_scan _ (Mon.store_scan _ _ _ hs)
  | temperature raw h => exact Mon.advance_scan _ (Mon.store_scan _ _ _ hs)
  | scanList l hst hl => exact ⟨hl.2, fun k => absurd hst k, fun _ => hl.1⟩
  | scanStart h => exact ⟨short, fun _ => h, fun k => List.length_pos_of_ne_nil k⟩
  | scanStop h => exact ⟨short, fun _ => listed (by simp [h]), inList⟩
  | _ => exact hs

/-! ### The ranges (R34, R51, R74, R129, R183) -/

def Ldu.inRange (l : Ldu) : Prop := -20000 ≤ l.ioff ∧ l.ioff ≤ 20000

def Wgc.inRange (w : Wgc) : Prop :=
  850 ≤ w.correction ∧ w.correction ≤ 1150 ∧ w.deadband ≤ 100 ∧ 1 ≤ w.rpcStep ∧ w.rpcStep ≤ 20 ∧
    16 ≤ w.waitLimit ∧ w.waitLimit ≤ 65535

def Mon.inRange (m : Mon) : Prop :=
  (∀ c : Channel, m.latest.get c.index ≤ 4095 ∧ m.counts.get c.index ≤ 65535 ∧
      (m.offsets.get c.index).magnitude ≤ 31 ∧ (m.windows.get c.index).low ≤ (m.windows.get c.index).high ∧
      (m.windows.get c.index).high ≤ 4095) ∧
    (∀ t, m.measured = some t → -400 ≤ t ∧ t ≤ 1250)

def Ct.inRange (c : Ct) : Prop := 10 ≤ c.staleSpan ∧ c.staleSpan ≤ 600

theorem Ldu.inRange_of_zero (l : Ldu) (h : l.ioff = 0) : l.inRange := by
  unfold Ldu.inRange
  omega

theorem Wgc.afterReset_inRange : Wgc.afterReset.inRange := by
  unfold Wgc.inRange
  decide

theorem Ct.afterReset_inRange : Ct.afterReset.inRange := by
  unfold Ct.inRange
  decide

theorem Mon.afterReset_inRange : Mon.afterReset.inRange := by
  refine ⟨fun c => ?_, fun t ht => ?_⟩
  · simp [Mon.afterReset]
  · simp [Mon.afterReset] at ht

/-- The ranges are each of one block. -/
theorem rangesHold_iff (s : State) :
    RangesHold s ↔ s.ldu.inRange ∧ s.wgc.inRange ∧ s.ct.inRange ∧ s.pt.coast ≤ 3 ∧ s.cl.discard ≤ 15 ∧ s.mon.inRange := by
  unfold RangesHold Ldu.inRange Wgc.inRange Ct.inRange Mon.inRange
  tauto

theorem Wgc.Follows.inRange {x w : Wgc} (h : x.Follows w) (hw : w.inRange) : x.inRange := by
  obtain ⟨h1, h2, h3, h4, h5, h6, h7⟩ := hw
  unfold Wgc.inRange
  rw [h.deadband, h.rpcStep, h.waitLimit]
  rcases h.correction with same | ⟨low, high⟩
  · rw [same]
    exact ⟨h1, h2, h3, h4, h5, h6, h7⟩
  · exact ⟨low, high, h3, h4, h5, h6, h7⟩

theorem Move.ranges {s t : State} (h : Move s t) (hs : RangesHold s) : RangesHold t := by
  cases h with
  | opened u => cases u <;> exact hs
  | wgc _ _ h =>
    rw [rangesHold_iff] at hs ⊢
    exact ⟨hs.1, h.inRange hs.2.1, hs.2.2⟩
  | _ => exact hs

theorem Moves.ranges {s t : State} (h : Moves s t) (hs : RangesHold s) : RangesHold t :=
  h.keeps (fun _ _ => Move.ranges) hs

/-- What changes LDU alone of the blocks with ranges, and leaves Ioff in its own, keeps the ranges. -/
theorem RangesHold.of_ldu {s t : State} (h : RangesHold s) (hl : t.ldu.inRange) (hw : t.wgc = s.wgc) (hct : t.ct = s.ct)
    (hp : t.pt = s.pt) (hcl : t.cl = s.cl) (hm : t.mon = s.mon) : RangesHold t := by
  rw [rangesHold_iff] at h ⊢
  rw [hw, hct, hp, hcl, hm]
  exact ⟨hl, h.2⟩

theorem bankChange_ioff (s : State) (h : s.ldu.inRange) : (bankChange s).ldu.inRange := by
  unfold bankChange
  split
  · exact h
  · exact Ldu.inRange_of_zero _ rfl

theorem bankLost_ioff (s : State) (h : s.ldu.inRange) : (bankLost s).ldu.inRange := by
  unfold bankLost
  split
  · exact Ldu.inRange_of_zero _ rfl
  · exact h

theorem apcUpdate_ioff (v : Nat) (s : State) (h : s.ldu.inRange) : (apcUpdate v s).ldu.inRange := by
  unfold apcUpdate
  split
  · exact h
  · exact ⟨le_max_left _ _, max_le (by decide) (min_le_left _ _)⟩

theorem Stir.ranges {s t : State} (h : Stir s t) (hs : RangesHold s) : RangesHold t := by
  have blocks := (rangesHold_iff s).1 hs
  obtain ⟨ldu, wgc, ct, coast, link, mon⟩ := blocks
  cases h with
  | move _ h => exact h.ranges hs
  | track p hf hc => exact (rangesHold_iff _).2 ⟨ldu, wgc, ct, hc coast, link, mon⟩
  | lock p hc => exact (rangesHold_iff _).2 ⟨ldu, wgc, ct, hc, link, mon⟩
  | apc v => exact hs.of_ldu (apcUpdate_ioff v s ldu) (by simp) (by simp) (by simp) (by simp) (by simp)
  | mode m g =>
    rw [changeMode_eq]
    have entered : RangesHold (enterMode m g s) := by
      refine (rangesHold_iff _).2 ⟨ldu, wgc, ct, ?_, link, mon⟩
      show (ptModeReaction m g s.pt).coast ≤ 3
      unfold ptModeReaction
      dsimp only
      split <;> exact Nat.zero_le 3
    have reacted := (((Moves.refl (enterMode m g s)).tcuModeReaction s.mc.mode m).wgcModeReaction).ranges entered
    unfold lduModeReaction
    split <;> exact reacted
  | _ => exact hs

theorem Offset.correct_le (o : Offset) (raw : Nat) : o.correct raw ≤ 4095 := by
  unfold Offset.correct
  split <;> exact min_le_left _ _

theorem temperatureOf_range (code : Nat) : -400 ≤ temperatureOf code ∧ temperatureOf code ≤ 1250 :=
  ⟨le_max_left _ _, max_le (by decide) (min_le_left _ _)⟩

/-- A completion keeps MON's ranges. -/
theorem Mon.store_inRange (m : Mon) (c : Channel) (v : Nat) (hv : v ≤ 4095) (h : m.inRange) : (m.store c v).inRange := by
  refine ⟨fun d => ?_, fun t ht => ?_⟩
  · obtain ⟨latest, count, rest⟩ := h.1 d
    refine ⟨?_, ?_, rest⟩
    · simp only [Mon.store, Eight.get_put]
      split
      · exact hv
      · exact latest
    · simp only [Mon.store, Eight.get_put]
      split
      · omega
      · exact count
  · simp only [Mon.store] at ht
    split at ht
    · obtain rfl := Option.some.inj ht
      exact temperatureOf_range v
    · exact h.2 t ht

theorem Write.ranges {s t : State} (h : Write s t) (hs : RangesHold s) : RangesHold t := by
  have blocks := (rangesHold_iff s).1 hs
  obtain ⟨ldu, wgc, ct, coast, link, mon⟩ := id blocks
  obtain ⟨correction, correction', deadband, step, step', wait, wait'⟩ := id wgc
  have sampled_ranges (c : Channel) (raw : Nat) : RangesHold (sampled c raw s) :=
    (rangesHold_iff _).2
      ⟨ldu, wgc, ct, coast, link, Mon.store_inRange s.mon c _ (Offset.correct_le _ raw) mon⟩
  cases h with
  | link c h => exact (rangesHold_iff _).2 ⟨ldu, wgc, ct, coast, by simpa [link] using h, mon⟩
  | reset pu lines low =>
    obtain ⟨-, pt, mon, ct, -, -, wgc, -, cl, -⟩ := resetBlocks_frame pu lines low s
    refine (rangesHold_iff _).2 ⟨bankChange_ioff _ (Ldu.inRange_of_zero _ rfl), ?_⟩
    rw [wgc, ct, pt, cl, mon]
    exact ⟨Wgc.afterReset_inRange, Ct.afterReset_inRange, Nat.zero_le _, Nat.zero_le _, Mon.afterReset_inRange⟩
  | sample c raw h ht => exact sampled_ranges c raw
  | temperature raw h => exact sampled_ranges .temp raw
  | written b r x =>
    refine hs.of_ldu ?_ (by simp) (by simp) (by simp) (by simp) (by simp)
    unfold writeEnds
    dsimp only
    split
    · split
      · exact bankChange_ioff _ ldu
      · exact bankLost_ioff _ ldu
    · exact ldu
  | bank a => exact hs.of_ldu (bankChange_ioff _ ldu) (by simp) (by simp) (by simp) (by simp) (by simp)
  | offset c o h =>
    refine (rangesHold_iff _).2 ⟨ldu, wgc, ct, coast, link, fun d => ?_, mon.2⟩
    obtain ⟨latest, count, magnitude, window⟩ := mon.1 d
    refine ⟨latest, count, ?_, window⟩
    simp only [State.setMon_mon, Eight.get_put]
    split
    · exact h
    · exact magnitude
  | window c w h =>
    refine (rangesHold_iff _).2 ⟨ldu, wgc, ct, coast, link, fun d => ?_, mon.2⟩
    obtain ⟨latest, count, magnitude, window⟩ := mon.1 d
    refine ⟨latest, count, magnitude, ?_⟩
    simp only [State.setMon_mon, Eight.get_put]
    split
    · exact h
    · exact window
  | staleSpan n h => exact (rangesHold_iff _).2 ⟨ldu, wgc, h, coast, link, mon⟩
  | unload hm =>
    rw [discUnload, if_neg (not_not.2 hm)]
    exact hs
  | rpc on d k hd hk =>
    exact (rangesHold_iff _).2
      ⟨ldu, ⟨correction, correction', hd, hk.1, hk.2, wait, wait'⟩, ct, coast, link, mon⟩
  | waitLimit n h =>
    exact (rangesHold_iff _).2 ⟨ldu, ⟨correction, correction', deadband, step, step', h⟩, ct, coast, link, mon⟩
  | _ => exact hs

/-- Settles O58: depths and notices, latch, ranges and scan, each kept by every write and every stir. -/
theorem everyStepKeepsSettings : Obligations.EveryStepKeepsSettings := by
  refine ⟨fun s t hs h => ?_, fun s t => ?_, fun s t => ?_, fun s t => ?_⟩
  · rw [queuesFit_iff] at hs ⊢
    exact ⟨step_keeps_of_writes (fun _ _ k => k) (fun _ _ => Write.depths) (fun _ _ => Stir.depths) s t hs.1 h,
      step_keeps (P := State.settled) (fun _ _ k => k) (fun _ _ => Act.settled) s t hs.2 h⟩
  · exact step_keeps_of_writes (fun _ _ k => k) (fun _ _ => Write.armSound) (fun _ _ => Stir.armSound) s t
  · exact step_keeps_of_writes (fun _ _ k => k) (fun _ _ => Write.ranges) (fun _ _ => Stir.ranges) s t
  · exact step_keeps_of_writes (P := fun s => s.mon.scanSound) (fun _ _ k => k) (fun _ _ => Write.scan)
      (fun _ _ h k => by rwa [h.mon]) s t

end Sys2Proof.Machine
end

section
/-! SUPPORT. What keeps the gate, the head and the queue of segments sound (R129 to R156): soundness split into what no
move of the gate touches and what the gate owes to the head, and one lemma for each operation of WGC. -/

namespace Sys2Proof.Machine

/-- R130: what a segment of the queue holds. -/
def Segment.Sound (c : Ct) (g : Segment) : Prop :=
  g.done < g.count ∧ g.count ≤ 256 ∧ g.last < c.blocks ∧ c.hasSurface g.surface = true ∧
    (g.reason.isSome = true ↔ g.state = .suspending ∨ g.state = .suspended ∨ g.state = .halted) ∧
    (∀ a, g.damaged = some a → g.state = .halted ∧ a = g.next)

theorem Segment.Sound.congr {c d : Ct} {g : Segment} (h : g.Sound c) (hd : d.disc = c.disc) : g.Sound d := by
  unfold Segment.Sound Ct.blocks Ct.hasSurface
  rw [hd]
  exact h

/-- A head that stops keeps its place and its blocks (R141, R145). -/
theorem Segment.Sound.suspended {c : Ct} {g : Segment} (h : g.Sound c) (hd : g.damaged = none) (why : SegReason) :
    ({ g with state := .suspended, reason := some why } : Segment).Sound c := by
  obtain ⟨done, count, last, surface, -, -⟩ := h
  exact ⟨done, count, last, surface, by simp, fun a ha => absurd (hd.symm.trans ha) (by simp)⟩

theorem Segment.Sound.halted {c : Ct} {g : Segment} (h : g.Sound c) (why : SegReason) (d : Option Nat)
    (hd : ∀ a, d = some a → a = g.next) :
    ({ g with state := .halted, reason := some why, damaged := d } : Segment).Sound c := by
  obtain ⟨done, count, last, surface, -, -⟩ := h
  exact ⟨done, count, last, surface, by simp, fun a ha => ⟨rfl, hd a ha⟩⟩

/-- A segment that has not been halted holds no damaged block. -/
theorem Segment.Sound.undamaged {c : Ct} {g : Segment} (h : g.Sound c) (hs : g.state ≠ .halted) : g.damaged = none := by
  obtain ⟨-, -, -, -, -, damaged⟩ := h
  cases hd : g.damaged with
  | none => rfl
  | some a => exact absurd (damaged a hd).1 hs

/-- A head that waits or writes has no reason. -/
theorem Segment.Sound.running {c : Ct} {g : Segment} (h : g.Sound c) (x : SegState) (hd : g.damaged = none)
    (hr : g.reason = none) (hx : x ≠ .suspending ∧ x ≠ .suspended ∧ x ≠ .halted) :
    ({ g with state := x } : Segment).Sound c := by
  obtain ⟨done, count, last, surface, -, -⟩ := h
  obtain ⟨h1, h2, h3⟩ := hx
  exact ⟨done, count, last, surface, by simp [hr, h1, h2, h3], fun a ha => absurd (hd.symm.trans ha) (by simp)⟩

theorem Segment.Sound.noReason {c : Ct} {g : Segment} (h : g.Sound c)
    (hs : g.state = .queued ∨ g.state = .waiting ∨ g.state = .writing) : g.reason = none := by
  obtain ⟨-, -, -, -, reason, -⟩ := h
  cases hr : g.reason with
  | none => rfl
  | some w =>
    rw [hr] at reason
    have stopped := reason.1 rfl
    rcases hs with k | k | k <;> simp [k] at stopped

/-- The queue and the exit, apart from the gate: the segments are sound, those behind the head QUEUED, the queue is
empty in CONFIGURE and STANDBY, and an exit is pending in RECORD alone, with its mark (R9, R130, R154, R155). -/
structure Tidy (s : State) : Prop where
  tail : ∀ g ∈ s.wgc.queue.tail, g.state = .queued
  segments : ∀ g ∈ s.wgc.queue, g.Sound s.ct
  empty : s.mc.mode = .configure ∨ s.mc.mode = .standby → s.wgc.queue = []
  exit : s.wgc.exitMark = s.mc.request.isSome
  request : ∀ m, s.mc.request = some m → s.mc.mode = .record ∧ (m = .read ∨ m = .standby)

/-- The head neither waits at the gate nor writes. -/
def HeadOff (q : List Segment) : Prop := ∀ g ∈ q.head?, g.state ≠ .waiting ∧ g.state.writes = false

/-- The gate that a trial, or without one the head of the queue, calls for. -/
def gateFor : Option Trial → List Segment → GateState × Option GateUser
  | some t, _ => (if t.sub = .writing then .opened else .waiting, some .trial)
  | none, [] => (.idle, none)
  | none, g :: _ =>
    if g.state = .waiting then (.waiting, some .segment)
    else if g.state.writes then (.opened, some .segment)
    else (.idle, none)

theorem gateDue_eq (s : State) : s.gateDue = gateFor s.tcu.trial s.wgc.queue := by
  unfold State.gateDue gateFor
  cases s.tcu.trial <;> cases s.wgc.queue <;> rfl

/-- The gate stands as a trial or the head calls for, never for both, and only in a mode that writes (R129, R135). -/
structure Gated (o : Option Trial) (s : State) : Prop where
  due : (s.wgc.gate, s.wgc.user) = gateFor o s.wgc.queue
  off : o.isSome = true → HeadOff s.wgc.queue
  mode : s.wgc.gate ≠ .idle → s.mc.mode.mayWrite = true

/-- WGC's part of a sound recording path, but for a QUEUED head at a pending exit, which has yet to proceed (R154). -/
structure Ready (o : Option Trial) (s : State) : Prop where
  tidy : Tidy s
  gated : Gated o s
  notWaiting : s.mc.request.isSome = true → ∀ g ∈ s.wgc.queue.head?, g.state ≠ .waiting

/-- WGC's part of a sound recording path. -/
structure Sound (o : Option Trial) (s : State) : Prop where
  ready : Ready o s
  notQueued : s.mc.request.isSome = true → ∀ g ∈ s.wgc.queue.head?, g.state ≠ .queued

/-- A queue and an exit stand as they are while WGC's other parts, the gate among them, change. -/
theorem Tidy.congr {s t : State} (h : Tidy s) (hq : t.wgc.queue = s.wgc.queue) (hx : t.wgc.exitMark = s.wgc.exitMark)
    (hm : t.mc = s.mc) (hc : t.ct.disc = s.ct.disc) : Tidy t := by
  obtain ⟨tail, segments, empty, exit, request⟩ := h
  refine ⟨?_, ?_, ?_, ?_, ?_⟩
  · rwa [hq]
  · rw [hq]
    exact fun g hg => (segments g hg).congr hc
  · rwa [hq, hm]
  · rwa [hx, hm]
  · rwa [hm]

/-- The head changes and stays sound. -/
theorem Tidy.replaceHead {s t : State} (h : Tidy s) {g x : Segment} {rest : List Segment}
    (hq : s.wgc.queue = g :: rest) (ht : t.wgc.queue = x :: rest) (hg : x.Sound s.ct)
    (hx : t.wgc.exitMark = s.wgc.exitMark) (hm : t.mc = s.mc) (hc : t.ct.disc = s.ct.disc) : Tidy t := by
  obtain ⟨tail, segments, empty, exit, request⟩ := h
  rw [hq] at tail segments
  refine ⟨?_, ?_, fun k => ?_, ?_, ?_⟩
  · rwa [ht]
  · rw [ht]
    intro y hy
    rcases List.mem_cons.1 hy with rfl | hy
    · exact hg.congr hc
    · exact (segments y (List.mem_cons_of_mem _ hy)).congr hc
  · rw [hm] at k
    exact absurd ((empty k).symm.trans hq) (by simp)
  · rwa [hx, hm]
  · rwa [hm]

/-- The head leaves, and the queue behind it stands. -/
theorem Tidy.withoutHead {s t : State} (h : Tidy s) {g : Segment} {rest : List Segment} (hq : s.wgc.queue = g :: rest)
    (ht : t.wgc.queue = rest) (hx : t.wgc.exitMark = s.wgc.exitMark) (hm : t.mc = s.mc) (hc : t.ct.disc = s.ct.disc) :
    Tidy t := by
  obtain ⟨tail, segments, empty, exit, request⟩ := h
  rw [hq] at tail segments
  refine ⟨fun y hy => ?_, fun y hy => ?_, fun k => ?_, ?_, ?_⟩
  · rw [ht] at hy
    exact tail y (List.mem_of_mem_tail hy)
  · rw [ht] at hy
    exact (segments y (List.mem_cons_of_mem _ hy)).congr hc
  · rw [hm] at k
    exact absurd ((empty k).symm.trans hq) (by simp)
  · rwa [hx, hm]
  · rwa [hm]

theorem Tidy.head {s : State} (h : Tidy s) {g : Segment} {rest : List Segment} (hq : s.wgc.queue = g :: rest) :
    g.Sound s.ct := h.segments g (by simp [hq])

theorem Tidy.behind {s : State} (h : Tidy s) {g : Segment} {rest : List Segment} (hq : s.wgc.queue = g :: rest) :
    ∀ x ∈ rest, x.state = .queued := by
  have tail := h.tail
  rwa [hq] at tail

theorem headOff_nil : HeadOff [] := fun _ h => absurd h (by simp)

theorem headOff_cons {g : Segment} {rest : List Segment} (h : g.state ≠ .waiting ∧ g.state.writes = false) :
    HeadOff (g :: rest) := fun _ hx => by
  obtain rfl := Option.mem_some.1 hx
  exact h

/-- A head that waits calls for a WAITING gate. -/
theorem gateFor_waiting {g : Segment} {rest : List Segment} (h : g.state = .waiting) :
    gateFor none (g :: rest) = (.waiting, some .segment) := if_pos h

/-- A head that writes calls for an OPEN gate. -/
theorem gateFor_writes {g : Segment} {rest : List Segment} (h : g.state.writes = true) :
    gateFor none (g :: rest) = (.opened, some .segment) := by
  have notWaiting : g.state ≠ .waiting := fun k => absurd h (by rw [k]; decide)
  exact (if_neg notWaiting).trans (if_pos h)

/-- A head that is not at the gate calls for none. -/
theorem gateFor_off {q : List Segment} (h : HeadOff q) : gateFor none q = (.idle, none) := by
  cases q with
  | nil => rfl
  | cons g rest =>
    obtain ⟨waiting, writes⟩ := h g rfl
    simp [gateFor, waiting, writes]

/-- A queue whose segments are all QUEUED has its head off the gate. -/
theorem headOff_queued {q : List Segment} (h : ∀ g ∈ q.head?, g.state = .queued) : HeadOff q := fun g hg => by
  rw [h g hg]
  exact ⟨by decide, rfl⟩

/-- WGC with the gate released: nothing is owed to the head any longer. -/
structure Released (s : State) : Prop where
  tidy : Tidy s
  gate : s.wgc.gate = .idle
  user : s.wgc.user = none

theorem Tidy.shut {s : State} (h : Tidy s) : Released (shutGate none s) := ⟨h.congr rfl rfl rfl rfl, rfl, rfl⟩

theorem Released.ready {s : State} (h : Released s) (off : HeadOff s.wgc.queue) : Ready none s := by
  refine ⟨h.tidy, ⟨?_, fun k => absurd k (by simp), fun k => absurd h.gate k⟩, fun _ g hg => (off g hg).1⟩
  rw [gateFor_off off, h.gate, h.user]

theorem Released.sound {s : State} (h : Released s) (off : HeadOff s.wgc.queue)
    (notQueued : ∀ g ∈ s.wgc.queue.head?, g.state ≠ .queued) : Sound none s := ⟨h.ready off, fun _ => notQueued⟩

theorem Released.dropped {s : State} (h : Released s) (p : Poster) (n : Notice) (hq : s.wgc.queue ≠ []) :
    Released (post p n (dropHead s)) := by
  obtain ⟨g, rest, hq⟩ := List.exists_cons_of_ne_nil hq
  exact ⟨h.tidy.withoutHead hq (by simp [dropHead, hq]) rfl rfl rfl, h.gate, h.user⟩

/-- The gate released, the head is suspended (R141). -/
theorem Released.suspend {s : State} (h : Released s) (why : SegReason)
    (hd : ∀ g ∈ s.wgc.queue.head?, g.state ≠ .halted) : Sound none (suspendHead why s) := by
  cases hq : s.wgc.queue with
  | nil =>
    rw [suspendHead, hq]
    exact h.sound (hq ▸ headOff_nil) (by simp [hq])
  | cons g rest =>
    rw [suspendHead_cons why s g rest hq]
    have sound := h.tidy.head hq
    have undamaged := sound.undamaged (hd g (by simp [hq]))
    have tidy := h.tidy.replaceHead
      (t := post .wgc (.segmentSuspended g.tag g.next g.remaining why)
        (s.setWgc { s.wgc with queue := { g with state := .suspended, reason := some why } :: rest }))
      hq rfl (sound.suspended undamaged why) rfl rfl rfl
    exact Released.sound ⟨tidy, h.gate, h.user⟩ (headOff_cons ⟨by simp, rfl⟩) (by simp)

/-- The gate released, the head is halted (R145). -/
theorem Released.halt {s : State} (h : Released s) (why : SegReason) (d : Option Nat)
    (hd : ∀ a, d = some a → ∀ g ∈ s.wgc.queue.head?, a = g.next) : Sound none (haltHead why d s) := by
  cases hq : s.wgc.queue with
  | nil =>
    rw [haltHead, hq]
    exact h.sound (hq ▸ headOff_nil) (by simp [hq])
  | cons g rest =>
    rw [haltHead_cons why d s g rest hq]
    have tidy := h.tidy.replaceHead
      (t := post .wgc (.segmentHalted g.tag why g.done d)
        (s.setWgc { s.wgc with
          queue := { g with state := .halted, reason := some why, damaged := d } :: rest, arm := false }))
      hq rfl ((h.tidy.head hq).halted why d fun a ha => hd a ha g (by simp [hq])) rfl rfl rfl
    exact Released.sound ⟨tidy, h.gate, h.user⟩ (headOff_cons ⟨by simp, rfl⟩) (by simp)

/-- The gate released with no block cut, the head is halted. -/
theorem Released.haltUncut {s : State} (h : Released s) (why : SegReason) : Sound none (haltHead why none s) :=
  h.halt why none fun _ ha => absurd ha (by simp)

/-- A QUEUED head is suspended where it stands, a trial or none being in flight (R143, R154). -/
theorem Gated.suspendQueued {o : Option Trial} {s : State} (h : Gated o s) (tidy : Tidy s) (why : SegReason)
    (hs : ∀ g ∈ s.wgc.queue.head?, g.state = .queued) : Sound o (suspendHead why s) := by
  cases hq : s.wgc.queue with
  | nil =>
    rw [suspendHead, hq]
    exact ⟨⟨tidy, h, by simp [hq]⟩, by simp [hq]⟩
  | cons g rest =>
    have queued := hs g (by simp [hq])
    cases o with
    | none =>
      have due := h.due
      rw [gateFor_off (headOff_queued hs)] at due
      obtain ⟨gate, user⟩ := Prod.mk.inj due
      exact Released.suspend ⟨tidy, gate, user⟩ why fun x hx => by rw [hs x hx]; decide
    | some t =>
      rw [suspendHead_cons why s g rest hq]
      have sound := tidy.head hq
      have stopped := sound.suspended (sound.undamaged (by rw [queued]; decide)) why
      refine ⟨⟨tidy.replaceHead hq rfl stopped rfl rfl rfl, ⟨h.due, fun _ => headOff_cons ⟨by simp, rfl⟩, h.mode⟩,
        fun _ => ?_⟩, fun _ => ?_⟩ <;> simp

/-- A head whose gate is free, with no exit pending and blocks that are not protected, waits at the gate (R137). -/
theorem Ready.takesGate {s : State} (h : Ready none s) {g : Segment} {rest : List Segment}
    (hq : s.wgc.queue = g :: rest) (hs : g.state = .queued) (hx : s.wgc.exitMark = false)
    (hm : s.mc.mode.mayWrite = true) :
    Sound none ((shutGate (some .segment) s).setWgc
      { (shutGate (some .segment) s).wgc.mapHead (fun h => { h with state := .waiting }) with wait := 0 }) := by
  have sound := h.tidy.head hq
  have waits := sound.running .waiting (sound.undamaged (by rw [hs]; decide)) (sound.noReason (.inl hs))
    ⟨by decide, by decide, by decide⟩
  have noRequest : s.mc.request.isSome = false := by rw [← h.tidy.exit, hx]
  have queue : ((shutGate (some .segment) s).wgc.mapHead (fun h => { h with state := .waiting })) =
      { (shutGate (some .segment) s).wgc with queue := { g with state := .waiting } :: rest } := by
    unfold Wgc.mapHead
    rw [show (shutGate (some .segment) s).wgc.queue = g :: rest from hq]
  rw [queue]
  exact ⟨⟨h.tidy.replaceHead hq rfl waits rfl rfl rfl, ⟨rfl, fun k => absurd k (by simp), fun _ => hm⟩,
    fun k => absurd (noRequest.symm.trans k) (by simp)⟩, fun k => absurd (noRequest.symm.trans k) (by simp)⟩

/-- With the gate idle no trial is in flight. -/
theorem Gated.noTrial {o : Option Trial} {s : State} (h : Gated o s) (hg : s.wgc.gate = .idle) : o = none := by
  cases o with
  | none => rfl
  | some t =>
    have gate : s.wgc.gate = if t.sub = .writing then .opened else .waiting := congrArg Prod.fst h.due
    rw [hg] at gate
    split at gate <;> exact absurd gate (by simp)

/-- With the gate idle the head is off it. -/
theorem Gated.headOff {s : State} (h : Gated none s) (hg : s.wgc.gate = .idle) : HeadOff s.wgc.queue := by
  have gate : (gateFor none s.wgc.queue).1 = .idle := (congrArg Prod.fst h.due).symm.trans hg
  cases hq : s.wgc.queue with
  | nil => exact headOff_nil
  | cons g rest =>
    rw [hq] at gate
    refine headOff_cons ⟨fun k => ?_, ?_⟩
    · exact absurd ((congrArg Prod.fst (gateFor_waiting k)).symm.trans gate) (by simp)
    · by_contra k
      rw [Bool.not_eq_false] at k
      exact absurd ((congrArg Prod.fst (gateFor_writes k)).symm.trans gate) (by simp)

/-- R136, R137, R154: the heads that proceed leave the gate as the last of them calls for. -/
theorem Ready.proceed {o : Option Trial} (k : Nat) {s : State} (h : Ready o s) (hk : s.wgc.queue.length ≤ k) :
    Sound o (proceed k s) := by
  induction k generalizing s with
  | zero =>
    have empty : s.wgc.queue = [] := List.length_eq_zero_iff.1 (Nat.le_zero.1 hk)
    exact ⟨h, fun _ g hg => absurd (show g ∈ s.wgc.queue.head? from hg) (by simp [empty])⟩
  | succ k ih =>
    unfold Machine.proceed
    split
    · next hq => exact ⟨h, by simp [hq]⟩
    · next g rest hq =>
      split
      · next hs => exact ⟨h, fun _ => by simpa [hq] using hs⟩
      · next hs =>
        have queued : g.state = .queued := not_not.1 hs
        split
        · exact h.gated.suspendQueued h.tidy .mode (by simpa [hq] using queued)
        · next hx =>
          have unmarked : s.wgc.exitMark = false := by simpa using hx
          have noRequest : s.mc.request.isSome = false := by rw [← h.tidy.exit, unmarked]
          split
          · exact ⟨h, fun k => absurd (noRequest.symm.trans k) (by simp)⟩
          · next hg =>
            obtain ⟨idle, may⟩ := not_or.1 hg
            obtain rfl := h.gated.noTrial (not_not.1 idle)
            split
            · have user : s.wgc.user = none := by
                have due := h.gated.due
                rw [gateFor_off (h.gated.headOff (not_not.1 idle))] at due
                exact (Prod.mk.inj due).2
              have released := Released.dropped ⟨h.tidy, not_not.1 idle, user⟩ .wgc (.segmentRefused g.tag) (by simp [hq])
              have behind : ∀ x ∈ rest, x.state = .queued := h.tidy.behind hq
              refine ih (released.ready (headOff_queued fun x hx => ?_)) ?_
              · have mem : x ∈ s.wgc.queue.tail.head? := hx
                rw [hq] at mem
                exact behind x (List.mem_of_mem_head? mem)
              · rw [hq] at hk
                simpa [dropHead, hq] using hk
            · exact h.takesGate hq queued unmarked (by simpa using may)

/-- R136: a new head leaves the path sound. -/
theorem Ready.newHead {o : Option Trial} {s : State} (h : Ready o s) : Sound o (newHead s) := h.proceed _ le_rfl

/-- Queue, gate, user and exit mark, MC and the set disc say whether WGC's part is sound. -/
theorem Sound.congr {o : Option Trial} {s t : State} (h : Sound o s) (hq : t.wgc.queue = s.wgc.queue)
    (hg : t.wgc.gate = s.wgc.gate) (hu : t.wgc.user = s.wgc.user) (hx : t.wgc.exitMark = s.wgc.exitMark)
    (hm : t.mc = s.mc) (hc : t.ct.disc = s.ct.disc) : Sound o t := by
  obtain ⟨⟨tidy, ⟨due, off, mode⟩, notWaiting⟩, notQueued⟩ := h
  refine ⟨⟨tidy.congr hq hx hm hc, ⟨?_, ?_, ?_⟩, ?_⟩, ?_⟩
  · rwa [hg, hu, hq]
  · rwa [hq]
  · rwa [hg, hm]
  · rwa [hm, hq]
  · rwa [hm, hq]

/-- What leaves WGC, MC and the set disc leaves WGC's part sound. -/
theorem Sound.elsewhere {o : Option Trial} {s t : State} (h : Sound o s) (hw : t.wgc = s.wgc) (hm : t.mc = s.mc)
    (hc : t.ct.disc = s.ct.disc) : Sound o t :=
  h.congr (by rw [hw]) (by rw [hw]) (by rw [hw]) (by rw [hw]) hm hc

/-! ### A head at the gate -/

/-- A head that writes has the gate OPEN for it, in a mode that writes, with no trial in flight (R129, R135). -/
theorem Gated.writing {o : Option Trial} {s : State} (h : Gated o s) {g : Segment} {rest : List Segment}
    (hq : s.wgc.queue = g :: rest) (hs : g.state.writes = true) :
    o = none ∧ s.wgc.gate = .opened ∧ s.wgc.user = some .segment ∧ s.mc.mode.mayWrite = true := by
  cases o with
  | some t =>
    have off := (h.off rfl g (by simp [hq])).2
    exact absurd (hs.symm.trans off) (by simp)
  | none =>
    have due := h.due
    rw [hq, gateFor_writes hs] at due
    obtain ⟨gate, user⟩ := Prod.mk.inj due
    exact ⟨rfl, gate, user, h.mode (by rw [gate]; decide)⟩

/-- A head that waits has the gate WAITING for it, with no trial in flight. -/
theorem Gated.waiting {o : Option Trial} {s : State} (h : Gated o s) {g : Segment} {rest : List Segment}
    (hq : s.wgc.queue = g :: rest) (hs : g.state = .waiting) : o = none ∧ s.mc.mode.mayWrite = true := by
  cases o with
  | some t => exact absurd hs (h.off rfl g (by simp [hq])).1
  | none =>
    have due := h.due
    rw [hq, gateFor_waiting hs] at due
    obtain ⟨gate, user⟩ := Prod.mk.inj due
    exact ⟨rfl, h.mode (by rw [gate]; decide)⟩

/-- The gate OPEN for a head that writes, with no exit that could have kept it from the gate, or a pause under way. -/
theorem Tidy.opened {s : State} (h : Tidy s) {g : Segment} {rest : List Segment} (hq : s.wgc.queue = g :: rest)
    (hs : g.state.writes = true) (gate : s.wgc.gate = .opened) (user : s.wgc.user = some .segment)
    (may : s.mc.mode.mayWrite = true) : Sound none s := by
  refine ⟨⟨h, ⟨?_, fun k => absurd k (by simp), fun _ => may⟩, fun _ x hx => ?_⟩, fun _ x hx => ?_⟩
  · rw [hq, gateFor_writes hs, gate, user]
  · rw [hq] at hx
    obtain rfl := Option.mem_some.1 hx
    exact fun k => absurd hs (by rw [k]; decide)
  · rw [hq] at hx
    obtain rfl := Option.mem_some.1 hx
    exact fun k => absurd hs (by rw [k]; decide)

/-- R143: the head that is paused leaves the gate, or writes its block to the end. -/
theorem Gated.pause {o : Option Trial} {s : State} (h : Gated o s) (tidy : Tidy s) (why : SegReason) :
    Sound o (pauseHead why s) := by
  have still (hs : ∀ g ∈ s.wgc.queue.head?, g.state ≠ .queued ∧ g.state ≠ .waiting) : Sound o s :=
    ⟨⟨tidy, h, fun _ g hg => (hs g hg).2⟩, fun _ g hg => (hs g hg).1⟩
  unfold pauseHead
  split
  · next hq => exact still (by simp [hq])
  · next g rest hq =>
    have sound := tidy.head hq
    split
    · next hs => exact h.suspendQueued tidy why (by simpa [hq] using hs)
    · next hs =>
      obtain ⟨rfl, -⟩ := h.waiting hq hs
      exact tidy.shut.suspend why fun x hx => by
        have mem : x ∈ s.wgc.queue.head? := hx
        rw [hq] at mem
        obtain rfl := Option.mem_some.1 mem
        rw [hs]
        decide
    · next hs =>
      obtain ⟨rfl, gate, user, may⟩ := h.writing hq (by rw [hs]; rfl)
      have undamaged := sound.undamaged (by rw [hs]; decide)
      have paused : ({ g with state := .suspending, reason := some why } : Segment).Sound s.ct := by
        obtain ⟨done, count, last, surface, -, -⟩ := sound
        exact ⟨done, count, last, surface, by simp, fun a ha => absurd (undamaged.symm.trans ha) (by simp)⟩
      simp only [Wgc.mapHead, hq]
      refine Tidy.opened (tidy.replaceHead hq rfl paused rfl rfl rfl) rfl rfl gate user may
    · next hs => exact still (by simp [hq, hs])
    · next hs => exact still (by simp [hq, hs])
    · next hs => exact still (by simp [hq, hs])

/-- R144: the inhibit report pauses a WRITING head. -/
theorem Sound.inhibit {o : Option Trial} {s : State} (h : Sound o s) : Sound o (wgcInhibit s) := by
  have cleared : Sound o (s.setWgc { s.wgc with arm := false }) := h.congr rfl rfl rfl rfl rfl rfl
  unfold wgcInhibit
  dsimp only
  split
  · exact cleared
  · split
    · exact cleared.ready.gated.pause cleared.ready.tidy _
    · exact cleared

/-- R145: an immediate cause cuts the block of a head that writes. -/
theorem Sound.haltAtOnce {o : Option Trial} {s : State} (h : Sound o s) (why : SegReason) :
    Sound o (haltAtOnce why s) := by
  unfold Machine.haltAtOnce
  split
  · exact h
  · next g rest hq =>
    split
    · next hs =>
      obtain ⟨rfl, -⟩ := h.ready.gated.writing hq hs
      have released := h.ready.tidy.shut
      have cut : Released (clearReturns (shutGate none s)) :=
        ⟨released.tidy.congr rfl rfl rfl rfl, released.gate, released.user⟩
      refine cut.halt why (some g.next) fun a ha x hx => ?_
      have mem : x ∈ s.wgc.queue.head? := hx
      rw [hq] at mem
      obtain rfl := Option.mem_some.1 mem
      exact (Option.some.inj ha).symm
    · exact h

/-- R138, R145: the head loses the position it waits for or writes at. -/
theorem Sound.positionLost {o : Option Trial} {s : State} (h : Sound o s) (r : PositionReport) :
    Sound o (wgcPositionLost r s) := by
  unfold wgcPositionLost
  split
  · exact h
  · next g rest hq =>
    split
    · next hs =>
      obtain ⟨rfl, -⟩ := h.ready.gated.waiting hq hs
      exact h.ready.tidy.shut.haltUncut _
    · exact h.haltAtOnce _

theorem Sound.sampled {o : Option Trial} {s : State} (h : Sound o s) (v : Nat) : Sound o (wgcReturn v s) := by
  unfold wgcReturn
  split
  · exact h.congr rfl rfl rfl rfl rfl rfl
  · exact h

/-! ### Boundaries (R138 to R142) -/

theorem Sound.waitOn {o : Option Trial} {s : State} (h : Sound o s) (ho : o = none) : Sound o (waitOn s) := by
  subst ho
  have counted : Sound none (s.setWgc { s.wgc with wait := s.wgc.wait + 1 }) := h.congr rfl rfl rfl rfl rfl rfl
  unfold Machine.waitOn
  dsimp only
  split
  · exact counted.ready.tidy.shut.haltUncut _
  · exact counted

/-- A head that may write begins to, the gate opening for it or standing open. -/
theorem Tidy.writes {s : State} (h : Tidy s) {g : Segment} {rest : List Segment} (hq : s.wgc.queue = g :: rest)
    (hs : g.state = .queued ∨ g.state = .waiting) :
    ({ g with state := .writing } : Segment).Sound s.ct := by
  have sound := h.head hq
  refine sound.running .writing (sound.undamaged ?_) (sound.noReason ?_) ⟨by decide, by decide, by decide⟩
  · rcases hs with k | k <;> simp [k]
  · rcases hs with k | k <;> simp [k]

/-- R139: the head that is judged at its opening boundary writes, or leaves the gate. -/
theorem Sound.openSegment {s : State} (h : Sound none s) {g : Segment} {rest : List Segment}
    (hq : s.wgc.queue = g :: rest) (hs : g.state = .waiting) : Sound none (openSegment g s) := by
  have tidy := h.ready.tidy
  have notHalted : ∀ x ∈ (shutGate none s).wgc.queue.head?, x.state ≠ .halted := fun x hx => by
    have mem : x ∈ s.wgc.queue.head? := hx
    rw [hq] at mem
    obtain rfl := Option.mem_some.1 mem
    simp [hs]
  unfold Machine.openSegment
  split
  · exact tidy.shut.suspend _ notHalted
  · split
    · exact tidy.shut.haltUncut _
    · split
      · exact tidy.shut.haltUncut _
      · split
        · exact tidy.shut.haltUncut _
        · simp only [Wgc.mapHead, hq]
          exact Tidy.opened (tidy.replaceHead hq rfl (tidy.writes hq (.inr hs)) rfl rfl rfl) rfl rfl rfl rfl
            (h.ready.gated.waiting hq hs).2

/-- Once a complete head has left, all that wait behind it are QUEUED. -/
def AllQueued (s : State) : Prop := ∀ g ∈ s.wgc.queue, g.state = .queued

theorem AllQueued.headOff {s : State} (h : AllQueued s) : HeadOff s.wgc.queue :=
  headOff_queued fun g hg => h g (List.mem_of_mem_head? hg)

/-- R142: the next head writes on through the open gate, or leaves it. -/
theorem Tidy.continueHead {s : State} (h : Tidy s) {g : Segment} {rest : List Segment} (hq : s.wgc.queue = g :: rest)
    (all : AllQueued s) (gate : s.wgc.gate = .opened) (user : s.wgc.user = some .segment)
    (may : s.mc.mode.mayWrite = true) : Sound none (continueHead g s) := by
  have queued : g.state = .queued := all g (by simp [hq])
  have notHalted : ∀ x ∈ (shutGate none s).wgc.queue.head?, x.state ≠ .halted := fun x hx => by
    rw [all x (List.mem_of_mem_head? hx)]
    decide
  unfold Machine.continueHead
  split
  · have nonempty : (shutGate none s).wgc.queue ≠ [] := by simp [shutGate_wgc, hq]
    have released := h.shut.dropped .wgc (.segmentRefused g.tag) nonempty
    refine (released.ready (headOff_queued fun x hx => ?_)).newHead
    have mem : x ∈ s.wgc.queue.tail := List.mem_of_mem_head? hx
    exact all x (List.mem_of_mem_tail mem)
  · split
    · exact h.shut.suspend _ notHalted
    · split
      · exact h.shut.haltUncut _
      · split
        · exact h.shut.haltUncut _
        · simp only [Wgc.mapHead, hq]
          exact Tidy.opened (h.replaceHead hq rfl (h.writes hq (.inl queued)) rfl rfl rfl) rfl rfl gate user may

/-- R142: a complete segment has left the open gate; the next continues or the gate closes and it proceeds. -/
theorem Tidy.afterComplete {s : State} (h : Tidy s) (all : AllQueued s) (gate : s.wgc.gate = .opened)
    (user : s.wgc.user = some .segment) (may : s.mc.mode.mayWrite = true) (f : Surface) (a : Nat) :
    Sound none (afterComplete f a s) := by
  unfold Machine.afterComplete
  split
  · next hq => exact h.shut.sound (hq ▸ headOff_nil) (by simp [shutGate_wgc, hq])
  · next g rest hq =>
    split
    · exact h.continueHead hq all gate user may
    · exact (h.shut.ready all.headOff).newHead

/-- R151: the update of the correction writes of the head its largest deviation and its limit mark alone. -/
theorem rpcUpdate_wgc (s : State) (g : Segment) (rest : List Segment) (hq : s.wgc.queue = g :: rest) :
    ∃ x m, (rpcUpdate s).wgc.queue = { g with largest := x, limitMark := m } :: rest ∧
      (rpcUpdate s).wgc.gate = s.wgc.gate ∧ (rpcUpdate s).wgc.user = s.wgc.user ∧
      (rpcUpdate s).wgc.exitMark = s.wgc.exitMark := by
  unfold rpcUpdate
  split
  · exact ⟨_, _, hq, rfl, rfl, rfl⟩
  · split
    · exact ⟨_, _, hq, rfl, rfl, rfl⟩
    · split
      · exact ⟨_, _, hq, rfl, rfl, rfl⟩
      · simp only [Wgc.mapHead, hq]
        exact ⟨_, _, rfl, rfl, rfl, rfl⟩

/-- The block has been counted, the correction updated, and the values gathered for it are gone (R141, R145, R151). -/
def blockEnded (s : State) : State := clearReturns (rpcUpdate (countBlock s))

theorem blockEnded_wgc (s : State) (g : Segment) (rest : List Segment) (hq : s.wgc.queue = g :: rest) :
    ∃ x m, (blockEnded s).wgc.queue = { g with done := g.done + 1, largest := x, limitMark := m } :: rest ∧
      (blockEnded s).wgc.gate = s.wgc.gate ∧ (blockEnded s).wgc.user = s.wgc.user ∧
      (blockEnded s).wgc.exitMark = s.wgc.exitMark := by
  have counted : countBlock s = s.setWgc
      { s.wgc with queue := { g with done := g.done + 1 } :: rest, append := some (g.surface, g.next) } := by
    simp [countBlock, Wgc.mapHead, hq]
  rw [blockEnded, counted]
  exact rpcUpdate_wgc (s.setWgc { s.wgc with
    queue := { g with done := g.done + 1 } :: rest, append := some (g.surface, g.next) }) _ rest rfl

theorem blockEnded_frame (s : State) :
    (blockEnded s).mc = s.mc ∧ (blockEnded s).ct = s.ct ∧ (blockEnded s).tcu = s.tcu ∧ (blockEnded s).pu = s.pu := by
  simp [blockEnded]

/-- R141: the boundary that ends a block leaves the gate as the head calls for. -/
theorem Sound.endBlock {o : Option Trial} {s : State} (h : Sound o s) {g : Segment} {rest : List Segment}
    (hq : s.wgc.queue = g :: rest) (hs : g.state.writes = true) (f : Surface) (a : Nat) :
    Sound o (endBlock f a s) := by
  obtain ⟨rfl, gate, user, may⟩ := h.ready.gated.writing hq hs
  have tidy := h.ready.tidy
  obtain ⟨x, m, queue, gate', user', exit⟩ := blockEnded_wgc s g rest hq
  obtain ⟨mc, ct, -, -⟩ := blockEnded_frame s
  rw [gate] at gate'
  rw [user] at user'
  rw [← mc] at may
  obtain ⟨done, count, last, surface, reason, damaged⟩ := tidy.head hq
  show Sound none (afterBlock f a (blockEnded s))
  generalize blockEnded s = u at *
  unfold afterBlock
  rw [queue]
  dsimp only
  split
  · have left : completeHead u = post .wgc (.segmentDone g.tag (g.done + 1)
        ({ g with done := g.done + 1, largest := x, limitMark := m } : Segment).last u.wgc.correction x) (dropHead u) := by
      rw [completeHead, queue]
    have behind : (completeHead u).wgc.queue = rest := by
      rw [left]
      simp [dropHead, queue]
    rw [left] at behind ⊢
    refine Tidy.afterComplete (tidy.withoutHead hq behind exit mc (by rw [← ct]; rfl)) (fun y hy => ?_) gate' user' may
      f a
    rw [behind] at hy
    exact tidy.behind hq y hy
  · next hc =>
    have undamaged : g.damaged = none := (tidy.head hq).undamaged fun k => absurd hs (by rw [k]; decide)
    have counted : ({ g with done := g.done + 1, largest := x, limitMark := m } : Segment).Sound s.ct :=
      ⟨by dsimp only; omega, count, last, surface, reason, fun b hb => absurd (undamaged.symm.trans hb) (by simp)⟩
    have tidy' : Tidy u := tidy.replaceHead hq queue counted exit mc (by rw [ct])
    have notHalted : ∀ y ∈ (shutGate none u).wgc.queue.head?, y.state ≠ .halted := fun y hy => by
      have mem : y ∈ u.wgc.queue.head? := hy
      rw [queue] at mem
      obtain rfl := Option.mem_some.1 mem
      exact fun k => absurd hs (by rw [show g.state = .halted from k]; decide)
    split
    · exact tidy'.shut.suspend _ notHalted
    · split
      · exact tidy'.shut.haltUncut _
      · split
        · exact tidy'.shut.haltUncut _
        · exact (tidy'.opened queue hs gate' user' may).elsewhere rfl rfl rfl

/-- R138, R141: a boundary leaves the gate as the head calls for. -/
theorem Sound.boundary {o : Option Trial} {s : State} (h : Sound o s) (f : Surface) (a : Nat) (b : BoundaryKind) :
    Sound o (wgcBoundary f a b s) := by
  unfold wgcBoundary
  split
  · exact h
  · next g rest hq =>
    split
    · next hs =>
      obtain ⟨rfl, -⟩ := h.ready.gated.waiting hq hs
      split
      · exact h.openSegment hq hs
      · exact h.waitOn rfl
    · next hs => exact h.endBlock hq (by rw [hs]; rfl) f a
    · next hs => exact h.endBlock hq (by rw [hs]; rfl) f a
    · exact h
    · exact h
    · exact h

/-! ### The commands of WGC (R134, R143, R147 to R149) -/

/-- R134: a segment joins the tail, and proceeds if it is now the head. -/
theorem Sound.enqueue {o : Option Trial} {s : State} (h : Sound o s) (g : Segment) (hg : g.Sound s.ct)
    (hs : g.state = .queued) (hm : s.mc.mode.mayWrite = true) : Sound o (enqueue g s) := by
  obtain ⟨⟨⟨tail, segments, empty, exit, request⟩, ⟨due, off, mode⟩, notWaiting⟩, notQueued⟩ := h
  have writes : ¬ (s.mc.mode = .configure ∨ s.mc.mode = .standby) := by
    rintro (k | k) <;> rw [k] at hm <;> exact absurd hm (by decide)
  have tidy : Tidy (s.setWgc { s.wgc with arm := false, queue := s.wgc.queue ++ [g] }) := by
    refine ⟨fun x hx => ?_, fun x hx => ?_, fun k => absurd k writes, exit, request⟩
    · simp only [State.setWgc_wgc] at hx
      cases hq : s.wgc.queue with
      | nil => simp [hq] at hx
      | cons y rest =>
        rw [hq] at tail hx
        rcases List.mem_append.1 hx with hx | hx
        · exact tail x hx
        · rwa [List.mem_singleton.1 hx]
    · rcases List.mem_append.1 hx with hx | hx
      · exact segments x hx
      · rwa [List.mem_singleton.1 hx]
  unfold Machine.enqueue
  dsimp only
  split
  · next hq =>
    have only : (s.setWgc { s.wgc with arm := false, queue := s.wgc.queue ++ [g] }).wgc.queue = [g] := by simp [hq]
    have offGate : HeadOff [g] := headOff_queued fun x hx => by rwa [← Option.mem_some.1 hx]
    refine Ready.newHead ⟨tidy, ⟨?_, fun _ => by rwa [only], mode⟩, fun _ x hx => ?_⟩
    · rw [only]
      cases o with
      | none =>
        rw [gateFor_off offGate, ← gateFor_off headOff_nil, ← hq]
        exact due
      | some t => exact due
    · rw [only] at hx
      exact (offGate x hx).1
  · next hq =>
    obtain ⟨y, rest, hq⟩ := List.exists_cons_of_ne_nil hq
    have head : (s.setWgc { s.wgc with arm := false, queue := s.wgc.queue ++ [g] }).wgc.queue.head? =
        s.wgc.queue.head? := by simp [hq]
    refine ⟨⟨tidy, ⟨?_, fun k => ?_, mode⟩, ?_⟩, ?_⟩
    · refine due.trans ?_
      cases o <;> simp [hq, gateFor]
    · unfold HeadOff
      rw [head]
      exact off k
    · rwa [head]
    · rwa [head]

/-- R147: a stopped head proceeds anew. -/
theorem Ready.continueStopped {o : Option Trial} {s : State} (tidy : Tidy s) (gated : Gated o s)
    {g : Segment} {rest : List Segment} (hq : s.wgc.queue = g :: rest)
    (hs : g.state = .suspended ∨ g.state = .halted) : Sound o (continueStopped s) := by
  have off : HeadOff s.wgc.queue := by
    rw [hq]
    rcases hs with k | k <;> exact headOff_cons (by simp [k, SegState.writes])
  obtain ⟨done, count, last, surface, -, -⟩ := tidy.head hq
  have anew : ({ g with state := .queued, reason := none, damaged := none } : Segment).Sound s.ct :=
    ⟨done, count, last, surface, by simp, by simp⟩
  have offGate : HeadOff (({ g with state := .queued, reason := none, damaged := none } : Segment) :: rest) :=
    headOff_cons ⟨by simp, rfl⟩
  unfold Machine.continueStopped
  simp only [Wgc.mapHead, hq]
  refine Ready.newHead ⟨tidy.replaceHead hq rfl anew rfl rfl rfl, ⟨?_, fun _ => offGate, gated.mode⟩, by simp⟩
  cases o with
  | none =>
    refine Eq.trans ?_ (gateFor_off offGate).symm
    exact gated.due.trans (gateFor_off off)
  | some t => exact gated.due

/-- The head leaves, having been off the gate or its gate closed, and the next proceeds. -/
theorem Gated.headLeaves {o : Option Trial} {s t : State} (tidy : Tidy s) (gated : Gated o s) (off : HeadOff s.wgc.queue)
    {g : Segment} {rest : List Segment} (hq : s.wgc.queue = g :: rest) (ht : t.wgc.queue = rest)
    (hg : t.wgc.gate = s.wgc.gate) (hu : t.wgc.user = s.wgc.user) (hx : t.wgc.exitMark = s.wgc.exitMark)
    (hm : t.mc = s.mc) (hc : t.ct.disc = s.ct.disc) : Sound o (newHead t) := by
  have behind : HeadOff rest := headOff_queued fun x hx => tidy.behind hq x (List.mem_of_mem_head? hx)
  refine Ready.newHead ⟨tidy.withoutHead hq ht hx hm hc, ⟨?_, fun _ => ht ▸ behind, ?_⟩, fun _ x hx => ?_⟩
  · rw [hg, hu, ht]
    cases o with
    | none => exact gated.due.trans ((gateFor_off off).trans (gateFor_off behind).symm)
    | some t => exact gated.due
  · rw [hg, hm]
    exact gated.mode
  · rw [ht] at hx
    exact (behind x hx).1

/-- R148: a HALTED head is continued, or is complete with its damaged block. -/
theorem Sound.resumeHalted {o : Option Trial} {s : State} (h : Sound o s) {g : Segment} {rest : List Segment}
    (hq : s.wgc.queue = g :: rest) (hs : g.state = .halted) : Sound o (resumeHalted g s).1 := by
  have cleared : Sound o (s.setWgc { s.wgc with arm := false }) := h.congr rfl rfl rfl rfl rfl rfl
  have again : Sound o (continueStopped (s.setWgc { s.wgc with arm := false })) :=
    Ready.continueStopped cleared.ready.tidy cleared.ready.gated hq (.inr hs)
  obtain ⟨done, count, last, surface, reason, -⟩ := h.ready.tidy.head hq
  unfold Machine.resumeHalted
  dsimp only
  split
  · exact again
  · next a _ =>
    split
    · have counted : countDamaged a (s.setWgc { s.wgc with arm := false }) = s.setWgc { s.wgc with
          arm := false, queue := { g with done := g.done + 1 } :: rest, append := some (g.surface, a) } := by
        simp [countDamaged, Wgc.mapHead, hq]
      rw [counted]
      split
      · have off : HeadOff s.wgc.queue := hq ▸ headOff_cons (by simp [hs, SegState.writes])
        exact h.ready.gated.headLeaves h.ready.tidy off hq rfl rfl rfl rfl rfl rfl
      · next hc =>
        -- the damaged block is forgotten as the head proceeds, so the head may as well have none while it is counted
        have same : continueStopped (s.setWgc { s.wgc with
              arm := false, queue := { g with done := g.done + 1 } :: rest, append := some (g.surface, a) }) =
            continueStopped (s.setWgc { s.wgc with
              arm := false, queue := { g with done := g.done + 1, damaged := none } :: rest
              append := some (g.surface, a) }) := rfl
        have whole : ({ g with done := g.done + 1, damaged := none } : Segment).Sound s.ct :=
          ⟨by dsimp only; omega, count, last, surface, reason, by simp⟩
        rw [same]
        refine Ready.continueStopped (h.ready.tidy.replaceHead hq rfl whole rfl rfl rfl)
          ⟨?_, fun k => ?_, h.ready.gated.mode⟩ rfl (.inr hs)
        · refine h.ready.gated.due.trans ?_
          cases o <;> simp [hq, gateFor]
        · exact headOff_cons (h.ready.gated.off k g (by simp [hq]))
    · exact again

/-- R149: the head is removed, and with it its hold on the gate. -/
theorem Sound.abortHead {o : Option Trial} {s : State} (h : Sound o s) {g : Segment} {rest : List Segment}
    (hq : s.wgc.queue = g :: rest) : Sound o (abortHead g s) := by
  have tidy := h.ready.tidy
  have released (u : State) (hu : Released u) (hq : u.wgc.queue = g :: rest) (n : Notice) :
      Sound none (newHead (post .wgc n (dropHead u))) := by
    refine (Released.ready (hu.dropped .wgc n (by simp [hq])) (headOff_queued fun x hx => ?_)).newHead
    have mem : x ∈ u.wgc.queue.tail := List.mem_of_mem_head? hx
    exact hu.tidy.tail x mem
  unfold Machine.abortHead
  dsimp only
  split
  · next hs =>
    obtain ⟨rfl, -⟩ := h.ready.gated.writing hq hs
    exact released (clearReturns (shutGate none s)) ⟨tidy.shut.tidy.congr rfl rfl rfl rfl, rfl, rfl⟩ hq _
  · next hw =>
    split
    · next hs =>
      obtain ⟨rfl, -⟩ := h.ready.gated.waiting hq hs
      exact released _ tidy.shut hq _
    · next hs =>
      have off : HeadOff s.wgc.queue := hq ▸ headOff_cons ⟨hs, by simpa using hw⟩
      exact h.ready.gated.headLeaves tidy off hq (by simp [dropHead, hq]) rfl rfl rfl rfl rfl

end Sys2Proof.Machine
end

section
/-! SUPPORT. What keeps the recording path sound: TCU's part of it, the changes of mode, and every act; obligations O56
and O59. -/

namespace Sys2Proof.Machine

/-- TCU's part of a sound recording path (R83, R93, R95, R101, R110, R135). -/
structure TcuSound (s : State) : Prop where
  mode : s.tcu.trial.isSome = true → s.mc.mode = .record
  records : TrialRecordSound s
  areas : TestAreasSound s
  marks : TrialMarksSound s

/-- The recording path is sound, whether or not a pending exit still waits (R8). -/
structure Path (s : State) : Prop where
  wgc : Sound s.tcu.trial s
  tcu : TcuSound s

/-- R8: an exit is pending only while recording has not stopped. -/
def ExitWaits (s : State) : Prop := s.mc.request.isSome = true → s.stopped = false

/-- The parts of the recording path, as the blocks keep them. -/
theorem recordingSound_iff (s : State) : RecordingSound s ↔ Path s ∧ ExitWaits s := by
  constructor
  · rintro ⟨⟨due, off, tail, may, mode⟩, ⟨exit, request⟩, ⟨segments, empty⟩, records, areas, marks⟩
    have waits : ExitWaits s := fun k => by
      obtain ⟨m, hm⟩ := Option.isSome_iff_exists.1 k
      exact (request m hm).2.2.1
    refine ⟨⟨⟨⟨⟨tail, segments, empty, exit, fun m hm => ?_⟩, ⟨?_, off, may⟩, fun k => ?_⟩, fun k => ?_⟩,
      ⟨mode, records, areas, marks⟩⟩, waits⟩
    · obtain ⟨record, target, -, -⟩ := request m hm
      exact ⟨record, target⟩
    · rw [← gateDue_eq]
      exact due
    · obtain ⟨m, hm⟩ := Option.isSome_iff_exists.1 k
      exact fun g hg => ((request m hm).2.2.2 g hg).2
    · obtain ⟨m, hm⟩ := Option.isSome_iff_exists.1 k
      exact fun g hg => ((request m hm).2.2.2 g hg).1
  · rintro ⟨⟨⟨⟨⟨tail, segments, empty, exit, request⟩, ⟨due, off, may⟩, notWaiting⟩, notQueued⟩,
      ⟨mode, records, areas, marks⟩⟩, waits⟩
    refine ⟨⟨?_, off, tail, may, mode⟩, ⟨exit, fun m hm => ?_⟩, ⟨segments, empty⟩, records, areas, marks⟩
    · rw [gateDue_eq]
      exact due
    · have pending : s.mc.request.isSome = true := by rw [hm]; rfl
      obtain ⟨record, target⟩ := request m hm
      exact ⟨record, target, waits pending, fun g hg => ⟨notQueued pending g hg, notWaiting pending g hg⟩⟩

theorem TcuSound.congr {s t : State} (h : TcuSound s) (ht : t.tcu = s.tcu) (hm : t.mc = s.mc)
    (hc : t.ct.records = s.ct.records) (hp : t.pu.sense = s.pu.sense) : TcuSound t := by
  obtain ⟨mode, records, areas, marks⟩ := h
  refine ⟨?_, ?_, ?_, ?_⟩
  · rwa [ht, hm]
  · unfold TrialRecordSound Ct.record
    rw [ht, hc]
    exact records
  · unfold TestAreasSound
    rw [ht]
    exact areas
  · unfold TrialMarksSound
    rw [ht, hm, hp]
    exact marks

/-- What changes WGC alone of the recording path, and keeps its part sound, keeps the path sound. -/
theorem Path.inWgc {s t : State} (h : Path s) (hw : Sound s.tcu.trial t) (hm : t.mc = s.mc) (hc : t.ct = s.ct)
    (ht : t.tcu = s.tcu) (hp : t.pu = s.pu) : Path t :=
  ⟨by rwa [ht], h.tcu.congr ht hm (by rw [hc]) (by rw [hp])⟩

/-- What changes none of the blocks of the recording path keeps it sound. -/
theorem Path.elsewhere {s t : State} (h : Path s) (hw : t.wgc = s.wgc) (hm : t.mc = s.mc) (hc : t.ct = s.ct)
    (ht : t.tcu = s.tcu) (hp : t.pu = s.pu) : Path t :=
  h.inWgc (h.wgc.elsewhere hw hm (by rw [hc])) hm hc ht hp

/-! ### Records and trials -/

/-- Reading a record after a write of one. -/
theorem Ct.record_putRecord (c : Ct) (j k : CalKey) (r : CalRecord) :
    (c.putRecord k r).record j = if j = k then r else c.record j := by
  obtain ⟨f, v, z⟩ := j
  obtain ⟨f', v', z'⟩ := k
  have speeds : v.index = v'.index ↔ v = v' := by cases v <;> cases v' <;> decide
  simp only [Ct.record, Ct.putRecord, Two.get_put, CalKey.mk.injEq]
  by_cases hf : f = f'
  · by_cases hv : v = v'
    · by_cases hz : z = z' <;> simp [hf, hv, hz]
    · simp [hf, hv, speeds]
  · simp [hf]

/-- With no trial in flight, and no record in TRIAL, TCU's part is sound. -/
theorem TcuSound.idle {s : State} (ht : s.tcu.trial = none) (records : ∀ k : CalKey, (s.ct.record k).state ≠ .trial)
    (areas : ∀ f a, s.tcu.areas.get f = some a → a.first ≤ a.next ∧ a.next ≤ a.first + a.length) : TcuSound s := by
  refine ⟨fun k => absurd k (by simp [ht]), fun k => ⟨fun hk => absurd hk (records k), ?_⟩, ⟨areas, ?_⟩, ?_⟩
  · rintro ⟨t, hs, -⟩
    exact absurd (ht.symm.trans hs) (by simp)
  · intro t hs
    exact absurd (ht.symm.trans hs) (by simp)
  · intro t hs
    exact absurd (ht.symm.trans hs) (by simp)

/-- Without a trial no record is in TRIAL. -/
theorem TrialRecordSound.noTrial {s : State} (h : TrialRecordSound s) (ht : s.tcu.trial = none) (k : CalKey) :
    (s.ct.record k).state ≠ .trial := fun hk => by
  obtain ⟨t, hs, -⟩ := (h k).1 hk
  exact absurd (ht.symm.trans hs) (by simp)

/-- A trial that goes on with the same key, saved record, first block and number of steps. -/
structure Trial.GoesOn (x t : Trial) : Prop where
  key : x.key = t.key
  saved : x.saved = t.saved
  first : x.first = t.first
  length : x.steps.length = t.steps.length
  index : x.index ≤ t.steps.length
  begun : t.begun ≤ x.begun ∧ x.begun ≤ t.steps.length

/-- A trial that goes on, its pointer standing where its blocks have come to and its marks as they should, leaves TCU's
part sound. -/
theorem TcuSound.goesOn {s u : State} (h : TcuSound s) {t x : Trial} (ht : s.tcu.trial = some t)
    (hx : u.tcu.trial = some x) (on : x.GoesOn t)
    (others : ∀ f, f ≠ t.key.surface → u.tcu.areas.get f = s.tcu.areas.get f)
    (own : ∀ a, s.tcu.areas.get t.key.surface = some a →
      u.tcu.areas.get t.key.surface = some { a with next := t.first + x.begun })
    (inhibit : x.sub = .writeWait ∨ x.sub = .writing → u.pu.sense = .asserted → x.inhibitMark = true)
    (mode : x.modeMark = s.mc.request.isSome) (hm : u.mc = s.mc) (hc : u.ct = s.ct) : TcuSound u := by
  obtain ⟨record, records, ⟨areas, trial⟩, -⟩ := h
  obtain ⟨saved, -, -, five, fifteen, a, ha, next, within⟩ := trial t ht
  obtain ⟨key, saved', first, length, index, grown, begun⟩ := on
  refine ⟨fun _ => ?_, fun k => ?_, ⟨fun f b hb => ?_, fun y hy => ?_⟩, fun y hy => ?_⟩
  · rw [hm]
    exact record (by rw [ht]; rfl)
  · rw [hc, hx, records k, ht]
    simp [key]
  · by_cases hf : f = t.key.surface
    · subst hf
      rw [own a ha] at hb
      obtain rfl := Option.some.inj hb
      have bounds := areas t.key.surface a ha
      dsimp only
      omega
    · rw [others f hf] at hb
      exact areas f b hb
  · obtain rfl := Option.some.inj (hx.symm.trans hy)
    rw [saved', length, key, first]
    exact ⟨saved, begun, index, five, fifteen, _, own a ha, rfl, within⟩
  · obtain rfl := Option.some.inj (hx.symm.trans hy)
    rw [hm]
    exact ⟨inhibit, mode⟩

/-- WGC's part is sound with a trial in flight when the gate stands as the trial calls for. -/
theorem Sound.withTrial {s u : State} {t x : Trial} (h : Sound (some t) s) (may : s.mc.mode.mayWrite = true)
    (due : (u.wgc.gate, u.wgc.user) = gateFor (some x) u.wgc.queue) (hq : u.wgc.queue = s.wgc.queue)
    (hx : u.wgc.exitMark = s.wgc.exitMark) (hm : u.mc = s.mc) (hc : u.ct.disc = s.ct.disc) : Sound (some x) u := by
  obtain ⟨⟨tidy, ⟨-, off, -⟩, notWaiting⟩, notQueued⟩ := h
  refine ⟨⟨tidy.congr hq hx hm hc, ⟨due, fun _ => ?_, fun _ => ?_⟩, ?_⟩, ?_⟩
  · rw [hq]
    exact off rfl
  · rwa [hm]
  · rwa [hm, hq]
  · rwa [hm, hq]

/-- The facts about a trial in flight that its operations use. -/
theorem Path.trial {s : State} (h : Path s) {t : Trial} (ht : s.tcu.trial = some t) :
    Sound (some t) s ∧ s.mc.mode = .record ∧ HeadOff s.wgc.queue := by
  have wgc := h.wgc
  have mode := h.tcu.mode
  rw [ht] at wgc mode
  exact ⟨wgc, mode rfl, wgc.ready.gated.off rfl⟩

/-- The trial goes on in a sub-state that asks the same of the gate. -/
theorem Path.setTrial {s : State} (h : Path s) {t x : Trial} (ht : s.tcu.trial = some t) (on : x.GoesOn t)
    (begun : x.begun = t.begun) (sub : x.sub = .writing ↔ t.sub = .writing)
    (inhibit : x.sub = .writeWait ∨ x.sub = .writing → s.pu.sense = .asserted → x.inhibitMark = true)
    (mode : x.modeMark = s.mc.request.isSome) : Path (setTrial x s) := by
  obtain ⟨wgc, record, -⟩ := h.trial ht
  obtain ⟨-, -, -, -, -, a, ha, next, -⟩ := h.tcu.areas.2 t ht
  refine ⟨wgc.withTrial (by rw [record]; rfl) ?_ rfl rfl rfl rfl, h.tcu.goesOn ht rfl on (fun _ _ => rfl) (fun b hb => ?_)
    inhibit mode rfl rfl⟩
  · refine wgc.ready.gated.due.trans ?_
    simp only [gateFor, sub]
  · obtain rfl := Option.some.inj (ha.symm.trans hb)
    rw [begun, ← next]
    exact ha

/-! ### The end of a trial (R107) -/

/-- The state in which a trial that ends has told the host: the gate closed if it was OPEN, the record settled, CAL_DONE
generated. -/
def trialTold (o : TrialOutcome) (r : Option TrialReason) (p : Option Nat) (t : Trial) (s : State) : State :=
  let settled := settleRecord t p (if s.wgc.gate = .opened then shutGate (some .trial) s else s)
  post .tcu (.calDone (s.calDone t o r p)) settled

theorem endTrial_some (o : TrialOutcome) (r : Option TrialReason) (p : Option Nat) {s : State} {t : Trial}
    (ht : s.tcu.trial = some t) :
    endTrial o r p s =
      (following [.tcu] newHead (shutGate none (trialTold o r p t s))).setTcu
        { (following [.tcu] newHead (shutGate none (trialTold o r p t s))).tcu with trial := none } := by
  rw [endTrial, ht]
  rfl

theorem endTrial_none (o : TrialOutcome) (r : Option TrialReason) (p : Option Nat) {s : State}
    (ht : s.tcu.trial = none) : endTrial o r p s = s := by
  rw [endTrial, ht]

/-- The record that a trial settles is no longer in TRIAL (R83). -/
theorem settleRecord_record (t : Trial) (p : Option Nat) (s : State) (hs : t.saved.state ≠ .trial) (k : CalKey)
    (hk : k ≠ t.key → (s.ct.record k).state ≠ .trial) : ((settleRecord t p s).ct.record k).state ≠ .trial := by
  unfold settleRecord
  split
  · simp only [State.setCt_ct, Ct.setTrial, Ct.record_putRecord]
    split
    · simp
    · next h => exact hk h
  · simp only [State.setCt_ct, Ct.restoreTrial, Ct.record_putRecord]
    split
    · exact hs
    · next h => exact hk h

/-- Settling a record leaves the disc. -/
theorem settleRecord_disc (t : Trial) (p : Option Nat) (s : State) : (settleRecord t p s).ct.disc = s.ct.disc := by
  unfold settleRecord
  split <;> rfl

/-- The state that has been told differs from the one before in the gate, the record and the notices alone. -/
theorem trialTold_frame (o : TrialOutcome) (r : Option TrialReason) (p : Option Nat) (t : Trial) (s : State) :
    (trialTold o r p t s).mc = s.mc ∧ (trialTold o r p t s).tcu = s.tcu ∧ (trialTold o r p t s).pu = s.pu ∧
      (trialTold o r p t s).wgc.queue = s.wgc.queue ∧ (trialTold o r p t s).wgc.exitMark = s.wgc.exitMark ∧
      (trialTold o r p t s).ct.disc = s.ct.disc := by
  unfold trialTold
  dsimp only
  split <;> simp [settleRecord_disc, shutGate_wgc]

/-- R107: a trial that ends leaves no record in TRIAL and the pointers in their areas. -/
theorem endTrial_tcu (o : TrialOutcome) (r : Option TrialReason) (p : Option Nat) {s : State} {t : Trial}
    (ht : s.tcu.trial = some t) (records : TrialRecordSound s) (areas : TestAreasSound s) :
    TcuSound (endTrial o r p s) := by
  obtain ⟨saved, -⟩ := areas.2 t ht
  rw [endTrial_some o r p ht]
  refine TcuSound.idle rfl (fun k => ?_) (fun f a ha => ?_)
  · simp only [State.setTcu_ct, following_frame, newHead_frame, shutGate_frame]
    show ((settleRecord t p _).ct.record k).state ≠ .trial
    refine settleRecord_record t p _ saved k fun hk hr => ?_
    have before : (s.ct.record k).state = .trial := by
      revert hr
      split <;> exact id
    obtain ⟨x, hx, key⟩ := (records k).1 before
    obtain rfl := Option.some.inj (ht.symm.trans hx)
    exact hk key.symm
  · simp only [State.setTcu_tcu, following_frame, newHead_frame, shutGate_frame, (trialTold_frame o r p t s).2.1] at ha
    exact areas.1 f a ha

/-- R107: a trial that ends leaves the recording path sound, the gate having been released. -/
theorem endTrial_path (o : TrialOutcome) (r : Option TrialReason) (p : Option Nat) {s : State} {t : Trial}
    (ht : s.tcu.trial = some t) (tidy : Tidy s) (off : HeadOff s.wgc.queue) (records : TrialRecordSound s)
    (areas : TestAreasSound s) : Path (endTrial o r p s) := by
  obtain ⟨mc, -, -, queue, exit, disc⟩ := trialTold_frame o r p t s
  have told : Tidy (trialTold o r p t s) := tidy.congr queue exit mc disc
  have off' : HeadOff (shutGate none (trialTold o r p t s)).wgc.queue := by
    show HeadOff (trialTold o r p t s).wgc.queue
    rwa [queue]
  refine ⟨?_, endTrial_tcu o r p ht records areas⟩
  rw [endTrial_some o r p ht]
  exact (told.shut.ready off').newHead.elsewhere rfl rfl rfl

theorem Path.endTrial {s : State} (h : Path s) (o : TrialOutcome) (r : Option TrialReason) (p : Option Nat) :
    Path (endTrial o r p s) := by
  cases ht : s.tcu.trial with
  | none => rwa [endTrial_none o r p ht]
  | some t =>
    obtain ⟨wgc, -, off⟩ := h.trial ht
    exact endTrial_path o r p ht wgc.ready.tidy off h.tcu.records h.tcu.areas

theorem Path.abortTrial {s : State} (h : Path s) (why : TrialReason) : Path (abortTrial why s) := h.endTrial _ _ _

/-! ### The boundaries and samples of a trial (R101 to R104) -/

/-- A trial whose sub-state, index and steps stay goes on. -/
theorem Path.sameTrial {s : State} (h : Path s) {t : Trial} (ht : s.tcu.trial = some t) : t.GoesOn t := by
  obtain ⟨-, begun, index, -⟩ := h.tcu.areas.2 t ht
  exact ⟨rfl, rfl, rfl, rfl, index, le_rfl, begun⟩

theorem Path.trialWaitOn {s : State} (h : Path s) {t : Trial} (ht : s.tcu.trial = some t) :
    Path (trialWaitOn t s) := by
  obtain ⟨inhibit, mode⟩ := h.tcu.marks t ht
  obtain ⟨key, saved, first, length, index, begun⟩ := h.sameTrial ht
  have waited : Path (Machine.setTrial { t with wait := t.wait + 1 } s) :=
    h.setTrial ht ⟨key, saved, first, length, index, begun⟩ rfl Iff.rfl inhibit mode
  unfold Machine.trialWaitOn
  dsimp only
  split
  · exact waited.endTrial _ _ _
  · exact waited

/-- The pointer of a trial's own area moves and no other does. -/
theorem setPointer_areas (f : Surface) (n : Nat) (s : State) :
    (∀ g, g ≠ f → (setPointer f n s).tcu.areas.get g = s.tcu.areas.get g) ∧
      ∀ a, s.tcu.areas.get f = some a → (setPointer f n s).tcu.areas.get f = some { a with next := n } := by
  refine ⟨fun g hg => ?_, fun a ha => ?_⟩
  · simp [setPointer, hg]
  · simp [setPointer, ha]

/-- What the opening of the gate for a trial writes of the recording path. -/
theorem trialOpen_path (t : Trial) (s : State) :
    (trialOpen t s).wgc = { s.wgc with gate := .opened, user := some .trial } ∧
      (trialOpen t s).tcu =
        (setPointer t.key.surface (t.first + 1) (setTrial { t with sub := .writing, index := 1, wait := 0 } s)).tcu :=
  ⟨openGate_wgc _ _, rfl⟩

/-- What the beginning of a trial's next step writes of the recording path. -/
theorem trialNextStep_tcu (t : Trial) (s : State) :
    (trialNextStep t s).tcu =
      (setPointer t.key.surface (t.first + t.index + 1) (setTrial { t with index := t.index + 1 } s)).tcu := rfl

/-- R101: with no mark and the line released the trial begins to write. -/
theorem Path.trialOpen {s : State} (h : Path s) {t : Trial} (ht : s.tcu.trial = some t) (hs : t.sub = .writeWait)
    (released : s.pu.sense ≠ .asserted) : Path (trialOpen t s) := by
  obtain ⟨wgc, record, -⟩ := h.trial ht
  obtain ⟨-, mode⟩ := h.tcu.marks t ht
  obtain ⟨-, -, -, five, -⟩ := h.tcu.areas.2 t ht
  obtain ⟨gate, tcu⟩ := trialOpen_path t s
  obtain ⟨mc, -, -, ct, pu, -⟩ := trialOpen_frame t s
  obtain ⟨others, own⟩ := setPointer_areas t.key.surface (t.first + 1)
    (Machine.setTrial { t with sub := .writing, index := 1, wait := 0 } s)
  rw [← tcu] at others own
  have trial : (Machine.trialOpen t s).tcu.trial = some { t with sub := .writing, index := 1, wait := 0 } := by
    rw [tcu]
    rfl
  have on : ({ t with sub := .writing, index := 1, wait := 0 } : Trial).GoesOn t :=
    ⟨rfl, rfl, rfl, rfl, by dsimp only; omega, by simp only [Trial.begun, hs]; omega⟩
  refine ⟨?_, h.tcu.goesOn ht trial on others own (fun _ k => absurd (pu ▸ k) released) mode mc ct⟩
  rw [trial]
  exact wgc.withTrial (by rw [record]; rfl) (by rw [gate]; rfl) (by rw [gate]) (by rw [gate]) mc (by rw [ct])

/-- R102: the next step begins. -/
theorem Path.trialNextStep {s : State} (h : Path s) {t : Trial} (ht : s.tcu.trial = some t) (hs : t.sub = .writing)
    (hi : t.index < t.steps.length) : Path (trialNextStep t s) := by
  obtain ⟨wgc, record, -⟩ := h.trial ht
  obtain ⟨inhibit, mode⟩ := h.tcu.marks t ht
  have tcu := trialNextStep_tcu t s
  obtain ⟨mc, -, -, ct, gate, pu, -⟩ := trialNextStep_frame t s
  obtain ⟨others, own⟩ := setPointer_areas t.key.surface (t.first + t.index + 1)
    (Machine.setTrial { t with index := t.index + 1 } s)
  rw [← tcu] at others own
  have trial : (Machine.trialNextStep t s).tcu.trial = some { t with index := t.index + 1 } := by
    rw [tcu]
    rfl
  have begun : t.begun = t.index := by rw [Trial.begun, hs]
  have begun' : ({ t with index := t.index + 1 } : Trial).begun = t.index + 1 := by simp only [Trial.begun, hs]
  have on : ({ t with index := t.index + 1 } : Trial).GoesOn t :=
    ⟨rfl, rfl, rfl, rfl, hi, by rw [begun, begun']; omega⟩
  refine ⟨?_, h.tcu.goesOn ht trial on others (fun a ha => ?_) (fun k l => inhibit k (pu ▸ l)) mode mc ct⟩
  · rw [trial]
    exact wgc.withTrial (by rw [record]; rfl) (by rw [gate]; exact wgc.ready.gated.due) (by rw [gate]) (by rw [gate]) mc
      (by rw [ct])
  · rw [own a ha, begun', Nat.add_assoc]

/-- R102: the last step has been written. -/
theorem Path.trialWritten {s : State} (h : Path s) {t : Trial} (ht : s.tcu.trial = some t) (hs : t.sub = .writing)
    (hi : ¬ t.index < t.steps.length) : Path (trialWritten t s) := by
  obtain ⟨wgc, record, off⟩ := h.trial ht
  obtain ⟨-, mode⟩ := h.tcu.marks t ht
  obtain ⟨-, begun, index, -, -, a, ha, next, -⟩ := h.tcu.areas.2 t ht
  have written : t.begun = t.steps.length := by
    simp only [Trial.begun, hs]
    omega
  unfold Machine.trialWritten
  dsimp only
  split
  · exact endTrial_path _ _ _ ht (wgc.ready.tidy.congr rfl rfl rfl rfl) off h.tcu.records h.tcu.areas
  · refine ⟨wgc.withTrial (x := { t with sub := .readWait, wait := 0, inhibitMark := false }) (by rw [record]; rfl) rfl rfl
        rfl rfl rfl,
      h.tcu.goesOn (x := { t with sub := .readWait, wait := 0, inhibitMark := false }) ht rfl ?_ (fun _ _ => rfl)
        (fun b hb => ?_) (by simp) mode rfl rfl⟩
    · exact ⟨rfl, rfl, rfl, rfl, index, begun, le_rfl⟩
    · obtain rfl := Option.some.inj (ha.symm.trans hb)
      show s.tcu.areas.get t.key.surface = some { a with next := t.first + t.steps.length }
      rw [← written, ← next]
      exact ha

/-- Changing a step changes no number of steps. -/
theorem Trial.mapStep_length (t : Trial) (k : Nat) (f : TrialStep → TrialStep) :
    (t.mapStep k f).steps.length = t.steps.length := by
  simp [Trial.mapStep]

/-- In MEASURING all of a trial's blocks have been written, whatever its steps hold. -/
theorem Path.measured {s : State} (h : Path s) {t : Trial} (ht : s.tcu.trial = some t) (hs : t.sub = .measuring)
    (f : TrialStep → TrialStep) (n : Nat) (hn : n ≤ t.steps.length) :
    Path (Machine.setTrial { t.mapStep t.index f with index := n } s) := by
  obtain ⟨inhibit, mode⟩ := h.tcu.marks t ht
  have begun : t.begun = t.steps.length := by rw [Trial.begun, hs]
  have begun' : ({ t.mapStep t.index f with index := n } : Trial).begun = t.steps.length := by
    have sub : ({ t.mapStep t.index f with index := n } : Trial).sub = .measuring := hs
    rw [Trial.begun, sub]
    exact t.mapStep_length _ f
  refine h.setTrial ht ⟨rfl, rfl, rfl, t.mapStep_length _ f, hn, by omega⟩ (begun'.trans begun.symm) Iff.rfl (fun k => ?_) mode
  · have sub : t.sub = .writeWait ∨ t.sub = .writing := k
    rw [hs] at sub
    exact absurd sub (by decide)

theorem Path.tcuBoundary {s : State} (h : Path s) (f : Surface) (a : Nat) (b : BoundaryKind) :
    Path (tcuBoundary f a b s) := by
  unfold Machine.tcuBoundary
  split
  · exact h
  · next t ht =>
    obtain ⟨inhibit, mode⟩ := h.tcu.marks t ht
    obtain ⟨-, begun, index, five, -⟩ := h.tcu.areas.2 t ht
    split
    · next hs =>
      unfold trialWriteWait
      split
      · exact h.abortTrial _
      · split
        · split
          · exact h.abortTrial _
          · next released => exact h.trialOpen ht hs released
        · exact h.trialWaitOn ht
    · next hs =>
      unfold trialWriting
      split
      · next hi =>
        split
        · exact h.abortTrial _
        · exact h.trialNextStep ht hs hi
      · next hi => exact h.trialWritten ht hs hi
    · next hs =>
      unfold trialReadWait
      split
      · exact h.abortTrial _
      · split
        · refine h.setTrial ht ⟨rfl, rfl, rfl, rfl, by dsimp only; omega, begun, le_rfl⟩ ?_ ?_ (by simp) mode
          · simp only [Trial.begun, hs]
          · simp [hs]
        · exact h.trialWaitOn ht
    · next hs =>
      unfold trialMeasuring
      dsimp only
      have closed : Path (Machine.setTrial (t.mapStep t.index TrialStep.close) s) := h.measured ht hs _ t.index index
      split
      · next hi =>
        split
        · exact closed.abortTrial _
        · exact h.measured ht hs _ (t.index + 1) hi
      · exact closed.endTrial _ _ _

theorem Path.tcuSample {s : State} (h : Path s) (c : Channel) (v : Nat) : Path (tcuSample c v s) := by
  unfold Machine.tcuSample
  split
  · exact h
  · next t ht =>
    obtain ⟨-, -, index, -⟩ := h.tcu.areas.2 t ht
    split
    · next hs => exact h.measured ht hs _ t.index index
    · exact h

theorem Path.tcuTracking {s : State} (h : Path s) : Path (tcuTracking s) := by
  unfold Machine.tcuTracking
  split
  · exact h
  · split
    · exact h.abortTrial _
    · exact h

theorem Path.tcuSupply {s : State} (h : Path s) : Path (tcuSupply s) := by
  unfold Machine.tcuSupply
  split
  · exact h
  · split
    · exact h.abortTrial _
    · exact h

/-! ### WGC's part along the path -/

theorem Path.wgcBoundary {s : State} (h : Path s) (f : Surface) (a : Nat) (b : BoundaryKind) :
    Path (wgcBoundary f a b s) := h.inWgc (h.wgc.boundary f a b) (by simp) (by simp) (by simp) (by simp)

theorem Path.wgcPositionLost {s : State} (h : Path s) (r : PositionReport) : Path (wgcPositionLost r s) :=
  h.inWgc (h.wgc.positionLost r) (by simp) (by simp) (by simp) (by simp)

theorem Path.haltAtOnce {s : State} (h : Path s) (why : SegReason) : Path (haltAtOnce why s) :=
  h.inWgc (h.wgc.haltAtOnce why) (by simp) (by simp) (by simp) (by simp)

theorem Path.wgcReturn {s : State} (h : Path s) (v : Nat) : Path (wgcReturn v s) :=
  h.inWgc (h.wgc.sampled v) (by simp) (by simp) (by simp) (by simp)

theorem Path.bothTake {s : State} (h : Path s) {w t : State → State} (hw : ∀ u, Path u → Path (w u))
    (ht : ∀ u, Path u → Path (t u)) : Path (bothTake w t s) := by
  have drawn : Path s.draw.2 := h.elsewhere rfl rfl rfl rfl rfl
  unfold Machine.bothTake
  dsimp only
  split
  · split
    · exact ht _ (hw _ drawn)
    · exact (hw _ (ht _ drawn)).elsewhere rfl rfl rfl rfl rfl
  · exact ht _ (hw _ h)

theorem Path.deliverBoundary {s : State} (h : Path s) (f : Surface) (a : Nat) (b : BoundaryKind) :
    Path (deliverBoundary f a b s) := h.bothTake (fun _ k => k.wgcBoundary f a b) fun _ k => k.tcuBoundary f a b

theorem Path.deliverReport {s : State} (h : Path s) (r : PositionReport) : Path (deliverReport r s) :=
  (h.bothTake (fun _ k => k.wgcPositionLost r) fun _ k => k.abortTrial _).elsewhere rfl rfl rfl rfl rfl

theorem Path.takeArrival {s : State} (h : Path s) (v : Option (Surface × Nat)) : Path (takeArrival v s) := by
  have tracked (p : Pt) : Path (s.setPt p) := h.elsewhere rfl rfl rfl rfl rfl
  have lost (e : Event) (p : Pt) (r : PositionReport) : Path (Machine.deliverReport r (trigger e (s.setPt p))) :=
    ((tracked p).elsewhere (t := trigger e (s.setPt p)) rfl rfl rfl rfl rfl).deliverReport r
  unfold Machine.takeArrival
  split
  · exact h
  · exact tracked _
  · exact tracked _
  · split
    · exact h.elsewhere (by simp) (by simp) (by simp) (by simp) (by simp)
    · exact tracked _
  · split
    · exact (tracked _).deliverBoundary _ _ _
    · exact lost _ _ _
  · split
    · exact (tracked _).deliverBoundary _ _ _
    · exact lost _ _ _

/-! ### Changes of mode (R7, R12, R109, R155) -/

/-- What MC's own part of a change of mode leaves as it was. -/
theorem enterMode_frame (m : Mode) (g : SelfTest) (s : State) :
    (enterMode m g s).mc = { s.mc with mode := m, request := none } ∧ (enterMode m g s).ct = s.ct ∧
      (enterMode m g s).tcu = s.tcu ∧ (enterMode m g s).wgc = s.wgc ∧ (enterMode m g s).pu = s.pu :=
  ⟨rfl, rfl, rfl, rfl, rfl⟩

/-- MC after a change of mode. -/
theorem changeMode_mc (m : Mode) (g : SelfTest) (s : State) :
    (changeMode m g s).mc = { s.mc with mode := m, request := none } := by
  rw [changeMode_eq]
  simp [(enterMode_frame m g s).1]

/-- R109: after TCU's reaction to a change into FAULT, or from RECORD into CONFIGURE, no trial is in flight; nor is one
in any other change, which only begins without one. -/
theorem tcuModeReaction_idle (source target : Mode) (e : State) (records : TrialRecordSound e)
    (areas : TestAreasSound e)
    (ht : e.tcu.trial = none ∨ target = .fault ∨ (source = .record ∧ target = .configure)) :
    (tcuModeReaction source target e).tcu.trial = none ∧ TcuSound (tcuModeReaction source target e) := by
  have ended (why : TrialReason) :
      (abortTrial why e).tcu.trial = none ∧ TcuSound (abortTrial why e) := by
    cases hs : e.tcu.trial with
    | none =>
      rw [abortTrial, endTrial_none _ _ _ hs]
      exact ⟨hs, TcuSound.idle hs (records.noTrial hs) areas.1⟩
    | some t => exact ⟨by rw [abortTrial, endTrial_some _ _ _ hs]; rfl, endTrial_tcu _ _ _ hs records areas⟩
  unfold tcuModeReaction
  split
  · exact ended _
  · next hf =>
    split
    · exact ended _
    · next hc =>
      have none : e.tcu.trial = none := by tauto
      exact ⟨none, TcuSound.idle none (records.noTrial none) areas.1⟩

/-- A queue whose segments are sound, all but the head QUEUED. -/
def Lined (c : Ct) (q : List Segment) : Prop := (∀ g ∈ q.tail, g.state = .queued) ∧ ∀ g ∈ q, g.Sound c

/-- R154: where the mode does not let it write, a new head stays or is SUSPENDED. -/
theorem newHead_unwritten (s : State) (hm : s.mc.mode.mayWrite = false) :
    newHead s = s ∨ (∃ g rest, s.wgc.queue = g :: rest ∧ g.state = .queued ∧ newHead s = suspendHead .mode s) := by
  cases hq : s.wgc.queue with
  | nil => exact .inl (newHead_nil s hq)
  | cons g rest =>
    by_cases hs : g.state = .queued
    · cases hx : s.wgc.exitMark with
      | false => exact .inl (newHead_held s g rest hq hx (.inr hm))
      | true => exact .inr ⟨g, rest, rfl, hs, newHead_exit s g rest hq hs hx⟩
    · exact .inl (newHead_off s g rest hq hs)

theorem newHead_lined (s : State) (hm : s.mc.mode.mayWrite = false) (h : Lined s.ct s.wgc.queue) :
    Lined s.ct (newHead s).wgc.queue := by
  rcases newHead_unwritten s hm with same | ⟨g, rest, hq, hs, suspended⟩
  · rwa [same]
  · obtain ⟨tail, segments⟩ := h
    rw [hq] at tail segments
    have sound := segments g (by simp)
    rw [suspended, suspendHead_cons .mode s g rest hq]
    refine ⟨tail, fun x hx => ?_⟩
    rcases List.mem_cons.1 hx with rfl | hx
    · exact sound.suspended (sound.undamaged (by rw [hs]; decide)) .mode
    · exact segments x (List.mem_cons_of_mem _ hx)

/-- An abort in a mode without writing leaves the queue in its line. -/
theorem abortTrial_lined (why : TrialReason) (s : State) (hm : s.mc.mode.mayWrite = false)
    (h : Lined s.ct s.wgc.queue) : Lined s.ct (abortTrial why s).wgc.queue := by
  cases ht : s.tcu.trial with
  | none => rwa [abortTrial, endTrial_none _ _ _ ht]
  | some t =>
    obtain ⟨mc, -, -, queue, -, disc⟩ := trialTold_frame .aborted (some why) none t s
    have resound {c d : Ct} (hd : d.disc = c.disc) {q : List Segment} (k : Lined c q) : Lined d q :=
      ⟨k.1, fun g hg => (k.2 g hg).congr hd⟩
    rw [abortTrial, endTrial_some _ _ _ ht]
    refine resound disc.symm (newHead_lined (shutGate none (trialTold .aborted (some why) none t s)) ?_ ?_)
    · show (trialTold .aborted (some why) none t s).mc.mode.mayWrite = false
      rwa [mc]
    · show Lined (trialTold .aborted (some why) none t s).ct (trialTold .aborted (some why) none t s).wgc.queue
      rw [queue]
      exact resound disc h

/-- An abort leaves the set disc. -/
theorem abortTrial_disc (why : TrialReason) (s : State) : (abortTrial why s).ct.disc = s.ct.disc := by
  have kept := ((Moves.refl s).abortTrial why).frame.2.2.2.2.2.2.2.2
  rw [kept]

/-- A halt leaves the gate, its user and the exit mark. -/
theorem haltHead_gate (why : SegReason) (d : Option Nat) (s : State) :
    (haltHead why d s).wgc.gate = s.wgc.gate ∧ (haltHead why d s).wgc.user = s.wgc.user ∧
      (haltHead why d s).wgc.exitMark = s.wgc.exitMark := by
  cases hq : s.wgc.queue with
  | nil =>
    rw [haltHead, hq]
    exact ⟨rfl, rfl, rfl⟩
  | cons g rest =>
    rw [haltHead_cons why d s g rest hq]
    exact ⟨rfl, rfl, rfl⟩

/-- R155: a head that is at the gate is halted, and the queue stays tidy. -/
theorem Tidy.haltForMode {s : State} (h : Tidy s) (why : SegReason) :
    Tidy (haltForMode why s) ∧ HeadOff (haltForMode why s).wgc.queue := by
  have halted (u : State) (hu : Tidy u) (d : Option Nat) (hd : ∀ a, d = some a → ∀ g ∈ u.wgc.queue.head?, a = g.next) :
      Tidy (haltHead why d (shutGate none u)) ∧ HeadOff (haltHead why d (shutGate none u)).wgc.queue := by
    have sound := hu.shut.halt why d hd
    exact ⟨sound.ready.tidy, sound.ready.gated.headOff (haltHead_gate why d (shutGate none u)).1⟩
  unfold Machine.haltForMode
  split
  · next hq => exact ⟨h, hq ▸ headOff_nil⟩
  · next g rest hq =>
    split
    · exact halted s h none fun _ ha => absurd ha (by simp)
    · next hw =>
      unfold Machine.haltAtOnce
      rw [hq]
      dsimp only
      split
      · refine halted (clearReturns s) (h.congr rfl rfl rfl rfl) (some g.next) fun a ha x hx => ?_
        have mem : x ∈ s.wgc.queue.head? := hx
        rw [hq] at mem
        obtain rfl := Option.mem_some.1 mem
        exact (Option.some.inj ha).symm
      · next hs => exact ⟨h, hq ▸ headOff_cons ⟨hw, by simpa using hs⟩⟩

/-- A halt leaves the exit mark. -/
theorem haltForMode_exitMark (why : SegReason) (s : State) :
    (haltForMode why s).wgc.exitMark = s.wgc.exitMark := by
  unfold haltForMode
  split
  · rfl
  · split
    · exact (haltHead_gate why _ _).2.2
    · unfold haltAtOnce
      split
      · rfl
      · split
        · exact (haltHead_gate why _ _).2.2
        · rfl

/-- A queue that is flushed is empty; gate, user and exit mark stand. -/
theorem flushQueue_wgc (s : State) :
    (flushQueue s).wgc.queue = [] ∧ (flushQueue s).wgc.gate = s.wgc.gate ∧ (flushQueue s).wgc.user = s.wgc.user ∧
      (flushQueue s).wgc.exitMark = s.wgc.exitMark := by
  unfold flushQueue
  dsimp only
  split <;> exact ⟨rfl, rfl, rfl, rfl⟩

/-- Once a change of mode has cleared the marks, a queue in its line is tidy, where the mode holds one. -/
theorem clearMarks_tidy (s : State) (hr : s.mc.request = none) (h : Lined s.ct s.wgc.queue)
    (hm : s.mc.mode ≠ .configure ∧ s.mc.mode ≠ .standby) : Tidy (clearMarks s) :=
  ⟨h.1, h.2, fun k => absurd k (not_or.2 hm), by
    show false = s.mc.request.isSome
    rw [hr]
    rfl, fun m k => absurd (hr.symm.trans k) (by simp)⟩

/-- R155: WGC's reaction leaves its part sound: into CONFIGURE, STANDBY and FAULT from any gate, into the other modes from
an idle one. -/
theorem wgcModeReaction_sound (s : State) (hr : s.mc.request = none) (h : Lined s.ct s.wgc.queue)
    (hg : s.mc.mode.laserOff = false → s.wgc.gate = .idle ∧ s.wgc.user = none ∧ HeadOff s.wgc.queue) :
    Sound none (wgcModeReaction s) := by
  have flushed (hm : s.mc.mode = .configure ∨ s.mc.mode = .standby) :
      Sound none (flushQueue (shutGate none (haltForMode .mode (clearMarks s)))) := by
    obtain ⟨queue, gate, user, exit⟩ := flushQueue_wgc (shutGate none (haltForMode .mode (clearMarks s)))
    have mark : (haltForMode .mode (clearMarks s)).wgc.exitMark = false := haltForMode_exitMark _ _
    have mc : (flushQueue (shutGate none (haltForMode .mode (clearMarks s)))).mc = s.mc := by simp
    refine Released.sound ⟨⟨?_, ?_, fun _ => queue, ?_, ?_⟩, gate, user⟩ (queue ▸ headOff_nil) ?_
    · simp [queue]
    · simp [queue]
    · rw [exit, mc, hr]
      exact mark
    · rw [mc, hr]
      simp
    · simp [queue]
  have stands (hm : s.mc.mode ≠ .configure ∧ s.mc.mode ≠ .standby) (hl : s.mc.mode.laserOff = false) :
      Ready none (clearMarks s) := by
    obtain ⟨gate, user, off⟩ := hg hl
    exact Released.ready ⟨clearMarks_tidy s hr h hm, gate, user⟩ off
  have noRequest : ¬ (clearMarks s).mc.request.isSome = true := by
    show ¬ s.mc.request.isSome = true
    rw [hr]
    simp
  unfold wgcModeReaction
  split
  · next hm => exact ⟨stands (by simp [hm]) (by rw [hm]; rfl), fun k => absurd k noRequest⟩
  · next hm => exact (stands (by simp [hm]) (by rw [hm]; rfl)).newHead
  · next hm => exact ⟨stands (by simp [hm]) (by rw [hm]; rfl), fun k => absurd k noRequest⟩
  · next hm => exact flushed (.inr hm)
  · next hm => exact flushed (.inl hm)
  · next hm =>
    obtain ⟨tidy, off⟩ := (clearMarks_tidy s hr h (by simp [hm])).haltForMode .fault
    refine ⟨tidy.shut.ready off, fun k => absurd k ?_⟩
    have mc : (shutGate none (haltForMode .fault (clearMarks s))).mc = s.mc := by simp
    rw [mc, hr]
    simp

/-- A change of mode leaves the recording path sound: into FAULT and CONFIGURE from any sound state, into STANDBY from one
without a trial, and into the other modes from one with the gate idle. -/
theorem Path.changeMode {s : State} (h : Path s) (m : Mode) (g : SelfTest)
    (ht : m ≠ .fault → m ≠ .configure → s.tcu.trial = none) (hg : m.laserOff = false → s.wgc.gate = .idle) :
    Path (changeMode m g s) := by
  obtain ⟨mc, ct, tcu, wgc, pu⟩ := enterMode_frame m g s
  have tidy := h.wgc.ready.tidy
  have reacted := tcuModeReaction_idle s.mc.mode m (enterMode m g s) h.tcu.records h.tcu.areas (by
    cases hs : s.tcu.trial with
    | none => exact .inl (tcu ▸ hs)
    | some t =>
      have record := h.tcu.mode (by rw [hs]; rfl)
      by_cases hf : m = .fault
      · exact .inr (.inl hf)
      · by_cases hc : m = .configure
        · exact .inr (.inr ⟨record, hc⟩)
        · exact absurd ((ht hf hc).symm.trans hs) (by simp))
  have lined : Lined s.ct (tcuModeReaction s.mc.mode m (enterMode m g s)).wgc.queue := by
    have entered : Lined (enterMode m g s).ct (enterMode m g s).wgc.queue := ⟨tidy.tail, tidy.segments⟩
    unfold tcuModeReaction
    split
    · next hf => exact abortTrial_lined _ _ (by rw [mc, hf]; rfl) entered
    · split
      · next hc => exact abortTrial_lined _ _ (by rw [mc, hc.2]; rfl) entered
      · exact entered
  have disc : (tcuModeReaction s.mc.mode m (enterMode m g s)).ct.disc = s.ct.disc := by
    unfold tcuModeReaction
    split
    · exact abortTrial_disc _ _
    · split
      · exact abortTrial_disc _ _
      · rfl
  have lit (hm : m.laserOff = false) : tcuModeReaction s.mc.mode m (enterMode m g s) = enterMode m g s := by
    unfold tcuModeReaction
    rw [if_neg (by rintro rfl; exact absurd hm (by decide)), if_neg (by rintro ⟨-, rfl⟩; exact absurd hm (by decide))]
  obtain ⟨noTrial, sound⟩ := reacted
  rw [changeMode_eq]
  refine Path.elsewhere (s := wgcModeReaction (tcuModeReaction s.mc.mode m (enterMode m g s))) ⟨?_, ?_⟩ (by simp) (by simp)
    (by simp) (by simp) (by simp)
  · have trial : (wgcModeReaction (tcuModeReaction s.mc.mode m (enterMode m g s))).tcu.trial = none := by simpa using noTrial
    rw [trial]
    refine wgcModeReaction_sound _ (by simp [mc]) ⟨lined.1, fun x hx => (lined.2 x hx).congr disc⟩ fun hl => ?_
    have hm : m.laserOff = false := by simpa [mc] using hl
    have gate := hg hm
    have gated := h.wgc.ready.gated
    rw [gated.noTrial gate] at gated
    have off := gated.headOff gate
    have due := gated.due
    rw [gateFor_off off] at due
    rw [lit hm, wgc]
    exact ⟨gate, (Prod.mk.inj due).2, off⟩
  · exact sound.congr (by simp) (by simp) (by simp) (by simp)

/-! ### The pending exit (R8, R9) -/

/-- Where recording has stopped, and an exit is pending, the gate is idle and no trial is in flight. -/
theorem Path.stopped {s : State} (h : Path s) (hr : s.mc.request.isSome = true) (hs : s.stopped = true) :
    s.tcu.trial = none ∧ s.wgc.gate = .idle := by
  obtain ⟨quiet, isNone⟩ := Bool.and_eq_true_iff.1 hs
  have trial : s.tcu.trial = none := Option.isNone_iff_eq_none.1 isNone
  have wgc := h.wgc
  rw [trial] at wgc
  have off : HeadOff s.wgc.queue := fun g hg =>
    ⟨wgc.ready.notWaiting hr g hg, by simpa using List.all_eq_true.1 quiet g (List.mem_of_mem_head? hg)⟩
  have due := wgc.ready.gated.due
  rw [gateFor_off off] at due
  exact ⟨trial, (Prod.mk.inj due).1⟩

/-- R8: the judgement of the stop condition leaves the path sound, and no exit pending once recording has stopped. -/
theorem Path.judgeExit {s : State} (h : Path s) : Path (judgeExit s) ∧ ExitWaits (judgeExit s) := by
  unfold Machine.judgeExit
  split
  · next hr => exact ⟨h, fun k => absurd k (by simp [hr])⟩
  · next m hr =>
    split
    · next hs =>
      obtain ⟨trial, gate⟩ := h.stopped (by rw [hr]; rfl) hs
      exact ⟨h.changeMode m _ (fun _ _ => trial) fun _ => gate, fun k => absurd k (by simp [changeMode_mc])⟩
    · next hs => exact ⟨h, fun _ => by simpa using hs⟩

/-- What leaves the parts of the blocks that the recording path is made of keeps it sound, the exit with it. -/
theorem RecordingSound.congr {s t : State} (h : RecordingSound s) (hq : t.wgc.queue = s.wgc.queue)
    (hg : t.wgc.gate = s.wgc.gate) (hu : t.wgc.user = s.wgc.user) (hx : t.wgc.exitMark = s.wgc.exitMark)
    (hm : t.mc = s.mc) (hd : t.ct.disc = s.ct.disc) (hc : t.ct.records = s.ct.records) (ht : t.tcu = s.tcu)
    (hp : t.pu.sense = s.pu.sense) : RecordingSound t := by
  rw [recordingSound_iff] at h ⊢
  refine ⟨⟨by rw [ht]; exact h.1.wgc.congr hq hg hu hx hm hd, h.1.tcu.congr ht hm hc hp⟩, ?_⟩
  unfold ExitWaits State.stopped
  rw [hq, hm, ht]
  exact h.2

/-- What leaves the blocks of the recording path keeps it sound. -/
theorem RecordingSound.elsewhere {s t : State} (h : RecordingSound s) (hw : t.wgc = s.wgc) (hm : t.mc = s.mc)
    (hc : t.ct = s.ct) (ht : t.tcu = s.tcu) (hp : t.pu = s.pu) : RecordingSound t :=
  h.congr (by rw [hw]) (by rw [hw]) (by rw [hw]) (by rw [hw]) hm (by rw [hc]) (by rw [hc]) ht (by rw [hp])

/-- The notices that join leave the recording path. -/
theorem RecordingSound.finish {s : State} (h : RecordingSound s) : RecordingSound (finish s) :=
  h.elsewhere rfl rfl rfl rfl rfl

/-- The end of a step in which a block may have reported to MC. -/
theorem Path.conclude {s : State} (h : Path s) : RecordingSound (conclude s) :=
  ((recordingSound_iff _).2 h.judgeExit).elsewhere rfl rfl rfl rfl rfl

theorem Path.mcFmon {s : State} (h : Path s) (j : Judgement) : Path (mcFmon j s) := by
  unfold Machine.mcFmon
  split
  · exact (h.changeMode .fault SelfTest.usual (fun k => absurd rfl k) fun k => absurd k (by decide)).elsewhere
      rfl rfl rfl rfl rfl
  · exact h

theorem Path.lduFmon {s : State} (h : Path s) (v : Nat) : Path (lduFmon v s) :=
  h.elsewhere (by simp) (by simp) (by simp) (by simp) (by simp)

theorem Path.deliverFmon {s : State} (h : Path s) (v : Nat) (j : Judgement) : Path (deliverFmon v j s) := by
  have drawn : Path s.draw.2 := h.elsewhere rfl rfl rfl rfl rfl
  unfold Machine.deliverFmon
  dsimp only
  split
  · split
    · exact ((drawn.lduFmon v).mcFmon j).elsewhere rfl rfl rfl rfl rfl
    · exact (drawn.mcFmon j).lduFmon v
  · exact (h.lduFmon v).mcFmon j

/-- R89: a record that goes STALE was VALID, so no record enters or leaves TRIAL. -/
theorem CalRecord.judged_trial (r : CalRecord) (temperature : Int) (span : Nat) :
    (r.judged temperature span).state = .trial ↔ r.state = .trial := by
  unfold CalRecord.judged
  split
  · next h =>
    unfold CalRecord.goesStale at h
    split at h
    · next hs _ => simp [hs]
    · exact absurd h (by simp)
  · exact Iff.rfl

/-- R89: the judgement takes each record by itself. -/
theorem judgeStale_record (s : State) (k : CalKey) :
    (judgeStale s).ct.record k = (s.ct.record k).judged s.temperature s.ct.staleSpan := by
  obtain ⟨f, v, z⟩ := k
  cases f <;> simp [judgeStale, Ct.record, Two.get]

theorem Path.judgeStale {s : State} (h : Path s) : Path (judgeStale s) := by
  obtain ⟨mode, records, areas, marks⟩ := h.tcu
  refine ⟨h.wgc.elsewhere rfl rfl rfl, ⟨mode, fun k => ?_, areas, marks⟩⟩
  rw [judgeStale_record, CalRecord.judged_trial]
  exact records k

theorem Path.deliver {s : State} (h : Path s) (c : Channel) (v : Nat) (j : Judgement) : Path (deliver c v j s) := by
  cases c with
  | fmon => exact h.deliverFmon v j
  | rsum => exact (h.wgcReturn v).tcuSample .rsum v
  | rtop => exact h.tcuSample .rtop v
  | rbot => exact h.tcuSample .rbot v
  | temp => exact (h.elsewhere (t := recompute s) rfl rfl rfl rfl rfl).judgeStale
  | vld =>
    dsimp only [Machine.deliver]
    split
    · exact (h.haltAtOnce _).tcuSupply
    · exact h
  | terr =>
    dsimp only [Machine.deliver]
    split
    · exact (h.haltAtOnce _).tcuTracking
    · exact h
  | aux => exact h

/-- The MODE mark of a trial follows the pending request (R110). -/
theorem Path.remarked {s u : State} (h : Path s) {t : Trial} (ht : s.tcu.trial = some t) (on : Bool)
    (hx : u.tcu = { s.tcu with trial := some { t with modeMark := on } }) (hr : on = u.mc.request.isSome)
    (hm : u.mc.mode = s.mc.mode) (hc : u.ct = s.ct) (hp : u.pu = s.pu) : TcuSound u := by
  obtain ⟨mode, records, ⟨areas, trial⟩, marks⟩ := h.tcu
  obtain ⟨inhibit, -⟩ := marks t ht
  rw [ht] at mode
  refine ⟨fun _ => by rw [hm]; exact mode rfl, fun k => ?_, ⟨fun f a ha => ?_, fun x k => ?_⟩, fun x k => ?_⟩
  · rw [hc, hx, records k, ht]
    simp
  · rw [hx] at ha
    exact areas f a ha
  · rw [hx] at k ⊢
    obtain rfl := Option.some.inj k
    exact trial t ht
  · rw [hx] at k
    obtain rfl := Option.some.inj k
    rw [hp]
    exact ⟨inhibit, hr⟩

/-- The trial's own marks do not bear on the gate. -/
theorem Sound.remarked {t : Trial} {s u : State} (h : Sound (some t) s) (x : Trial) (hx : x.sub = t.sub)
    (hw : u.wgc = s.wgc) (hm : u.mc = s.mc) (hc : u.ct.disc = s.ct.disc) : Sound (some x) u := by
  obtain ⟨⟨tidy, ⟨due, off, mode⟩, notWaiting⟩, notQueued⟩ := h.elsewhere hw hm hc
  exact ⟨⟨tidy, ⟨by rw [due]; simp only [gateFor, hx], fun _ => off rfl, mode⟩, notWaiting⟩, notQueued⟩

/-- A request that becomes pending or is withdrawn, with WGC's mark, leaves the exit as it should be. -/
theorem Tidy.requested {s u : State} (h : Tidy s) (hq : u.wgc.queue = s.wgc.queue)
    (hx : u.wgc.exitMark = u.mc.request.isSome) (hm : u.mc.mode = s.mc.mode) (hc : u.ct.disc = s.ct.disc)
    (hr : ∀ m, u.mc.request = some m → s.mc.mode = .record ∧ (m = .read ∨ m = .standby)) : Tidy u := by
  obtain ⟨tail, segments, empty, -, -⟩ := h
  refine ⟨by rwa [hq], ?_, by rwa [hq, hm], hx, by rwa [hm]⟩
  rw [hq]
  exact fun g hg => (segments g hg).congr hc

theorem Gated.same {o : Option Trial} {s u : State} (h : Gated o s) (hq : u.wgc.queue = s.wgc.queue)
    (hg : u.wgc.gate = s.wgc.gate) (hu : u.wgc.user = s.wgc.user) (hm : u.mc.mode = s.mc.mode) : Gated o u := by
  obtain ⟨due, off, mode⟩ := h
  exact ⟨by rwa [hg, hu, hq], by rwa [hq], by rwa [hg, hm]⟩

/-- R9: a request that is withdrawn leaves the path sound, with no exit pending. -/
theorem RecordingSound.withdrawExit {s : State} (h : RecordingSound s) : RecordingSound (withdrawExit s) := by
  unfold Machine.withdrawExit
  split
  · obtain ⟨path, -⟩ := (recordingSound_iff s).1 h
    rw [recordingSound_iff]
    have wgc : Sound s.tcu.trial (wgcExitWithdrawn (s.setMc { s.mc with request := none })) :=
      ⟨⟨path.wgc.ready.tidy.requested rfl rfl rfl rfl (fun m k => absurd k (by simp)),
        path.wgc.ready.gated.same rfl rfl rfl rfl, fun k => absurd k (by simp)⟩, fun k => absurd k (by simp)⟩
    unfold tcuExitWithdrawn
    split
    · next ht =>
      have none : s.tcu.trial = none := ht
      rw [none] at wgc
      refine ⟨⟨?_, TcuSound.idle ht (path.tcu.records.noTrial none) path.tcu.areas.1⟩, fun k => absurd k (by simp)⟩
      rw [ht]
      exact wgc
    · next t ht =>
      have trial : s.tcu.trial = some t := ht
      rw [trial] at wgc
      exact ⟨⟨wgc.remarked { t with modeMark := false } rfl rfl rfl rfl, path.remarked trial false rfl rfl rfl rfl rfl⟩,
        fun k => absurd k (by simp [setTrial])⟩
  · exact h

/-- R8, R9: a request for READ or STANDBY in RECORD becomes pending, the head and the trial being marked. -/
theorem Path.requestPending {s : State} (h : Path s) (m : Mode) (hm : s.mc.mode = .record) (ht : m = .read ∨ m = .standby) :
    Path (if s.mc.request.isSome then s.setMc { s.mc with request := some m }
      else tcuExitPending (wgcExitPending (s.setMc { s.mc with request := some m }))) := by
  have target : ∀ x, some m = some x → s.mc.mode = .record ∧ (x = .read ∨ x = .standby) := fun x k => by
    obtain rfl := Option.some.inj k
    exact ⟨hm, ht⟩
  have gated := h.wgc.ready.gated
  split
  · next hr =>
    have exit := h.wgc.ready.tidy.exit
    rw [hr] at exit
    obtain ⟨mode, records, areas, marks⟩ := h.tcu
    refine ⟨⟨⟨h.wgc.ready.tidy.requested rfl exit rfl rfl target, gated.same rfl rfl rfl rfl,
      fun _ => h.wgc.ready.notWaiting hr⟩, fun _ => h.wgc.notQueued hr⟩, ⟨mode, records, areas, fun t k => ?_⟩⟩
    obtain ⟨inhibit, marked⟩ := marks t k
    exact ⟨inhibit, by rw [marked, hr]; rfl⟩
  · have marked : Tidy ((s.setMc { s.mc with request := some m }).setWgc { s.wgc with exitMark := true }) :=
      h.wgc.ready.tidy.requested rfl rfl rfl rfl target
    have wgc : Sound s.tcu.trial (wgcExitPending (s.setMc { s.mc with request := some m })) :=
      Gated.pause (s := (s.setMc { s.mc with request := some m }).setWgc { s.wgc with exitMark := true })
        (gated.same rfl rfl rfl rfl) marked .mode
    obtain ⟨mc, -, -, ct, tcu, pu, -⟩ := wgcExitPending_frame (s.setMc { s.mc with request := some m })
    unfold tcuExitPending
    split
    · next none =>
      have noTrial : s.tcu.trial = Option.none := by rw [tcu] at none; exact none
      rw [noTrial] at wgc
      refine ⟨by rwa [none], TcuSound.idle none (fun k => ?_) ?_⟩
      · rw [ct]
        exact h.tcu.records.noTrial noTrial k
      · rw [tcu]
        exact h.tcu.areas.1
    · next t some =>
      have trial : s.tcu.trial = Option.some t := by rw [tcu] at some; exact some
      rw [trial] at wgc
      refine ⟨wgc.remarked { t with modeMark := true } rfl rfl rfl rfl, h.remarked trial true ?_ ?_ ?_ ?_ ?_⟩
      · simp [Machine.setTrial]
      · simp
      · simp
      · simp
      · simp

/-- Only READ and STANDBY wait for recording to stop, and only in RECORD. -/
theorem deferred_iff (a b : Mode) : deferred a b = true ↔ a = .record ∧ (b = .read ∨ b = .standby) := by
  simp [deferred]

/-- R7, R8: a request that is granted leaves the recording path sound. -/
theorem Path.grantMode {s : State} (h : Path s) (m : Mode) (g : SelfTest) (hf : m ≠ .fault)
    (hl : legalTarget s.mc.mode m = true) : RecordingSound (grantMode m g s) := by
  unfold Machine.grantMode
  refine RecordingSound.finish ?_
  rw [recordingSound_iff]
  split
  · next hd =>
    obtain ⟨record, target⟩ := (deferred_iff _ _).1 hd
    exact (h.requestPending m record target).judgeExit
  · next hd =>
    have atOnce : ¬ (s.mc.mode = .record ∧ (m = .read ∨ m = .standby)) := fun k => hd ((deferred_iff _ _).2 k)
    refine ⟨h.changeMode m g (fun _ hc => ?_) fun lit => ?_, fun k => absurd k (by simp [changeMode_mc])⟩
    · cases trial : s.tcu.trial with
      | none => rfl
      | some t =>
        have record := h.tcu.mode (by rw [trial]; rfl)
        rw [record] at hl atOnce
        cases m <;> simp_all [legalTarget]
    · by_contra notIdle
      have may := h.wgc.ready.gated.mode notIdle
      cases hs : s.mc.mode <;> rw [hs] at may hl atOnce <;> cases m <;>
        simp_all [legalTarget, Mode.mayWrite, Mode.laserOff]

/-! ### Commands and lines -/

/-- R134: a segment that passes the checks is sound, QUEUED and writes its first block. -/
theorem segmentOf_sound (f : SegmentFields) (s : State) (g : Segment) (h : segmentOf f s = some g) :
    g.Sound s.ct ∧ g.state = .queued := by
  unfold segmentOf at h
  split at h
  · split at h
    · exact absurd h (by simp)
    · split at h
      · next checks =>
        obtain rfl := Option.some.inj h
        simp only [Bool.and_eq_true, inRange, decide_eq_true_eq] at checks
        obtain ⟨⟨surface, count⟩, last⟩ := checks
        exact ⟨⟨count.1, count.2, last, surface, by simp, by simp⟩, rfl⟩
      · exact absurd h (by simp)
  · exact absurd h (by simp)

/-- R97: what the ten checks find, and the trial they begin. -/
theorem calibrateCheck_ok (f : CalibrateFields) (s : State) (t : Trial) (h : calibrateCheck f s = .ok t) :
    s.mc.mode = .record ∧ s.wgc.gate = .idle ∧ s.pu.sense ≠ .asserted ∧ t.sub = .writeWait ∧ t.index = 0 ∧
      t.saved = s.ct.record t.key ∧ t.modeMark = s.mc.request.isSome ∧ 5 ≤ t.steps.length ∧ t.steps.length ≤ 15 ∧
      ∃ a, s.tcu.areas.get t.key.surface = some a ∧ t.first = a.next ∧ t.steps.length ≤ a.remaining := by
  unfold calibrateCheck at h
  split at h
  · exact absurd h (by simp)
  · next hm =>
    split at h
    · exact absurd h (by simp)
    · next g z target =>
      have steps : 5 ≤ f.steps ∧ f.steps ≤ 15 := by
        unfold calibrateTarget at target
        split at target
        · exact absurd target (by simp)
        · split at target
          · split at target
            · next checks =>
              simp only [Bool.and_eq_true, inRange, decide_eq_true_eq] at checks
              exact checks.1.1.1.1.1.2
            · exact absurd target (by simp)
          · exact absurd target (by simp)
      split at h
      · exact absurd h (by simp)
      · next gate =>
        split at h
        · exact absurd h (by simp)
        · next sense =>
          split at h
          · exact absurd h (by simp)
          · next a area =>
            split at h
            · exact absurd h (by simp)
            · next room =>
              split at h
              · exact absurd h (by simp)
              · split at h
                · exact absurd h (by simp)
                · split at h
                  · exact absurd h (by simp)
                  · split at h
                    · exact absurd h (by simp)
                    · dsimp only at h
                      split at h
                      · exact absurd h (by simp)
                      · obtain rfl := Except.ok.inj h
                        refine ⟨not_not.1 hm, not_not.1 gate, sense, rfl, rfl, rfl, rfl, ?_, ?_, a, area, rfl, ?_⟩
                        · simpa using steps.1
                        · simpa using steps.2
                        · simpa using room

/-- R99: the trial that begins takes the gate and its record. -/
theorem RecordingSound.calibrate {s : State} (h : RecordingSound s) (f : CalibrateFields) (t : Trial)
    (ht : calibrateCheck f s = .ok t) :
    RecordingSound (shutGate (some .trial) ((setTrial t s).setCt (s.ct.beginTrial t.key))) := by
  obtain ⟨record, gate, released, sub, index, saved, mode, five, fifteen, a, area, first, room⟩ :=
    calibrateCheck_ok f s t ht
  obtain ⟨⟨wgc, tcu⟩, -⟩ := (recordingSound_iff s).1 h
  have may : s.mc.mode.mayWrite = true := by rw [record]; rfl
  have noTrial := wgc.ready.gated.noTrial gate
  rw [noTrial] at wgc
  have off := wgc.ready.gated.headOff gate
  have begun : t.begun = 0 := by rw [Trial.begun, sub]
  have quiet := tcu.records.noTrial noTrial
  rw [recordingSound_iff]
  refine ⟨⟨⟨⟨wgc.ready.tidy.congr rfl rfl rfl rfl, ⟨?_, fun _ => off, fun _ => may⟩,
    wgc.ready.notWaiting⟩, wgc.notQueued⟩, ⟨fun _ => record, fun k => ?_, ⟨tcu.areas.1, fun x hx => ?_⟩, fun x hx => ?_⟩⟩,
    fun _ => ?_⟩
  · show (GateState.waiting, some GateUser.trial) = gateFor (some t) _
    simp [gateFor, sub]
  · show ((s.ct.beginTrial t.key).record k).state = .trial ↔ ∃ x, some t = some x ∧ x.key = k
    rw [Ct.beginTrial, Ct.record_putRecord]
    split
    · next hk => simp [hk]
    · next hk => simp [quiet k, Ne.symm hk]
  · obtain rfl := Option.some.inj (show some t = some x from hx)
    have bounds := tcu.areas.1 _ a area
    unfold TestArea.remaining at room
    exact ⟨by rw [saved]; exact quiet _, by omega, by omega, five, fifteen, a, area, by rw [begun, first]; rfl, by omega⟩
  · obtain rfl := Option.some.inj (show some t = some x from hx)
    exact ⟨fun _ k => absurd k released, mode⟩
  · show (_ && (some t : Option Trial).isNone) = false
    simp

/-- R144: a head that is paused goes on writing its block. -/
theorem wgcInhibit_quiet (s : State) :
    (wgcInhibit s).wgc.queue.all (fun g => !g.state.writes) = s.wgc.queue.all (fun g => !g.state.writes) := by
  unfold wgcInhibit
  dsimp only
  split
  · rfl
  · next g rest hq =>
    have queue : s.wgc.queue = g :: rest := hq
    split
    · next hs => simp [pauseHead, Wgc.mapHead, queue, hs, SegState.writes]
    · rfl

/-- R166: the line asserted, WGC pauses the head, and TCU marks the trial that waits to write or writes. -/
theorem RecordingSound.inhibited {s u : State} (h : RecordingSound s) (hw : u.wgc = s.wgc) (hm : u.mc = s.mc)
    (hc : u.ct = s.ct) (ht : u.tcu = s.tcu) : RecordingSound (tcuInhibit (wgcInhibit u)) := by
  obtain ⟨path, waits⟩ := (recordingSound_iff s).1 h
  have wgc : Sound s.tcu.trial (wgcInhibit u) := (path.wgc.elsewhere hw hm (by rw [hc])).inhibit
  obtain ⟨mc, -, -, ct, tcu, -⟩ := wgcInhibit_frame u
  have quiet := wgcInhibit_quiet u
  rw [hw] at quiet
  rw [hm] at mc
  rw [hc] at ct
  rw [ht] at tcu
  generalize wgcInhibit u = v at *
  have waits' (x : Option Trial) (hx : x.isNone = s.tcu.trial.isNone) :
      ExitWaits (v.setTcu { v.tcu with trial := x }) := by
    unfold ExitWaits State.stopped
    simp only [State.setTcu_mc, State.setTcu_wgc, State.setTcu_tcu, quiet, hx, mc]
    exact waits
  have goes (t x : Trial) (trial : s.tcu.trial = some t) (on : x.GoesOn t) (begun : x.begun = t.begun)
      (inhibit : x.sub = .writeWait ∨ x.sub = .writing → x.inhibitMark = true) (mode : x.modeMark = t.modeMark) :
      TcuSound (v.setTcu { v.tcu with trial := some x }) := by
    obtain ⟨-, -, -, -, -, a, ha, next, -⟩ := path.tcu.areas.2 t trial
    refine path.tcu.goesOn trial rfl on (fun f _ => by rw [State.setTcu_tcu, tcu]) (fun b hb => ?_) (fun k _ => inhibit k)
      (mode.trans (path.tcu.marks t trial).2) mc ct
    obtain rfl := Option.some.inj (ha.symm.trans hb)
    rw [State.setTcu_tcu, tcu, begun, ← next]
    exact ha
  rw [recordingSound_iff]
  unfold tcuInhibit
  split
  · next none =>
    have noTrial : s.tcu.trial = Option.none := by rw [tcu] at none; exact none
    rw [noTrial] at wgc
    refine ⟨⟨by rwa [none], TcuSound.idle none (fun k => ?_) (by rw [tcu]; exact path.tcu.areas.1)⟩, ?_⟩
    · rw [ct]
      exact path.tcu.records.noTrial noTrial k
    · have same := waits' Option.none (by rw [noTrial])
      rw [← none] at same
      exact same
  · next t some =>
    have trial : s.tcu.trial = Option.some t := by rw [tcu] at some; exact some
    have on := path.sameTrial trial
    rw [trial] at wgc
    split
    · obtain ⟨key, saved, first, length, index, begun⟩ := on
      exact ⟨⟨wgc.remarked { t with inhibitMark := true } rfl rfl rfl rfl,
        goes t { t with inhibitMark := true } trial ⟨key, saved, first, length, index, begun⟩ rfl (fun _ => rfl) rfl⟩,
        waits' _ (by rw [trial]; rfl)⟩
    · next hs =>
      have same : v.setTcu { v.tcu with trial := Option.some t } = v := by rw [← some]; rfl
      have sound := goes t t trial on rfl (fun k => absurd k hs) rfl
      have still := waits' (Option.some t) (by rw [trial])
      rw [same] at sound still
      exact ⟨⟨by rwa [some], sound⟩, still⟩

/-- R166: a change of the line leaves the path sound. -/
theorem RecordingSound.lineChanged {s : State} (h : RecordingSound s) (level : Inhibit) :
    RecordingSound (lineChanged level s) := by
  unfold Machine.lineChanged
  dsimp only
  refine RecordingSound.finish ?_
  split
  · exact h.inhibited rfl rfl rfl rfl
  · next released =>
    obtain ⟨⟨wgc, mode, records, areas, marks⟩, waits⟩ := (recordingSound_iff s).1 h
    rw [recordingSound_iff]
    exact ⟨⟨wgc.elsewhere rfl rfl rfl, ⟨mode, records, areas, fun t ht => ⟨fun _ k => absurd k released, (marks t ht).2⟩⟩⟩,
      waits⟩

/-! ### Every act -/

/-- After a reset nothing is recorded. -/
theorem recordingSound_reset (s : State) (hm : s.mc = Mc.afterReset) (hc : s.ct = Ct.afterReset)
    (ht : s.tcu = Tcu.afterReset) (hw : s.wgc = Wgc.afterReset) : RecordingSound s := by
  have noTrial : s.tcu.trial = none := by rw [ht]; rfl
  have queue : s.wgc.queue = [] := by rw [hw]; rfl
  have request : s.mc.request = none := by rw [hm]; rfl
  rw [recordingSound_iff]
  refine ⟨⟨?_, TcuSound.idle noTrial (fun k => ?_) (fun f a ha => ?_)⟩, fun k => absurd k (by simp [request])⟩
  · rw [noTrial]
    have tidy : Tidy s := ⟨by simp [queue], by simp [queue], fun _ => queue, by rw [request, hw]; rfl, by simp [request]⟩
    exact Released.sound ⟨tidy, by rw [hw]; rfl, by rw [hw]; rfl⟩ (queue ▸ headOff_nil) (by simp [queue])
  · rw [hc]
    simp [Ct.record, Ct.afterReset, Ct.blankRecords, CalRecord.blank]
  · rw [ht] at ha
    simp [Tcu.afterReset] at ha

/-- What changes only the disc and the records, where no trial is in flight and no segment queued, leaves the path sound
while no record is in TRIAL. -/
theorem RecordingSound.table {s t : State} (h : RecordingSound s) (hs : s.mc.mode = .standby) (hm : t.mc = s.mc)
    (ht : t.tcu.trial = s.tcu.trial) (ha : ∀ f a, t.tcu.areas.get f = some a → s.tcu.areas.get f = some a)
    (hq : t.wgc.queue = s.wgc.queue) (hg : t.wgc.gate = s.wgc.gate) (hu : t.wgc.user = s.wgc.user)
    (hx : t.wgc.exitMark = s.wgc.exitMark) (hr : ∀ k : CalKey, (t.ct.record k).state ≠ .trial) : RecordingSound t := by
  obtain ⟨⟨⟨⟨⟨-, -, empty, exit, request⟩, gated, -⟩, -⟩, tcu⟩, waits⟩ := (recordingSound_iff s).1 h
  have none : s.tcu.trial = none := by
    cases hs' : s.tcu.trial with
    | none => rfl
    | some x => exact absurd (hs.symm.trans (tcu.mode (by rw [hs']; rfl))) (by decide)
  have nil : t.wgc.queue = [] := hq.trans (empty (.inr hs))
  rw [recordingSound_iff]
  refine ⟨⟨⟨⟨⟨by simp [nil], by simp [nil], fun _ => nil, by rw [hx, hm]; exact exit, by rw [hm]; exact request⟩, ?_,
    by simp [nil]⟩, by simp [nil]⟩, TcuSound.idle (ht.trans none) hr fun f a k => tcu.areas.1 f a (ha f a k)⟩, ?_⟩
  · rw [ht]
    exact gated.same hq hg hu (by rw [hm])
  · unfold ExitWaits State.stopped
    rw [hm, hq, ht]
    exact waits

/-- A set of records that blanks those of one surface has none in TRIAL, if there was none. -/
theorem record_blanked (c : Ct) (f : Surface) (z : Two (Option (Eight Nat)))
    (h : ∀ k : CalKey, (c.record k).state ≠ .trial) (k : CalKey) :
    (({ c with zones := z, records := c.records.put f Ct.blankRecords } : Ct).record k).state ≠ .trial := by
  simp only [Ct.record, Two.get_put]
  split
  · simp [Ct.blankRecords, CalRecord.blank]
  · exact h k

/-- In STANDBY no trial is in flight. -/
theorem RecordingSound.quiet {s : State} (h : RecordingSound s) (hs : s.mc.mode ≠ .record) :
    s.tcu.trial = none ∧ ∀ k : CalKey, (s.ct.record k).state ≠ .trial := by
  obtain ⟨⟨-, tcu⟩, -⟩ := (recordingSound_iff s).1 h
  have none : s.tcu.trial = none := by
    cases hs' : s.tcu.trial with
    | none => rfl
    | some x => exact absurd (tcu.mode (by rw [hs']; rfl)) hs
  exact ⟨none, tcu.records.noTrial none⟩

/-- R80, R81: a record that is not in TRIAL, and does not come to be, is written. -/
theorem RecordingSound.record {s : State} (h : RecordingSound s) (k : CalKey) (r : CalRecord)
    (hk : (s.ct.record k).state ≠ .trial) (hr : r.state ≠ .trial) : RecordingSound (s.setCt (s.ct.putRecord k r)) := by
  obtain ⟨⟨wgc, mode, records, areas, marks⟩, waits⟩ := (recordingSound_iff s).1 h
  rw [recordingSound_iff]
  refine ⟨⟨wgc.elsewhere rfl rfl rfl, ⟨mode, fun j => ?_, areas, marks⟩⟩, waits⟩
  rw [State.setCt_ct, Ct.record_putRecord]
  split
  · next hj =>
    subst hj
    exact ⟨fun k => absurd k hr, fun k => absurd ((records j).2 k) hk⟩
  · exact records j

/-- R94: a test area is set, with no trial in flight. -/
theorem RecordingSound.testArea {s : State} (h : RecordingSound s) (f : Surface) (a : TestArea)
    (hm : s.mc.mode = .standby ∨ s.mc.mode = .read) (ha : a.next = a.first) :
    RecordingSound (s.setTcu { s.tcu with areas := s.tcu.areas.put f (some a) }) := by
  obtain ⟨none, quiet⟩ := h.quiet (by rcases hm with k | k <;> simp [k])
  obtain ⟨⟨wgc, tcu⟩, waits⟩ := (recordingSound_iff s).1 h
  rw [recordingSound_iff]
  refine ⟨⟨wgc.elsewhere rfl rfl rfl, TcuSound.idle none quiet fun g b hb => ?_⟩, waits⟩
  simp only [State.setTcu_tcu, Two.get_put] at hb
  split at hb
  · obtain rfl := Option.some.inj hb
    omega
  · exact tcu.areas.1 g b hb

/-- R16: SET_POOL empties the queue, in CONFIGURE. -/
theorem RecordingSound.pool {s : State} (h : RecordingSound s) (d : Nat) (hm : s.mc.mode = .configure) :
    RecordingSound (((s.setMc { s.mc with segDepth := d }).setWgc { s.wgc with queue := [] }).setEu
      { s.eu with notices := [] }) := by
  obtain ⟨none, -⟩ := h.quiet (by simp [hm])
  obtain ⟨⟨wgc, tcu⟩, -⟩ := (recordingSound_iff s).1 h
  obtain ⟨⟨⟨-, -, empty, exit, request⟩, gated, -⟩, -⟩ := wgc
  have noRequest : s.mc.request = Option.none := by
    cases hr : s.mc.request with
    | none => rfl
    | some m => exact absurd (hm.symm.trans (request m hr).1) (by decide)
  rw [recordingSound_iff]
  refine ⟨⟨⟨⟨⟨by simp, by simp, fun _ => rfl, exit, request⟩, gated.same (empty (.inl hm)).symm rfl rfl rfl, by simp⟩,
    by simp⟩, tcu.mode, tcu.records, tcu.areas, tcu.marks⟩, fun k => ?_⟩
  have pending : s.mc.request.isSome = true := k
  rw [noRequest] at pending
  exact absurd pending (by simp)

/-- A HALTED head that is continued leaves the blocks outside WGC. -/
theorem resumeHalted_frame (g : Segment) (s : State) :
    (resumeHalted g s).1.mc = s.mc ∧ (resumeHalted g s).1.ct = s.ct ∧ (resumeHalted g s).1.tcu = s.tcu ∧
      (resumeHalted g s).1.pu = s.pu := by
  unfold resumeHalted
  dsimp only
  split
  · simp
  · split
    · split <;> simp
    · simp

/-- Every act leaves the recording path sound. -/
theorem Act.recording {s t : State} (h : Act s t) (hs : RecordingSound s) : RecordingSound t := by
  have path := ((recordingSound_iff s).1 hs).1
  have wgc := path.wgc
  cases h with
  | reset pu lines low =>
    obtain ⟨mc, -, -, ct, tcu, -, wgc, -⟩ := resetBlocks_frame pu lines low s
    exact recordingSound_reset _ mc ct tcu wgc
  | inhibit level => exact hs.lineChanged level
  | arrival v => exact (path.takeArrival v).conclude
  | generated v n => exact Path.conclude ((path.takeArrival v).elsewhere rfl rfl rfl rfl rfl)
  | completion c raw h =>
    rw [takeCompletion_eq]
    exact (Path.deliver (path.elsewhere (t := sampled c raw s) rfl rfl rfl rfl rfl) c _ _).conclude
  | withdraw => exact hs.withdrawExit
  | grant m g hf hl => exact path.grantMode m g hf hl
  | pool d hm h => exact hs.pool d hm
  | disc d z hm =>
    exact hs.table hm rfl rfl (fun _ _ k => k) rfl rfl rfl rfl (hs.quiet (by simp [hm])).2
  | zones f z hm =>
    exact hs.table hm rfl rfl (fun _ _ k => k) rfl rfl rfl rfl
      (record_blanked s.ct f z (hs.quiet (by simp [hm])).2)
  | unload hm =>
    rw [discUnload, if_neg (not_not.2 hm)]
    have calm : s.pu.unload.sense = s.pu.sense := by
      unfold Pu.unload
      split <;> rfl
    refine hs.table hm rfl rfl (fun f a k => absurd k (by simp)) rfl rfl rfl rfl fun k => ?_
    simp [Ct.record, Ct.blankRecords, CalRecord.blank]
  | record k r hk hr => exact hs.record k r hk hr
  | testArea f a hm ha => exact hs.testArea f a hm ha
  | calibrate f t h => exact hs.calibrate f t h
  | abortCal => exact (path.abortTrial _).conclude
  | enqueue f g hm hg hd =>
    obtain ⟨sound, queued⟩ := segmentOf_sound f s g hg
    exact (path.inWgc (wgc.enqueue g sound queued hm) (by simp) (by simp) (by simp) (by simp)).conclude
  | pause =>
    exact (path.inWgc (wgc.ready.gated.pause wgc.ready.tidy _) (by simp) (by simp) (by simp) (by simp)).conclude
  | resume g rest hm hq hg hu hx =>
    exact (path.inWgc (Ready.continueStopped wgc.ready.tidy wgc.ready.gated hq (.inl hg)) (by simp) (by simp) (by simp)
      (by simp)).conclude
  | resumeHalted g rest hm hq hg hu hx =>
    obtain ⟨mc, ct, tcu, pu⟩ := resumeHalted_frame g s
    exact (path.inWgc (wgc.resumeHalted hq hg) mc ct tcu pu).conclude
  | abortSegment g rest hq =>
    exact (path.inWgc (wgc.abortHead hq) (by simp) (by simp) (by simp) (by simp)).conclude
  | protection p hp => exact hs.congr rfl rfl rfl rfl rfl rfl rfl rfl hp
  | staleSpan n h => exact hs.congr rfl rfl rfl rfl rfl rfl rfl rfl rfl
  | latch on h => exact hs.congr rfl rfl rfl rfl rfl rfl rfl rfl rfl
  | rpc on d k hd hk => exact hs.congr rfl rfl rfl rfl rfl rfl rfl rfl rfl
  | waitLimit n h => exact hs.congr rfl rfl rfl rfl rfl rfl rfl rfl rfl
  | _ => exact hs.elsewhere (by simp) (by simp) (by simp) (by simp) (by simp)

/-- Settles O59: every act keeps the path sound, and a step is made of acts. -/
theorem everyStepKeepsRecordingSound : Obligations.EveryStepKeepsRecordingSound := by
  intro s t hs h
  exact step_keeps (fun _ _ k => k.elsewhere rfl rfl rfl rfl rfl) (fun _ _ => Act.recording) s t hs h

/-- Settles O56: a reset leaves each block at values that meet its part of the invariants. -/
theorem invariantsHoldAtReset : Obligations.InvariantsHoldAtReset := by
  refine ⟨⟨by decide, by decide, by decide, by decide, by decide, rfl⟩, ⟨rfl, rfl⟩, fun h => absurd h (by decide), ?_, ?_, recordingSound_reset _ rfl rfl rfl rfl⟩
  · exact (rangesHold_iff _).2 ⟨Ldu.inRange_of_zero _ rfl, Wgc.afterReset_inRange, Ct.afterReset_inRange, Nat.zero_le _,
      Nat.zero_le _, Mon.afterReset_inRange⟩
  · exact ⟨by decide, fun k => absurd rfl k, fun k => absurd rfl k⟩

end Sys2Proof.Machine
end

section
/-! SUPPORT. The commands as their owners answer them: each body is read back as the fields it was made from, and what
becomes of the frame follows from the owner's answer (R187, R188). -/

namespace Sys2Proof.Machine

/-- A command whose owner refuses leaves everything but the link. -/
theorem exec_refused {c : Instr} {kind : Byte} {body : Body} {owner : Owner} {s : State}
    (hx : exec c s = command kind body (some owner) s) (h : s.takesFrames) (hb : body.length ≤ 62) {why : Status}
    (ho : owner (acceptFrame (2 + body.length) s) = refuse why (acceptFrame (2 + body.length) s)) :
    exec c s = .next (s.setCl (Cl.answered kind body why false [])) := by
  rw [hx]
  exact command_unchanged kind body owner s (plain why) h hb ho

/-- A command whose owner answers without a change leaves everything but the link. -/
theorem exec_answered {c : Instr} {kind : Byte} {body : Body} {owner : Owner} {s : State}
    (hx : exec c s = command kind body (some owner) s) (h : s.takesFrames) (hb : body.length ≤ 62) {a : Answer}
    (ho : owner (acceptFrame (2 + body.length) s) = (acceptFrame (2 + body.length) s, a)) :
    exec c s = .next (s.setCl (Cl.answered kind body a.status a.clamped a.body)) := by
  rw [hx]
  exact command_unchanged kind body owner s a h hb ho

/-- The state that a command leaves where its owner answers with this one: the reply fills the slot. -/
def answeredBy (kind : Byte) (body : Body) (t : State) (a : Answer) : State :=
  t.setCl (Cl.answered kind body a.status a.clamped a.body)

/-- A command is answered by its owner, which acts on the state but for the link; the reply then fills the slot. -/
theorem exec_acts {c : Instr} {kind : Byte} {body : Body} {owner : Owner} {s t : State} {a : Answer}
    (hx : exec c s = command kind body (some owner) s) (h : s.takesFrames) (hb : body.length ≤ 62)
    (ho : owner (acceptFrame (2 + body.length) s) = (t, a)) (ht : t.cl = (acceptFrame (2 + body.length) s).cl) :
    exec c s = .next (answeredBy kind body t a) := by
  rw [hx, command_owned kind body owner s h hb, ho, fillSlot_eq, ht]
  rfl

/-! ### Bodies -/

@[simp] theorem OffsetFields.bytes_length (f : OffsetFields) : f.bytes.length = 3 := by simp [OffsetFields.bytes]

@[simp] theorem WindowFields.bytes_length (f : WindowFields) : f.bytes.length = 6 := by simp [WindowFields.bytes]

@[simp] theorem ReadPowerFields.bytes_length (f : ReadPowerFields) : f.bytes.length = 3 := by
  simp [ReadPowerFields.bytes]

@[simp] theorem DiscFields.bytes_length (f : DiscFields) : f.bytes.length = 5 := by simp [DiscFields.bytes]

@[simp] theorem ZoneFields.bytes_length (f : ZoneFields) : f.bytes.length = 25 := by
  simp [ZoneFields.bytes, startBytes]

@[simp] theorem KeyFields.bytes_length (f : KeyFields) : f.bytes.length = 3 := by simp [KeyFields.bytes]

@[simp] theorem PutCalFields.bytes_length (f : PutCalFields) : f.bytes.length = 12 := by simp [PutCalFields.bytes]

@[simp] theorem RpcFields.bytes_length (f : RpcFields) : f.bytes.length = 3 := by simp [RpcFields.bytes]

@[simp] theorem ProtectFields.bytes_length (f : ProtectFields) : f.bytes.length = 4 := by simp [ProtectFields.bytes]

@[simp] theorem StrategyFields.bytes_length (f : StrategyFields) : f.bytes.length = 7 := by
  simp [StrategyFields.bytes, StrategyEntry.bytes]

@[simp] theorem BankFields.bytes_length (f : BankFields) : f.bytes.length = 18 := by
  simp [BankFields.bytes, charBytes]

@[simp] theorem nameListBytes_length (l : List Nat) : (nameListBytes l).length = 1 + l.length := by
  simp [nameListBytes, listBytes, List.length_flatMap]

@[simp] theorem maskListBytes_length (l : List MaskFields) : (maskListBytes l).length = 1 + 2 * l.length := by
  simp [maskListBytes, listBytes, List.length_flatMap, MaskFields.bytes, Nat.mul_comm]

@[simp] theorem presence_length (l : List Bool) : (presence l).length = 1 := by simp [presence]

theorem ModeFields.bytes_length_le (f : ModeFields) : f.bytes.length ≤ 62 := by
  cases h : f.selfTest <;> simp [ModeFields.bytes, optionalBytes, SelfTestFields.bytes, h]

theorem GetCalFields.bytes_length_le (f : GetCalFields) : f.bytes.length ≤ 62 := by
  cases h : f.zone <;> simp [GetCalFields.bytes, optionalBytes, h]

theorem CalibrateFields.bytes_length_le (f : CalibrateFields) : f.bytes.length ≤ 62 := by
  have optional (n : Nat) {α : Type} (g : α → Body) (hg : ∀ x, (g x).length = n) (x : Option α) :
      (optionalBytes g x).length ≤ n := by
    cases x <;> simp [optionalBytes, hg]
  have target := optional 2 (intBytes 2) (fun _ => intBytes_length _ _) f.target
  have bias := optional 2 (natBytes 2) (fun _ => natBytes_length _ _) f.bias
  have cool := optional 2 (natBytes 2) (fun _ => natBytes_length _ _) f.cool
  simp only [CalibrateFields.bytes, List.length_append, natBytes_length, presence_length]
  omega

theorem getStrategyBytes_length_le (v : Option Nat) : (getStrategyBytes v).length ≤ 62 := by
  cases v <;> simp [getStrategyBytes, optionalBytes]

theorem SegmentFields.bytes_length_le (f : SegmentFields) : f.bytes.length ≤ 62 := by
  cases h : f.start <;> simp [SegmentFields.bytes, optionalBytes, h]

/-! ### Each command is handled by its owner with the fields of its body -/

theorem exec_requestMode (f : ModeFields) (s : State) (h : f.fits) :
    exec (.requestMode f.bytes) s = command 1 f.bytes (some (requestMode f)) s := by
  have hx : exec (.requestMode f.bytes) s = execRequestMode f.bytes s := rfl
  rw [hx, execRequestMode, readMode_bytes f h, Option.map_some]

theorem exec_setScan (l : List Nat) (s : State) (hl : l.length < 256) (h : ∀ x ∈ l, x < 256) :
    exec (.setScan (nameListBytes l)) s = command 3 (nameListBytes l) (some (setScan l)) s := by
  have hx : exec (.setScan (nameListBytes l)) s = execSetScan (nameListBytes l) s := rfl
  rw [hx, execSetScan, readNames_bytes l hl h, Option.map_some]

theorem exec_stopScan_nil (s : State) : exec (.stopScan []) s = command 5 [] (some stopScan) s := rfl

theorem exec_setOffset (f : OffsetFields) (s : State) (h0 : f.channel < 256) (h1 : f.sign < 256)
    (h2 : f.magnitude < 256) :
    exec (.setOffset f.bytes) s = command 6 f.bytes (some (setOffset f)) s := by
  have hx : exec (.setOffset f.bytes) s = execSetOffset f.bytes s := rfl
  rw [hx, execSetOffset, readOffset_bytes f h0 h1 h2, Option.map_some]

theorem exec_setWindow (f : WindowFields) (s : State) (h0 : f.channel < 256) (h1 : f.low < 256 ^ 2)
    (h2 : f.high < 256 ^ 2) (h3 : f.enable < 256) :
    exec (.setWindow f.bytes) s = command 7 f.bytes (some (setWindow f)) s := by
  have hx : exec (.setWindow f.bytes) s = execSetWindow f.bytes s := rfl
  rw [hx, execSetWindow, readWindow_bytes f h0 h1 h2 h3, Option.map_some]

theorem exec_setReadPower (f : ReadPowerFields) (s : State) (h0 : f.surface < 256) (h1 : f.power < 256 ^ 2) :
    exec (.setReadPower f.bytes) s = command 9 f.bytes (some (setReadPower f)) s := by
  have hx : exec (.setReadPower f.bytes) s = execSetReadPower f.bytes s := rfl
  rw [hx, execSetReadPower, readReadPower_bytes f h0 h1, Option.map_some]

theorem exec_setApc (n : Nat) (s : State) (h : n < 256) :
    exec (.setApc (natBytes 1 n)) s = command 10 (natBytes 1 n) (some (setApc n)) s := by
  have hx : exec (.setApc (natBytes 1 n)) s = execSetApc (natBytes 1 n) s := rfl
  rw [hx, execSetApc, readNat_natBytes 1 n (by omega), Option.map_some]

theorem exec_setDisc (f : DiscFields) (s : State) (h0 : f.media < 256) (h1 : f.surfaces < 256)
    (h2 : f.blocks < 256 ^ 3) :
    exec (.setDisc f.bytes) s = command 12 f.bytes (some (setDisc f)) s := by
  have hx : exec (.setDisc f.bytes) s = execSetDisc f.bytes s := rfl
  rw [hx, execSetDisc, readDisc_bytes f h0 h1 h2, Option.map_some]

theorem exec_setZones (f : ZoneFields) (s : State) (h0 : f.surface < 256)
    (h1 : ∀ i : Fin 8, f.starts.get i < 256 ^ 3) :
    exec (.setZones f.bytes) s = command 13 f.bytes (some (setZones f)) s := by
  have hx : exec (.setZones f.bytes) s = execSetZones f.bytes s := rfl
  rw [hx, execSetZones, readZones_bytes f h0 h1, Option.map_some]

theorem exec_discUnload_nil (s : State) : exec (.discUnload []) s = command 14 [] (some discUnload) s := rfl

theorem exec_putCal (f : PutCalFields) (s : State) (h0 : f.key.surface < 256) (h1 : f.key.speed < 256)
    (h2 : f.key.zone < 256) (h3 : f.peak < 256 ^ 3) (h4 : f.bias < 256 ^ 2) (h5 : f.cool < 256 ^ 2)
    (h6 : -32768 ≤ f.target) (h7 : f.target ≤ 32767) :
    exec (.putCal f.bytes) s = command 15 f.bytes (some (putCal f)) s := by
  have hx : exec (.putCal f.bytes) s = execPutCal f.bytes s := rfl
  rw [hx, execPutCal, readPutCal_bytes f h0 h1 h2 h3 h4 h5 h6 h7, Option.map_some]

theorem exec_invalidateCal (f : KeyFields) (s : State) (h0 : f.surface < 256) (h1 : f.speed < 256)
    (h2 : f.zone < 256) :
    exec (.invalidateCal f.bytes) s = command 16 f.bytes (some (invalidateCal f)) s := by
  have hx : exec (.invalidateCal f.bytes) s = execInvalidateCal f.bytes s := rfl
  rw [hx, execInvalidateCal, readKey_bytes f h0 h1 h2, Option.map_some]

theorem exec_getCal (f : GetCalFields) (s : State) (h0 : f.surface < 256) (h1 : f.speed < 256)
    (h2 : ∀ z, f.zone = some z → z < 256) :
    exec (.getCal f.bytes) s = command 17 f.bytes (some (getCal f)) s := by
  have hx : exec (.getCal f.bytes) s = execGetCal f.bytes s := rfl
  rw [hx, execGetCal, readGetCal_bytes f h0 h1 h2, Option.map_some]

theorem exec_setStaleSpan (n : Nat) (s : State) (h : n < 65536) :
    exec (.setStaleSpan (natBytes 2 n)) s = command 18 (natBytes 2 n) (some (setStaleSpan n)) s := by
  have hx : exec (.setStaleSpan (natBytes 2 n)) s = execSetStaleSpan (natBytes 2 n) s := rfl
  rw [hx, execSetStaleSpan, readNat_natBytes 2 n (by omega), Option.map_some]

theorem exec_calibrate (f : CalibrateFields) (s : State) (h : f.fits) :
    exec (.calibrate f.bytes) s = command 20 f.bytes (some (calibrate f)) s := by
  have hx : exec (.calibrate f.bytes) s = execCalibrate f.bytes s := rfl
  rw [hx, execCalibrate, readCalibrate_bytes f h, Option.map_some]

theorem exec_abortCal_nil (s : State) : exec (.abortCal []) s = command 21 [] (some abortCal) s := rfl

theorem exec_setSpeed (n : Nat) (s : State) (h : n < 256) :
    exec (.setSpeed (natBytes 1 n)) s = command 23 (natBytes 1 n) (some (setSpeed n)) s := by
  have hx : exec (.setSpeed (natBytes 1 n)) s = execSetSpeed (natBytes 1 n) s := rfl
  rw [hx, execSetSpeed, readNat_natBytes 1 n (by omega), Option.map_some]

theorem exec_putStrategy (f : StrategyFields) (s : State) (h0 : f.speed < 256) (h1 : f.mark < 256)
    (h2 : f.entry.fits) :
    exec (.putStrategy f.bytes) s = command 24 f.bytes (some (putStrategy f)) s := by
  have hx : exec (.putStrategy f.bytes) s = execPutStrategy f.bytes s := rfl
  rw [hx, execPutStrategy, readStrategy_bytes f h0 h1 h2, Option.map_some]

theorem exec_getStrategy (v : Option Nat) (s : State) (h : ∀ x, v = some x → x < 256) :
    exec (.getStrategy (getStrategyBytes v)) s = command 25 (getStrategyBytes v) (some (getStrategy v)) s := by
  have hx : exec (.getStrategy (getStrategyBytes v)) s = execGetStrategy (getStrategyBytes v) s := rfl
  rw [hx, execGetStrategy, readGetStrategy_bytes v h, Option.map_some]

theorem exec_segment (f : SegmentFields) (s : State) (h0 : f.tag < 256 ^ 2) (h1 : f.surface < 256)
    (h2 : f.link < 256) (h3 : f.count < 256 ^ 2) (h4 : ∀ x, f.start = some x → x < 256 ^ 3) :
    exec (.segment f.bytes) s = command 28 f.bytes (some (segment f)) s := by
  have hx : exec (.segment f.bytes) s = execSegment f.bytes s := rfl
  rw [hx, execSegment, readSegment_bytes f h0 h1 h2 h3 h4, Option.map_some]

theorem exec_pause_nil (s : State) : exec (.pause []) s = command 29 [] (some pause) s := rfl

theorem exec_resume_nil (s : State) : exec (.resume []) s = command 30 [] (some resume) s := rfl

theorem exec_abortSegment_nil (s : State) : exec (.abortSegment []) s = command 31 [] (some abortSegment) s := rfl

theorem exec_setRpc (f : RpcFields) (s : State) (h0 : f.enable < 256) (h1 : f.deadband < 256) (h2 : f.step < 256) :
    exec (.setRpc f.bytes) s = command 32 f.bytes (some (setRpc f)) s := by
  have hx : exec (.setRpc f.bytes) s = execSetRpc f.bytes s := rfl
  rw [hx, execSetRpc, readRpc_bytes f h0 h1 h2, Option.map_some]

theorem exec_setWaitLimit (n : Nat) (s : State) (h : n < 65536) :
    exec (.setWaitLimit (natBytes 2 n)) s = command 33 (natBytes 2 n) (some (setWaitLimit n)) s := by
  have hx : exec (.setWaitLimit (natBytes 2 n)) s = execSetWaitLimit (natBytes 2 n) s := rfl
  rw [hx, execSetWaitLimit, readNat_natBytes 2 n (by omega), Option.map_some]

theorem exec_setProtect (f : ProtectFields) (s : State) (h0 : f.surface < 256) (h1 : f.code < 256)
    (h2 : f.side < 256) (h3 : f.complement < 256) :
    exec (.setProtect f.bytes) s = command 35 f.bytes (some (setProtect f)) s := by
  have hx : exec (.setProtect f.bytes) s = execSetProtect f.bytes s := rfl
  rw [hx, execSetProtect, readProtect_bytes f h0 h1 h2 h3, Option.map_some]

theorem exec_setMask (l : List MaskFields) (s : State) (hl : l.length < 256)
    (h : ∀ x ∈ l, x.event < 256 ∧ x.setting < 256) :
    exec (.setMask (maskListBytes l)) s = command 38 (maskListBytes l) (some (setMask l)) s := by
  have hx : exec (.setMask (maskListBytes l)) s = execSetMask (maskListBytes l) s := rfl
  rw [hx, execSetMask, readMasks_bytes l hl h, Option.map_some]

theorem exec_clearEvents (l : List Nat) (s : State) (hl : l.length < 256) (h : ∀ x ∈ l, x < 256) :
    exec (.clearEvents (nameListBytes l)) s = command 39 (nameListBytes l) (some (clearEvents l)) s := by
  have hx : exec (.clearEvents (nameListBytes l)) s = execClearEvents (nameListBytes l) s := rfl
  rw [hx, execClearEvents, readNames_bytes l hl h, Option.map_some]

theorem exec_resetEnable_nil (s : State) : exec (.resetEnable []) s = command 42 [] (some resetEnable) s := rfl

theorem exec_writeBank (f : BankFields) (s : State) (h : f.fits) :
    exec (.writeBank f.bytes) s = command 44 f.bytes (some (writeBank f)) s := by
  have hx : exec (.writeBank f.bytes) s = execWriteBank f.bytes s := rfl
  rw [hx, execWriteBank, readBank_bytes f h, Option.map_some]

theorem exec_lockBank (n : Nat) (s : State) (h : n < 256) :
    exec (.lockBank (natBytes 1 n)) s = command 45 (natBytes 1 n) (some (lockBank n)) s := by
  have hx : exec (.lockBank (natBytes 1 n)) s = execLockBank (natBytes 1 n) s := rfl
  rw [hx, execLockBank, readNat_natBytes 1 n (by omega), Option.map_some]

theorem exec_selectBank (n : Nat) (s : State) (h : n < 256) :
    exec (.selectBank (natBytes 1 n)) s = command 46 (natBytes 1 n) (some (selectBank n)) s := by
  have hx : exec (.selectBank (natBytes 1 n)) s = execSelectBank (natBytes 1 n) s := rfl
  rw [hx, execSelectBank, readNat_natBytes 1 n (by omega), Option.map_some]

/-! ### SET_STALE_SPAN, SET_RPC and SET_WAIT_LIMIT (R90, R152, R157) -/

/-- An on-or-off byte is read back. -/
@[simp] theorem flagOf_toNat (b : Bool) : flagOf b.toNat = some b := by cases b <;> rfl

/-- A byte above 1 is neither on nor off. -/
theorem flagOf_none (n : Nat) (h : 2 ≤ n) : flagOf n = none := nameAt_eq_none _ n h

/-- A value is changed by being held to a range exactly where it lies outside. -/
theorem clampNat_ne_iff (lo hi x : Nat) (h : lo ≤ hi) : clampNat lo hi x ≠ x ↔ x < lo ∨ hi < x := by
  unfold clampNat
  omega

/-- R152: an enable byte that is on or off replaces the three settings, deadband and step held to their ranges. -/
theorem setRpc_taken (on : Bool) (d k : Nat) (s : State) :
    setRpc ⟨on.toNat, d, k⟩ s =
      (s.setWgc { s.wgc with rpcOn := on, deadband := min 100 d, rpcStep := max 1 (min 20 k) },
        { status := .ok, clamped := decide (100 < d ∨ k < 1 ∨ 20 < k)
          body := flagByte on ++ natBytes 1 (min 100 d) ++ natBytes 1 (max 1 (min 20 k)) }) := by
  have clamped : (decide (min 100 d ≠ d) || decide (clampNat 1 20 k ≠ k)) = decide (100 < d ∨ k < 1 ∨ 20 < k) := by
    rw [← Bool.decide_or, decide_eq_decide, clampNat_ne_iff 1 20 k (by decide)]
    omega
  simp only [setRpc, flagOf_toNat, clamped]
  rfl

theorem setWaitLimit_taken (n : Nat) (s : State) (h : 16 ≤ n ∧ n ≤ 65535) :
    setWaitLimit n s = (s.setWgc { s.wgc with waitLimit := n }, plain .ok) := by
  simp [setWaitLimit, inRange, h]

theorem setWaitLimit_badValue (n : Nat) (s : State) (h : n < 16) : setWaitLimit n s = refuse .badValue s := by
  have outside : inRange 16 65535 n = false := by
    rw [inRange, decide_eq_false (by omega)]
    rfl
  simp [setWaitLimit, outside]

/-- Settles O37, by the owners' answers. -/
theorem spanCorrectionAndWaitSettings : Obligations.SpanCorrectionAndWaitSettings := by
  intro s hs
  refine ⟨fun n hn => ?_, fun on d k hd hk => ?_, fun n low high => ?_, fun n hn => ?_⟩
  · have clamped : decide (clampNat 10 600 n ≠ n) = decide (n < 10 ∨ 600 < n) :=
      decide_eq_decide.2 (clampNat_ne_iff 10 600 n (by decide))
    rw [exec_acts (exec_setStaleSpan n s hn) hs (by simp) rfl rfl, clamped]
    rfl
  · have byte : on.toNat < 256 := by cases on <;> decide
    exact exec_acts (exec_setRpc ⟨on.toNat, d, k⟩ s byte hd hk) hs (by simp) (setRpc_taken on d k _) rfl
  · exact exec_acts (exec_setWaitLimit n s (by omega)) hs (by simp) (setWaitLimit_taken n _ ⟨low, high⟩) rfl
  · exact exec_refused (exec_setWaitLimit n s (by omega)) hs (by simp) (setWaitLimit_badValue n _ hn)

end Sys2Proof.Machine
end

section
/-! SUPPORT. The settings of the monitor: SET_SCAN, SET_OFFSET, SET_WINDOW and STOP_SCAN (R36, R39, R40, R42), and
obligation O7. -/

namespace Sys2Proof.Machine

/-- Names are read back from their places. -/
theorem namesOf_map {α : Type} (names : List α) (place : α → Nat) (l : List α)
    (h : ∀ x ∈ l, nameAt names (place x) = some x) : namesOf names (l.map place) = some l := by
  induction l with
  | nil => rfl
  | cons x xs ih =>
    have head : nameAt names (place x) = some x := h x (by simp)
    have rest := ih fun y hy => h y (by simp [hy])
    simp [namesOf, head, rest]

/-- A byte that names nothing leaves the list without a reading. -/
theorem namesOf_none {α : Type} (names : List α) (l : List Nat) (h : ∃ x ∈ l, names.length ≤ x) :
    namesOf names l = none := by
  induction l with
  | nil => simp at h
  | cons k rest ih =>
    obtain ⟨x, hx, beyond⟩ := h
    rcases List.mem_cons.1 hx with rfl | hx
    · simp [namesOf, nameAt_eq_none names x beyond]
    · simp [namesOf, ih ⟨x, hx, beyond⟩]

theorem inRange_eq_true {lo hi x : Nat} (h : lo ≤ x ∧ x ≤ hi) : inRange lo hi x = true := by simp [inRange, h]

theorem inRange_eq_false {lo hi x : Nat} (h : x < lo ∨ hi < x) : inRange lo hi x = false := by
  simp only [inRange, Bool.and_eq_false_iff, decide_eq_false_iff_not]
  omega

theorem inRangeInt_eq_true {lo hi x : Int} (h : lo ≤ x ∧ x ≤ hi) : inRangeInt lo hi x = true := by simp [inRangeInt, h]

theorem inRangeInt_eq_false {lo hi x : Int} (h : x < lo ∨ hi < x) : inRangeInt lo hi x = false := by
  simp only [inRangeInt, Bool.and_eq_false_iff, decide_eq_false_iff_not]
  omega

/-- R36: in STOPPED a list of 1 to 8 channels replaces the scan list. -/
theorem setScan_taken (l : List Channel) (s : State) (h : s.mon.scanState = .stopped) (hl : 1 ≤ l.length ∧ l.length ≤ 8) :
    setScan (l.map (fun c => c.index.val)) s = (s.setMon { s.mon with scanList := l, position := 0 }, plain .ok) := by
  have short : ¬ inRange 1 8 (l.map (fun c => c.index.val)).length = false := by simp [inRange, hl]
  have named : namesOf Channel.all (l.map (fun c => c.index.val)) = some l := namesOf_map _ _ l fun c _ => nameAt_channel c
  rw [setScan, if_neg (not_not.2 h), if_neg short, named]

theorem setScan_busy (l : List Nat) (s : State) (h : s.mon.scanState ≠ .stopped) : setScan l s = refuse .busy s := by
  rw [setScan, if_pos h]

theorem setScan_badValue (l : List Nat) (s : State) (h : s.mon.scanState = .stopped)
    (hl : l = [] ∨ 8 < l.length ∨ ∃ x ∈ l, 8 ≤ x) : setScan l s = refuse .badValue s := by
  rw [setScan, if_neg (not_not.2 h)]
  split
  · rfl
  · next hr =>
    have unnamed : namesOf Channel.all l = none := by
      rcases hl with rfl | long | beyond
      · exact absurd rfl hr
      · exact absurd (inRange_eq_false (.inr long)) hr
      · exact namesOf_none _ l beyond
    rw [unnamed]

/-- R40: in STOPPED the offset of a channel is replaced, its magnitude held to 31. -/
theorem setOffset_taken (c : Channel) (sign : Sign) (k m : Nat) (s : State) (hk : nameAt Sign.all k = some sign)
    (h : s.mon.scanState = .stopped) :
    setOffset ⟨c.index, k, m⟩ s =
      (s.setMon { s.mon with offsets := s.mon.offsets.put c.index { sign := sign, magnitude := min 31 m } },
        { status := .ok, clamped := decide (31 < m), body := natBytes 1 (min 31 m) }) := by
  have clamped : decide (min 31 m ≠ m) = decide (31 < m) := by
    rw [decide_eq_decide]
    omega
  rw [setOffset, if_neg (not_not.2 h)]
  simp only [nameAt_channel, hk, clamped]

theorem setOffset_busy (f : OffsetFields) (s : State) (h : s.mon.scanState ≠ .stopped) :
    setOffset f s = refuse .busy s := by
  rw [setOffset, if_pos h]

theorem setOffset_badValue (f : OffsetFields) (s : State) (h : s.mon.scanState = .stopped)
    (hf : 8 ≤ f.channel ∨ 2 ≤ f.sign) : setOffset f s = refuse .badValue s := by
  rw [setOffset, if_neg (not_not.2 h)]
  rcases hf with channel | sign
  · rw [nameAt_eq_none Channel.all _ channel]
  · rw [nameAt_eq_none Sign.all _ sign]
    split
    · next hs => exact absurd hs (by simp)
    · rfl

/-- R42: a window within 0 to 4095, its low limit not above the high one, replaces the channel's. -/
theorem setWindow_taken (c : Channel) (lo hi : Nat) (on : Bool) (s : State) (h : hi ≤ 4095 ∧ lo ≤ hi) :
    setWindow ⟨c.index, lo, hi, on.toNat⟩ s =
      (s.setMon { s.mon with windows := s.mon.windows.put c.index { low := lo, high := hi, enabled := on } },
        plain .ok) := by
  simp only [setWindow, nameAt_channel, flagOf_toNat, if_pos h]

theorem setWindow_badValue (f : WindowFields) (s : State)
    (h : 8 ≤ f.channel ∨ 4095 < f.low ∨ 4095 < f.high ∨ f.high < f.low ∨ 2 ≤ f.enable) :
    setWindow f s = refuse .badValue s := by
  unfold setWindow
  split
  · next c on hc ho =>
    have channel : ¬ 8 ≤ f.channel := fun k => absurd ((nameAt_eq_none Channel.all _ k).symm.trans hc) (by simp)
    have enable : ¬ 2 ≤ f.enable := fun k => absurd ((flagOf_none _ k).symm.trans ho) (by simp)
    rw [if_neg (by omega)]
  · rfl

/-- R39: what the recording path may need the scan for. -/
theorem scanNeeded_iff (s : State) :
    s.scanNeeded = true ↔ s.wgc.gate ≠ .idle ∨ s.wgc.queue ≠ [] ∨ s.wgc.arm = true := by
  simp [State.scanNeeded, or_assoc]

theorem stopScan_busy (s : State) (h : s.mon.scanState = .running)
    (hn : s.wgc.gate ≠ .idle ∨ s.wgc.queue ≠ [] ∨ s.wgc.arm = true) : stopScan s = refuse .busy s := by
  rw [stopScan, if_neg (not_not.2 h), if_pos ((scanNeeded_iff s).2 hn)]

/-- R39: a RUNNING scan that is not needed is STOPPING. -/
theorem stopScan_stops (s : State) (h : s.mon.scanState = .running) (hg : s.wgc.gate = .idle) (hq : s.wgc.queue = [])
    (ha : s.wgc.arm = false) : stopScan s = (s.setMon { s.mon with scanState := .stopping }, plain .ok) := by
  have unneeded : ¬ s.scanNeeded = true := by
    rw [scanNeeded_iff]
    simp [hg, hq, ha]
  rw [stopScan, if_neg (not_not.2 h), if_neg unneeded]

theorem stopScan_idle (s : State) (h : s.mon.scanState ≠ .running) : stopScan s = (s, plain .ok) := by
  rw [stopScan, if_pos h]

theorem Sign.place_lt {k : Nat} {sign : Sign} (h : nameAt Sign.all k = some sign) : k < 256 := by
  by_contra hk
  exact absurd ((nameAt_eq_none Sign.all k (by simp only [Sign.all, List.length_cons, List.length_nil]; omega)).symm.trans h)
    (by simp)

/-- Settles O7, command by command, by the owners' answers. -/
theorem monitorSettingsAreReplaced : Obligations.MonitorSettingsAreReplaced := by
  intro s hs
  refine ⟨fun l h low high => ?_, fun l hb hl h => ?_, fun l hb hl h bad => ?_, fun c sign k m hk hm h => ?_,
    fun f h0 h1 h2 h => ?_, fun f h0 h1 h2 h bad => ?_, fun c lo hi on hlo hhi => ?_, fun f h0 h1 h2 h3 bad => ?_,
    fun h needed => ?_, fun h gate queue arm => ?_, fun h => ?_⟩
  · have bytes : ∀ x ∈ l.map (fun c => c.index.val), x < 256 := fun x hx => by
      obtain ⟨c, -, rfl⟩ := List.mem_map.1 hx
      omega
    exact exec_acts (exec_setScan _ s (by simp; omega) bytes) hs (by simp; omega) (setScan_taken l _ h ⟨low, high⟩) rfl
  · exact exec_refused (exec_setScan l s (by omega) hb) hs (by simp; omega) (setScan_busy l _ h)
  · exact exec_refused (exec_setScan l s (by omega) hb) hs (by simp; omega) (setScan_badValue l _ h bad)
  · exact exec_acts (exec_setOffset ⟨c.index, k, m⟩ s (by dsimp only; omega) (Sign.place_lt hk) hm) hs (by simp)
      (setOffset_taken c sign k m _ hk h) rfl
  · exact exec_refused (exec_setOffset f s h0 h1 h2) hs (by simp) (setOffset_busy f _ h)
  · exact exec_refused (exec_setOffset f s h0 h1 h2) hs (by simp) (setOffset_badValue f _ h bad)
  · have byte : on.toNat < 256 := by cases on <;> decide
    exact exec_acts (exec_setWindow ⟨c.index, lo, hi, on.toNat⟩ s (by dsimp only; omega) (by dsimp only; omega)
      (by dsimp only; omega) byte) hs (by simp) (setWindow_taken c lo hi on _ ⟨hhi, hlo⟩) rfl
  · exact exec_refused (exec_setWindow f s h0 (by omega) (by omega) h3) hs (by simp) (setWindow_badValue f _ bad)
  · exact exec_refused (exec_stopScan_nil s) hs (by simp) (stopScan_busy _ h needed)
  · exact exec_acts (exec_stopScan_nil s) hs (by simp) (stopScan_stops _ h gate queue arm) rfl
  · exact exec_answered (exec_stopScan_nil s) hs (by simp) (stopScan_idle _ h)

end Sys2Proof.Machine
end

section
/-! SUPPORT. The disc, its zones and its records: SET_DISC, SET_ZONES, DISC_UNLOAD, PUT_CAL and INVALIDATE_CAL (R75, R77,
R78, R80, R81), and obligations O17 to O19. -/

namespace Sys2Proof.Machine

theorem setDisc_wrongMode (f : DiscFields) (s : State) (h : s.mc.mode ≠ .standby) :
    setDisc f s = refuse .wrongMode s := by
  rw [setDisc, if_pos h]

theorem setDisc_busy (f : DiscFields) (s : State) (h : s.mc.mode = .standby) (hd : s.ct.disc ≠ none) :
    setDisc f s = refuse .busy s := by
  rw [setDisc, if_neg (not_not.2 h), if_pos (Option.isSome_iff_ne_none.2 hd)]

/-- R75: the fields of a disc of one or two surfaces and 1,024 to 1,048,576 blocks. -/
theorem discOf_some (m : Media) (dual : Bool) (n : Nat) (h : 1024 ≤ n ∧ n ≤ 1048576) :
    discOf ⟨m.code, if dual then 2 else 1, n⟩ = some { media := m, dual := dual, blocks := n } := by
  have range := inRange_eq_true h
  have media : nameAt Media.all m.code = some m := by cases m <;> rfl
  have single : nameAt [false, true] 0 = some false := rfl
  have double : nameAt [false, true] 1 = some true := rfl
  cases dual <;> simp [discOf, range, media, single, double]

theorem discOf_none (f : DiscFields)
    (h : 2 ≤ f.media ∨ f.surfaces = 0 ∨ 3 ≤ f.surfaces ∨ f.blocks < 1024 ∨ 1048576 < f.blocks) : discOf f = none := by
  unfold discOf
  split
  · next m dual hm hd =>
    have media : ¬ 2 ≤ f.media := fun k => absurd ((nameAt_eq_none Media.all _ k).symm.trans hm) (by simp)
    have surfaces : ¬ 3 ≤ f.surfaces := fun k =>
      absurd ((nameAt_eq_none [false, true] (f.surfaces - 1) (by simp; omega)).symm.trans hd) (by simp)
    rw [if_neg]
    rintro ⟨one, range⟩
    simp only [inRange, Bool.and_eq_true, decide_eq_true_eq] at range
    omega
  · rfl

/-- R75: a disc is set with the default starts of each of its surfaces. -/
theorem setDisc_taken (m : Media) (dual : Bool) (n : Nat) (s : State) (h : s.mc.mode = .standby) (hd : s.ct.disc = none)
    (hn : 1024 ≤ n ∧ n ≤ 1048576) :
    setDisc ⟨m.code, if dual then 2 else 1, n⟩ s =
      (s.setCt { s.ct with
          disc := some { media := m, dual := dual, blocks := n }
          zones := { t0 := some (defaultStarts n), t1 := if dual then some (defaultStarts n) else none } },
        okBody (natBytes 1 m.code ++ natBytes 1 (if dual then 2 else 1) ++ natBytes 3 n)) := by
  have unset : ¬ s.ct.disc.isSome = true := by simp [hd]
  rw [setDisc, if_neg (not_not.2 h), if_neg unset, discOf_some m dual n hn]
  rfl

theorem setDisc_badValue (f : DiscFields) (s : State) (h : s.mc.mode = .standby) (hd : s.ct.disc = none)
    (hf : 2 ≤ f.media ∨ f.surfaces = 0 ∨ 3 ≤ f.surfaces ∨ f.blocks < 1024 ∨ 1048576 < f.blocks) :
    setDisc f s = refuse .badValue s := by
  have unset : ¬ s.ct.disc.isSome = true := by simp [hd]
  rw [setDisc, if_neg (not_not.2 h), if_neg unset, discOf_none f hf]

theorem setZones_wrongMode (f : ZoneFields) (s : State) (h : s.mc.mode ≠ .standby ∨ s.ct.disc = none) :
    setZones f s = refuse .wrongMode s := by
  rw [setZones, if_pos h]

/-- R77: starts that begin at 0, ascend and end within the surface pass the check. -/
theorem startsGood_iff (z : Eight Nat) (n : Nat) :
    startsGood z n = true ↔ z.t0 = 0 ∧ (∀ i j : Fin 8, i.val + 1 = j.val → z.get i < z.get j) ∧ z.t7 < n := by
  simp only [startsGood, Bool.and_eq_true, decide_eq_true_eq]
  constructor
  · rintro ⟨⟨⟨⟨⟨⟨⟨⟨h0, h1⟩, h2⟩, h3⟩, h4⟩, h5⟩, h6⟩, h7⟩, h8⟩
    refine ⟨h0, fun i j hij => ?_, h8⟩
    have steps : ∀ i : Fin 7, z.get i.castSucc < z.get i.succ := by
      intro i
      fin_cases i
      exacts [h1, h2, h3, h4, h5, h6, h7]
    have hi : i.val < 7 := by omega
    have hj : j = (⟨i.val, hi⟩ : Fin 7).succ := Fin.ext hij.symm
    rw [hj]
    exact steps ⟨i.val, hi⟩
  · rintro ⟨h0, step, h8⟩
    exact ⟨⟨⟨⟨⟨⟨⟨⟨h0, step 0 1 rfl⟩, step 1 2 rfl⟩, step 2 3 rfl⟩, step 3 4 rfl⟩, step 4 5 rfl⟩, step 5 6 rfl⟩,
      step 6 7 rfl⟩, h8⟩

/-- R77: the same starts once more change nothing. -/
theorem setZones_same (f : Surface) (z : Eight Nat) (s : State) (h : s.mc.mode = .standby)
    (hf : s.ct.hasSurface f = true) (hz : startsGood z s.ct.blocks = true) (same : s.ct.zones.get f = some z) :
    setZones ⟨f.code, z⟩ s = (s, okBody (natBytes 1 0)) := by
  have taken : ¬ (s.mc.mode ≠ .standby ∨ s.ct.disc = none) := not_or.2 ⟨not_not.2 h, Ct.disc_ne_none _ _ hf⟩
  rw [setZones, if_neg taken]
  simp [hf, hz, same]

/-- R77: other starts make every record of the surface EMPTY, and the reply counts the usable ones lost. -/
theorem setZones_changed (f : Surface) (z : Eight Nat) (s : State) (h : s.mc.mode = .standby)
    (hf : s.ct.hasSurface f = true) (hz : startsGood z s.ct.blocks = true) (other : s.ct.zones.get f ≠ some z) :
    setZones ⟨f.code, z⟩ s =
      (s.setCt { s.ct with zones := s.ct.zones.put f (some z), records := s.ct.records.put f Ct.blankRecords },
        okBody (natBytes 1 (s.ct.usableCount f))) := by
  have taken : ¬ (s.mc.mode ≠ .standby ∨ s.ct.disc = none) := not_or.2 ⟨not_not.2 h, Ct.disc_ne_none _ _ hf⟩
  rw [setZones, if_neg taken]
  simp [hf, hz, other]

theorem Surface.code_inj {f g : Surface} (h : f.code = g.code) : f = g := by
  have named := nameAt_surface f
  rw [h, nameAt_surface] at named
  exact (Option.some.inj named).symm

theorem setZones_badValue (f : ZoneFields) (s : State) (h : s.mc.mode = .standby) (hd : s.ct.disc ≠ none)
    (bad : 2 ≤ f.surface ∨ (∃ g : Surface, f.surface = g.code ∧ s.ct.hasSurface g = false) ∨ f.starts.t0 ≠ 0 ∨
      (∃ i j : Fin 8, i.val + 1 = j.val ∧ f.starts.get j ≤ f.starts.get i) ∨ s.ct.blocks ≤ f.starts.t7) :
    setZones f s = refuse .badValue s := by
  have taken : ¬ (s.mc.mode ≠ .standby ∨ s.ct.disc = none) := not_or.2 ⟨not_not.2 h, hd⟩
  rw [setZones, if_neg taken]
  split
  · rfl
  · next g hg =>
    have checks : ¬ (s.ct.hasSurface g && startsGood f.starts s.ct.blocks) = true := by
      rw [Bool.and_eq_true, startsGood_iff]
      rintro ⟨surface, zero, ascends, within⟩
      rcases bad with beyond | ⟨g', hg', lacks⟩ | start | ⟨i, j, hij, falls⟩ | long
      · exact absurd ((nameAt_eq_none Surface.all _ beyond).symm.trans hg) (by simp)
      · rw [hg', nameAt_surface] at hg
        obtain rfl := Option.some.inj hg
        exact absurd (surface.symm.trans lacks) (by simp)
      · exact start zero
      · exact absurd (ascends i j hij) (by omega)
      · omega
    rw [if_neg checks]

/-- Settles O17, by the owners' answers. -/
theorem discAndZonesAreSet : Obligations.DiscAndZonesAreSet := by
  intro s hs
  refine ⟨fun m dual n hm hd low high => ?_, fun f h0 h1 h2 => ⟨fun hm => ?_, fun hm hd => ?_, fun hm hd bad => ?_⟩,
    fun f z hm hf hb z0 z1 z2 z3 z4 z5 z6 z7 z8 => ?_, fun f h0 h1 h => ?_, fun f h0 h1 hm hd bad => ?_⟩
  · have media : m.code < 256 := by cases m <;> decide
    have surfaces : (if dual then 2 else 1) < 256 := by cases dual <;> decide
    exact exec_acts (exec_setDisc ⟨m.code, if dual then 2 else 1, n⟩ s media surfaces (by dsimp only; omega)) hs (by simp)
      (setDisc_taken m dual n _ hm hd ⟨low, high⟩) rfl
  · exact exec_refused (exec_setDisc f s h0 h1 h2) hs (by simp) (setDisc_wrongMode f _ hm)
  · exact exec_refused (exec_setDisc f s h0 h1 h2) hs (by simp) (setDisc_busy f _ hm hd)
  · exact exec_refused (exec_setDisc f s h0 h1 h2) hs (by simp) (setDisc_badValue f _ hm hd bad)
  · have good : startsGood z s.ct.blocks = true := by
      simp only [startsGood, Bool.and_eq_true, decide_eq_true_eq]
      exact ⟨⟨⟨⟨⟨⟨⟨⟨z0, z1⟩, z2⟩, z3⟩, z4⟩, z5⟩, z6⟩, z7⟩, z8⟩
    have small : ∀ i : Fin 8, z.get i < 256 ^ 3 := by
      intro i
      fin_cases i <;> simp only [Eight.get] <;> omega
    have read := exec_setZones ⟨f.code, z⟩ s (by dsimp only; have := f.code_lt; omega) small
    refine ⟨fun same => ?_, fun other => ?_⟩
    · exact exec_answered read hs (by simp) (setZones_same f z _ hm hf good same)
    · refine ⟨_, exec_acts read hs (by simp) (setZones_changed f z _ hm hf good other) rfl, rfl, rfl, rfl, fun k hk => ?_,
        fun k hk => ?_, rfl⟩
      · simp [answeredBy, Ct.record, hk, Ct.blankRecords, CalRecord.blank]
      · simp [answeredBy, Ct.record, hk, acceptFrame, endWindow]
  · exact exec_refused (exec_setZones f s h0 h1) hs (by simp) (setZones_wrongMode f _ h)
  · exact exec_refused (exec_setZones f s h0 h1) hs (by simp) (setZones_badValue f _ hm hd bad)

theorem discUnload_wrongMode (s : State) (h : s.mc.mode ≠ .standby) : discUnload s = refuse .wrongMode s := by
  rw [discUnload, if_pos h]

/-- R78: what DISC_UNLOAD clears. -/
theorem discUnload_taken (s : State) (h : s.mc.mode = .standby) :
    discUnload s =
      ({ s with
          ct := { s.ct with disc := none, zones := Two.fill none, records := Two.fill Ct.blankRecords }
          tcu := { s.tcu with areas := Two.fill none }
          wsg := { s.wsg with entries := Wsg.blankEntries }
          wgc := { s.wgc with append := none }
          pu := s.pu.unload }, plain .ok) := by
  rw [discUnload, if_neg (not_not.2 h)]
  rfl

/-- R164: DISC_UNLOAD clears the maps, and ends a SESSION lock, except under a POWER lock. -/
theorem Pu.unload_spec (p : Pu) :
    p.unload.sense = p.sense ∧ (p.lock = .power → p.unload = p) ∧
      (p.lock ≠ .power → (∀ f, p.unload.maps.get f = ProtMap.cleared) ∧
        p.unload.lock = if p.lock = .line then .line else .opened) := by
  cases h : p.lock <;> simp [Pu.unload, h]

/-- Settles O18, by the owner's answer. -/
theorem discUnloadClearsWhatTheDiscBound : Obligations.DiscUnloadClearsWhatTheDiscBound := by
  intro s hs
  obtain ⟨sense, power, others⟩ := s.pu.unload_spec
  refine ⟨fun hm => ?_, fun hm => ?_⟩
  · exact exec_refused (exec_discUnload_nil s) hs (by simp) (discUnload_wrongMode _ hm)
  · refine ⟨_, exec_acts (exec_discUnload_nil s) hs (by simp) (discUnload_taken _ hm) rfl, rfl, fun f => ?_, fun k => ?_, rfl,
      fun f => ?_, rfl, fun i j => ?_, rfl, rfl, sense, power, others, rfl⟩
    · exact Two.get_fill _ f
    · simp [answeredBy, Ct.record, Ct.blankRecords, CalRecord.blank]
    · exact Two.get_fill _ f
    · simp [answeredBy, Wsg.blankEntries]

end Sys2Proof.Machine
end

section
/-! SUPPORT. PUT_CAL and INVALIDATE_CAL (R80, R81), and obligation O19. -/

namespace Sys2Proof.Machine

/-- R80, checks 1 and 2. -/
theorem recordCheck_wrongMode (f : KeyFields) (s : State)
    (h : s.mc.mode = .configure ∨ s.mc.mode = .fault ∨ s.ct.disc = none) : recordCheck f s = .error .wrongMode := by
  unfold recordCheck
  rcases h with mode | mode | disc
  · simp [mode, Mode.takesRecords]
  · simp [mode, Mode.takesRecords]
  · simp [disc]

theorem Mode.takesRecords_of {m : Mode} (h : m = .standby ∨ m = .read ∨ m = .record ∨ m = .selftest) :
    Mode.takesRecords m = true := by
  rcases h with rfl | rfl | rfl | rfl <;> rfl

/-- R80: a key's fields name that key on a surface the disc has. -/
theorem keyOf_fields (c : Ct) (k : CalKey) (h : c.hasSurface k.surface = true) :
    keyOf c ⟨k.surface.code, k.speed.index, k.zone⟩ = some k := by
  simp [keyOf, h]

theorem keyOf_none (c : Ct) (f : KeyFields)
    (h : 2 ≤ f.surface ∨ (∃ g : Surface, f.surface = g.code ∧ c.hasSurface g = false) ∨ 4 ≤ f.speed ∨ 8 ≤ f.zone) :
    keyOf c f = none := by
  unfold keyOf
  split
  · next g v hg hv =>
    rcases h with surface | ⟨g', hg', lacks⟩ | speed | zone
    · exact absurd ((nameAt_eq_none Surface.all _ surface).symm.trans hg) (by simp)
    · rw [hg', nameAt_surface] at hg
      obtain rfl := Option.some.inj hg
      simp [lacks]
    · exact absurd ((nameAt_eq_none Speed.all _ speed).symm.trans hv) (by simp)
    · rw [dif_neg (by omega)]
  · rfl

/-- R80, check 3: the key is judged where the mode and the disc pass. -/
theorem recordCheck_badValue (f : KeyFields) (s : State)
    (hm : s.mc.mode = .standby ∨ s.mc.mode = .read ∨ s.mc.mode = .record ∨ s.mc.mode = .selftest) (hd : s.ct.disc ≠ none)
    (h : 2 ≤ f.surface ∨ (∃ g : Surface, f.surface = g.code ∧ s.ct.hasSurface g = false) ∨ 4 ≤ f.speed ∨ 8 ≤ f.zone) :
    recordCheck f s = .error .badValue := by
  simp [recordCheck, Mode.takesRecords_of hm, hd, keyOf_none _ f h]

/-- R80, check 4: a record in TRIAL is BUSY. -/
theorem recordCheck_fields (k : CalKey) (s : State)
    (hm : s.mc.mode = .standby ∨ s.mc.mode = .read ∨ s.mc.mode = .record ∨ s.mc.mode = .selftest)
    (h : s.ct.hasSurface k.surface = true) :
    recordCheck ⟨k.surface.code, k.speed.index, k.zone⟩ s =
      if (s.ct.record k).state = .trial then .error .busy else .ok k := by
  simp [recordCheck, Mode.takesRecords_of hm, Ct.disc_ne_none _ _ h, keyOf_fields _ k h]

section
variable {f : PutCalFields} {s : State} {k : CalKey}

theorem putCal_refused {why : Status} (h : recordCheck f.key s = .error why) : putCal f s = refuse why s := by
  rw [putCal, h]

theorem putCal_badValue (h : recordCheck f.key s = .ok k)
    (hf : 1000 < f.bias ∨ 1000 < f.cool ∨ f.target < -200 ∨ 200 < f.target) : putCal f s = refuse .badValue s := by
  have bad : ¬ (decide (f.bias ≤ 1000) && decide (f.cool ≤ 1000) && inRangeInt (-200) 200 f.target) = true := by
    simp only [inRangeInt, Bool.and_eq_true, decide_eq_true_eq]
    omega
  simp only [putCal, h, if_neg bad]

/-- R80: the record PUT_CAL writes. -/
theorem putCal_taken (h : recordCheck f.key s = .ok k) (hb : f.bias ≤ 1000) (hc : f.cool ≤ 1000)
    (ht : -200 ≤ f.target ∧ f.target ≤ 200) {p : Nat} (hp : p = max 1000 (min 80000 f.peak)) :
    putCal f s =
      (s.setCt (s.ct.putRecord k ⟨.valid, some ⟨p, f.bias, f.cool, f.target, s.temperature, .host⟩⟩),
        { status := .ok, clamped := decide (p ≠ f.peak)
          body := calFieldBytes .valid ⟨p, f.bias, f.cool, f.target, s.temperature, .host⟩ }) := by
  subst hp
  have good : (decide (f.bias ≤ 1000) && decide (f.cool ≤ 1000) && inRangeInt (-200) 200 f.target) = true := by
    simp [hb, hc, inRangeInt_eq_true ht]
  simp only [putCal, h, if_pos good]
  rfl

end

theorem invalidateCal_refused {f : KeyFields} {s : State} {why : Status} (h : recordCheck f s = .error why) :
    invalidateCal f s = refuse why s := by
  rw [invalidateCal, h]

theorem invalidateCal_taken {f : KeyFields} {s : State} {k : CalKey} (h : recordCheck f s = .ok k) :
    invalidateCal f s =
      (s.setCt (s.ct.putRecord k CalRecord.blank), okBody (natBytes 1 (s.ct.record k).state.code)) := by
  rw [invalidateCal, h]

theorem Ct.record_putRecord_same (c : Ct) (k : CalKey) (r : CalRecord) : (c.putRecord k r).record k = r := by
  rw [Ct.record_putRecord, if_pos rfl]

theorem Ct.record_putRecord_other (c : Ct) {j k : CalKey} (r : CalRecord) (h : j ≠ k) :
    (c.putRecord k r).record j = c.record j := by
  rw [Ct.record_putRecord, if_neg h]

/-- Settles O19: both commands pass the four checks they share, and then write the record. -/
theorem recordsArePutAndInvalidated : Obligations.RecordsArePutAndInvalidated := by
  refine ⟨fun s f peak bias cool target put hs h0 h1 h2 h3 h4 h5 h6 h7 hput => ?_, fun s k hs hm hsurface => ?_⟩
  · subst hput
    have readPut := exec_putCal ⟨f, peak, bias, cool, target⟩ s h0 h1 h2 h3 h4 h5 h6 h7
    have readKey := exec_invalidateCal f s h0 h1 h2
    refine ⟨fun h => ⟨?_, ?_⟩, fun hm hd => ⟨fun bad => ⟨?_, ?_⟩, fun k hk hf => ⟨fun trial => ?_, fun free bad => ?_⟩⟩⟩
    · exact exec_refused readPut hs (by simp) (putCal_refused (recordCheck_wrongMode f _ h))
    · exact exec_refused readKey hs (by simp) (invalidateCal_refused (recordCheck_wrongMode f _ h))
    · exact exec_refused readPut hs (by simp) (putCal_refused (recordCheck_badValue f _ hm hd bad))
    · exact exec_refused readKey hs (by simp)
        (invalidateCal_refused (recordCheck_badValue f _ hm hd bad))
    · subst hf
      exact exec_refused readPut hs (by simp)
        (putCal_refused ((recordCheck_fields k _ hm hk).trans (if_pos trial)))
    · subst hf
      exact exec_refused readPut hs (by simp)
        (putCal_badValue ((recordCheck_fields k _ hm hk).trans (if_neg free)) bad)
  · have checks := recordCheck_fields k s hm hsurface
    have surface : k.surface.code < 256 := by have := k.surface.code_lt; omega
    have speed : k.speed.index.val < 256 := by omega
    have zone : k.zone.val < 256 := by omega
    refine ⟨fun peak bias cool target body h3 h4 h5 h6 h7 hbody => ?_, fun body hbody => ?_⟩
    · subst hbody
      have readPut := exec_putCal ⟨⟨k.surface.code, k.speed.index, k.zone⟩, peak, bias, cool, target⟩ s surface speed zone
        h3 (by dsimp only; omega) (by dsimp only; omega) (by dsimp only; omega) (by dsimp only; omega)
      refine ⟨fun free => ?_, fun trial => ?_⟩
      · refine ⟨_, exec_acts readPut hs (by simp) (putCal_taken (checks.trans (if_neg free)) h4 h5 ⟨h6, h7⟩ rfl) rfl,
          Ct.record_putRecord_same _ k _, fun j hj => Ct.record_putRecord_other _ _ hj, rfl, rfl⟩
      · exact exec_refused readPut hs (by simp) (putCal_refused (checks.trans (if_pos trial)))
    · subst hbody
      have readKey := exec_invalidateCal ⟨k.surface.code, k.speed.index, k.zone⟩ s surface speed zone
      refine ⟨fun free => ?_, fun trial => ?_⟩
      · refine ⟨_, exec_acts readKey hs (by simp) (invalidateCal_taken (checks.trans (if_neg free))) rfl,
          Ct.record_putRecord_same _ k _, fun j hj => Ct.record_putRecord_other _ _ hj, rfl, rfl⟩
      · exact exec_refused readKey hs (by simp) (invalidateCal_refused (checks.trans (if_pos trial)))

end Sys2Proof.Machine
end

section
/-! SUPPORT. The manual's rounding, and the zones of a surface (R1, R76), and obligation O21. -/

namespace Sys2Proof.Machine

theorem divRound_natCast (a b : Nat) : divRound a b = (divRoundNat a b : Nat) := by
  simp [divRound, divRoundNat]

/-- A quotient rounded from between 0 and m lies between 0 and m. -/
theorem divRound_between {a b m : Int} (hb : 0 < b) (h0 : 0 ≤ a) (hm : a ≤ m * b) :
    0 ≤ divRound a b ∧ divRound a b ≤ m := by
  rw [divRound, if_pos h0]
  refine ⟨Int.ediv_nonneg (by omega) (by omega), ?_⟩
  have below : (2 * a + b) / (2 * b) < m + 1 := Int.ediv_lt_of_lt_mul (by omega) (by nlinarith)
  omega

theorem divRound_neg (a b : Int) (hb : 0 < b) : divRound (-a) b = -divRound a b := by
  unfold divRound
  rcases lt_trichotomy a 0 with neg | rfl | pos
  · rw [if_pos (by omega), if_neg (by omega), neg_neg]
  · have half : b / (2 * b) = 0 := Int.ediv_eq_zero_of_lt (by omega) (by omega)
    simp [half]
  · rw [if_neg (by omega), if_pos (by omega), neg_neg]

/-- A point on the line from p to q lies between them. -/
theorem line_between {p q num den : Int} (hd : 0 < den) (h0 : 0 ≤ num) (h1 : num ≤ den) :
    min p q ≤ p + divRound ((q - p) * num) den ∧ p + divRound ((q - p) * num) den ≤ max p q := by
  rcases le_total p q with up | down
  · have := divRound_between (a := (q - p) * num) (m := q - p) hd (by nlinarith) (by nlinarith)
    omega
  · have back := divRound_neg ((p - q) * num) den hd
    rw [← neg_mul, neg_sub] at back
    have := divRound_between (a := (p - q) * num) (m := p - q) hd (by nlinarith) (by nlinarith)
    omega

/-! ### Zones -/

/-- What a search finds in a list in falling order is the greatest. -/
theorem le_of_find?_of_pairwise {n : Nat} {p : Fin n → Bool} {l : List (Fin n)} {x : Fin n} (hl : l.Pairwise (· > ·))
    (h : l.find? p = some x) : ∀ y ∈ l, p y = true → y ≤ x := by
  induction l with
  | nil => simp at h
  | cons a rest ih =>
    obtain ⟨greatest, ordered⟩ := List.pairwise_cons.1 hl
    intro y hy hp
    rw [List.find?_cons] at h
    split at h
    · obtain rfl := Option.some.inj h
      rcases List.mem_cons.1 hy with rfl | hy
      · exact le_rfl
      · exact (greatest y hy).le
    · next ha =>
      rcases List.mem_cons.1 hy with rfl | hy
      · exact absurd hp (by simp [ha])
      · exact ih ordered h y hy hp

/-- Every zone but zone 0 is searched. -/
theorem mem_searched (y : Fin 8) : y ∈ ([7, 6, 5, 4, 3, 2, 1] : List (Fin 8)) ∨ y = 0 := by
  fin_cases y <;> decide

/-- R76: the zone of a block is the last whose start is at most the block. -/
theorem zoneOf_spec (z : Eight Nat) (a : Nat) (h0 : z.t0 = 0) :
    z.get (zoneOf z a) ≤ a ∧ ∀ y : Fin 8, z.get y ≤ a → y ≤ zoneOf z a := by
  unfold zoneOf
  cases found : ([7, 6, 5, 4, 3, 2, 1] : List (Fin 8)).find? (fun y => decide (z.get y ≤ a)) with
  | none =>
    refine ⟨by simp [Eight.get, h0], fun y hy => ?_⟩
    rcases mem_searched y with hm | rfl
    · exact absurd hy (by simpa using List.find?_eq_none.1 found y hm)
    · exact le_rfl
  | some x =>
    have falling : ([7, 6, 5, 4, 3, 2, 1] : List (Fin 8)).Pairwise (· > ·) := by decide
    have holds : decide (z.get x ≤ a) = true := List.find?_some (p := fun y => decide (z.get y ≤ a)) found
    refine ⟨of_decide_eq_true holds, fun y hy => ?_⟩
    rcases mem_searched y with hm | rfl
    · exact le_of_find?_of_pairwise falling found y hm (decide_eq_true hy)
    · exact Fin.zero_le _

theorem zoneEnd_succ (z : Eight Nat) (n : Nat) {x y : Fin 8} (h : x.val + 1 = y.val) : zoneEnd z n x = z.get y := by
  have within : x.val + 1 < 8 := by omega
  rw [zoneEnd, dif_pos within]
  exact congrArg z.get (Fin.ext h)

section
variable {z : Eight Nat} {n : Nat}

/-- R77: good starts ascend. -/
theorem starts_strictMono (h : startsGood z n = true) : StrictMono z.get := by
  obtain ⟨-, ascends, -⟩ := (startsGood_iff z n).1 h
  exact Fin.strictMono_iff_lt_succ.2 fun i => ascends _ _ (by simp)

theorem start_lt_zoneEnd (h : startsGood z n = true) (x : Fin 8) : z.get x < zoneEnd z n x := by
  obtain ⟨-, ascends, within⟩ := (startsGood_iff z n).1 h
  by_cases last : x = 7
  · subst last
    exact within
  · have next : x.val + 1 < 8 := by omega
    rw [zoneEnd_succ z n (y := ⟨x.val + 1, next⟩) rfl]
    exact ascends x _ rfl

/-- R76: the centre of a zone lies in it or at its end. -/
theorem start_le_centre (h : startsGood z n = true) (x : Fin 8) :
    z.get x ≤ zoneCentre z n x ∧ zoneCentre z n x ≤ zoneEnd z n x := by
  have := start_lt_zoneEnd h x
  unfold zoneCentre divRoundNat
  omega

theorem centre_lt_centre (h : startsGood z n = true) {x y : Fin 8} (hxy : x.val + 1 = y.val) :
    zoneCentre z n x < zoneCentre z n y := by
  have first := start_lt_zoneEnd h x
  have second := start_lt_zoneEnd h y
  rw [zoneEnd_succ z n hxy] at first
  unfold zoneCentre divRoundNat
  rw [zoneEnd_succ z n hxy]
  omega

/-- R76: a block on the surface lies below the end of its zone. -/
theorem lt_zoneEnd_zoneOf (h : startsGood z n = true) {a : Nat} (ha : a < n) : a < zoneEnd z n (zoneOf z a) := by
  obtain ⟨-, greatest⟩ := zoneOf_spec z a ((startsGood_iff z n).1 h).1
  by_cases last : (zoneOf z a).val + 1 < 8
  · rw [zoneEnd_succ z n (y := ⟨_, last⟩) rfl]
    by_contra beyond
    have := greatest ⟨_, last⟩ (by omega)
    exact absurd this (by simp [Fin.le_def])
  · rw [zoneEnd, dif_neg last]
    exact ha

end

/-- Settles O21. -/
theorem everyBlockLiesInOneZone : Obligations.EveryBlockLiesInOneZone := by
  intro z n a good ha
  obtain ⟨above, greatest⟩ := zoneOf_spec z a ((startsGood_iff z n).1 good).1
  refine ⟨above, lt_zoneEnd_zoneOf good ha, fun y low high => ?_, fun x y hxy => centre_lt_centre good hxy⟩
  by_contra other
  have below : y.val < (zoneOf z a).val := lt_of_le_of_ne (greatest y low) fun k => other (Fin.ext k)
  have next : y.val + 1 < 8 := by omega
  rw [zoneEnd_succ z n (y := ⟨_, next⟩) rfl] at high
  have := (starts_strictMono good).monotone (show (⟨_, next⟩ : Fin 8) ≤ zoneOf z a from below)
  omega

end Sys2Proof.Machine
end

section
/-! SUPPORT. Power requests (R84 to R86), and obligation O22. -/

namespace Sys2Proof.Machine

theorem neighbour_eq_some_iff (z y : Fin 8) (below : Bool) :
    neighbour z below = some y ↔ (below = true ∧ y.val + 1 = z.val) ∨ (below = false ∧ y.val = z.val + 1) := by
  have := y.isLt
  cases below
  · simp only [neighbour, Bool.false_eq_true, if_false]
    split
    · simp [Fin.ext_iff, eq_comm]
    · simp
      omega
  · simp only [neighbour, if_true]
    split
    · simp [Fin.ext_iff]
      omega
    · simp
      omega

theorem neighbour_eq_none_iff (z : Fin 8) (below : Bool) :
    neighbour z below = none ↔ (below = true ∧ z = 0) ∨ (below = false ∧ z = 7) := by
  cases below
  · revert z
    decide
  · revert z
    decide

/-- R86: between two centres the interpolated peak lies on the line between the two peaks, and so between them. -/
theorem interpolate_spec (lo pLo hi pHi a : Nat) (h : lo < hi) (h0 : lo ≤ a) (h1 : a ≤ hi) :
    (interpolate lo pLo hi pHi a : Int) = pLo + divRound (((pHi : Int) - pLo) * ((a : Int) - lo)) ((hi : Int) - lo) ∧
      min pLo pHi ≤ interpolate lo pLo hi pHi a ∧ interpolate lo pLo hi pHi a ≤ max pLo pHi := by
  have between := line_between (p := pLo) (q := pHi) (num := (a : Int) - lo) (den := (hi : Int) - lo) (by omega) (by omega)
    (by omega)
  unfold interpolate
  omega

section
variable {c : Ct} {v : Speed} {f : Surface} {a : Nat} {starts : Eight Nat}

theorem Ct.powerFor_noZones (h : c.zones.get f = none) : c.powerFor v f a = none := by
  rw [Ct.powerFor, h]

variable (hz : c.zones.get f = some starts)
include hz

theorem Ct.powerFor_unusable
    (h : (c.record { surface := f, speed := v, zone := zoneOf starts a }).usable = none) : c.powerFor v f a = none := by
  simp only [Ct.powerFor, hz, h]

variable {r : CalFields} {below : Bool}
  (own : (c.record { surface := f, speed := v, zone := zoneOf starts a }).usable = some r)
  (side : below = decide (a < zoneCentre starts c.blocks (zoneOf starts a)))
include own side

/-- R85: without a neighbour zone the peak is that of the own record. -/
theorem Ct.powerFor_flat (h : neighbour (zoneOf starts a) below = none) :
    c.powerFor v f a = some { peak := r.peak, bias := r.bias, cool := r.cool, zone := zoneOf starts a
                              state := (c.record { surface := f, speed := v, zone := zoneOf starts a }).state } := by
  subst side
  simp only [Ct.powerFor, hz, own, h]

variable {y : Fin 8} (beside : neighbour (zoneOf starts a) below = some y)
include beside

/-- R86: nor is there a line to an unusable neighbour. -/
theorem Ct.powerFor_alone (h : (c.record { surface := f, speed := v, zone := y }).usable = none) :
    c.powerFor v f a = some { peak := r.peak, bias := r.bias, cool := r.cool, zone := zoneOf starts a
                              state := (c.record { surface := f, speed := v, zone := zoneOf starts a }).state } := by
  subst side
  simp only [Ct.powerFor, hz, own, beside, h]

/-- R86: the line between the two centres. -/
theorem Ct.powerFor_line {q : CalFields} (h : (c.record { surface := f, speed := v, zone := y }).usable = some q) :
    c.powerFor v f a = some
      { peak :=
          if below then
            interpolate (zoneCentre starts c.blocks y) q.peak (zoneCentre starts c.blocks (zoneOf starts a)) r.peak a
          else interpolate (zoneCentre starts c.blocks (zoneOf starts a)) r.peak (zoneCentre starts c.blocks y) q.peak a
        bias := r.bias, cool := r.cool, zone := zoneOf starts a
        state := (c.record { surface := f, speed := v, zone := zoneOf starts a }).state } := by
  subst side
  simp only [Ct.powerFor, hz, own, beside, h]

end

/-- R85: a block lies between its zone's centre and that of its neighbour. -/
theorem block_between_centres {z : Eight Nat} {n a : Nat} (good : startsGood z n = true) (ha : a < n) {y : Fin 8} :
    (y.val + 1 = (zoneOf z a).val → a < zoneCentre z n (zoneOf z a) →
      zoneCentre z n y < zoneCentre z n (zoneOf z a) ∧ zoneCentre z n y ≤ a) ∧
    (y.val = (zoneOf z a).val + 1 → zoneCentre z n (zoneOf z a) < zoneCentre z n y ∧ a ≤ zoneCentre z n y) := by
  obtain ⟨above, -⟩ := zoneOf_spec z a ((startsGood_iff z n).1 good).1
  have below := lt_zoneEnd_zoneOf good ha
  refine ⟨fun hy _ => ⟨centre_lt_centre good hy, ?_⟩, fun hy => ⟨centre_lt_centre good hy.symm, ?_⟩⟩
  · have := (start_le_centre good y).2
    rw [zoneEnd_succ z n hy] at this
    omega
  · have := (start_le_centre good y).1
    rw [zoneEnd_succ z n hy.symm] at below
    omega

/-- Settles O22, by the side of the block and what lies there. -/
theorem powerRequestInterpolates : Obligations.PowerRequestInterpolates := by
  refine ⟨fun c v f a h => Ct.powerFor_noZones h, fun c v f starts a hz good ha => ⟨fun h => Ct.powerFor_unusable hz h,
    fun r below own side => ?_⟩⟩
  cases beside : neighbour (zoneOf starts a) below with
  | none =>
    refine ⟨_, Ct.powerFor_flat hz own side beside, rfl, rfl, rfl, rfl, fun _ => rfl, fun y hy => ?_⟩
    exact absurd (beside.symm.trans ((neighbour_eq_some_iff _ y below).2 hy)) (by simp)
  | some y =>
    have notEdge : ¬ ((below = true ∧ zoneOf starts a = 0) ∨ (below = false ∧ zoneOf starts a = 7)) := fun k =>
      absurd (beside.symm.trans ((neighbour_eq_none_iff _ below).2 k)) (by simp)
    have only : ∀ x : Fin 8, (below = true ∧ x.val + 1 = (zoneOf starts a).val) ∨
        (below = false ∧ x.val = (zoneOf starts a).val + 1) → x = y := fun x hx =>
      (Option.some.inj (beside.symm.trans ((neighbour_eq_some_iff _ x below).2 hx))).symm
    cases other : (c.record { surface := f, speed := v, zone := y }).usable with
    | none =>
      refine ⟨_, Ct.powerFor_alone hz own side beside other, rfl, rfl, rfl, rfl, fun _ => rfl, fun x hx => ?_⟩
      obtain rfl := only x hx
      exact ⟨fun _ => rfl, fun q hq => absurd (other.symm.trans hq) (by simp)⟩
    | some q =>
      refine ⟨_, Ct.powerFor_line hz own side beside other, rfl, rfl, rfl, rfl, fun k => absurd k notEdge, fun x hx => ?_⟩
      obtain rfl := only x hx
      refine ⟨fun h => absurd (other.symm.trans h) (by simp), fun q' hq' => ?_⟩
      obtain rfl := Option.some.inj (other.symm.trans hq')
      obtain ⟨whenBelow, whenAbove⟩ := block_between_centres good ha (y := x)
      rcases hx with ⟨rfl, hx⟩ | ⟨rfl, hx⟩
      · have lies : a < zoneCentre starts c.blocks (zoneOf starts a) := of_decide_eq_true side.symm
        obtain ⟨apart, low⟩ := whenBelow hx lies
        obtain ⟨line, least, most⟩ := interpolate_spec _ q.peak _ r.peak a apart low lies.le
        simp only [if_true, Bool.true_eq_false, false_imp_iff, true_imp_iff, line, and_true]
        omega
      · have lies : ¬ a < zoneCentre starts c.blocks (zoneOf starts a) := of_decide_eq_false side.symm
        obtain ⟨apart, high⟩ := whenAbove hx
        obtain ⟨line, least, most⟩ := interpolate_spec _ r.peak _ q.peak a apart (not_lt.1 lies) high
        simp only [Bool.false_eq_true, if_false, false_imp_iff, true_imp_iff, line, and_true]
        omega

end Sys2Proof.Machine
end

section
/-! SUPPORT. The steps of a trial and their fit (R104 to R106), and obligation O28. -/

namespace Sys2Proof.Machine

theorem TrialStep.close_invalid (g : TrialStep)
    (h : g.rtop.count = 0 ∨ g.rbot.count = 0 ∨ g.rsum.count = 0 ∨ (g.rtop.mean : Int) - g.rbot.mean < 64) :
    g.close = { g with result := .invalid } := by
  simp only [TrialStep.close]
  split
  · rfl
  · next counted => rw [if_pos (by tauto)]

theorem TrialStep.close_beta (g : TrialStep) (ht : 0 < g.rtop.count) (hb : 0 < g.rbot.count) (hs : 0 < g.rsum.count)
    (h : 64 ≤ (g.rtop.mean : Int) - g.rbot.mean) :
    g.close = { g with
      result := .beta (clampInt (-32768) 32767
        (divRound (1000 * ((g.rtop.mean : Int) + g.rbot.mean - 2 * g.rsum.mean)) ((g.rtop.mean : Int) - g.rbot.mean))) } := by
  have counted : ¬ (g.rtop.count = 0 ∨ g.rbot.count = 0 ∨ g.rsum.count = 0) := by omega
  simp only [TrialStep.close, if_neg counted, if_neg (not_lt.2 h)]

theorem noRise_tail {target : Int} {x : Nat × Int} {l : List (Nat × Int)} (h : NoRise target (x :: l)) :
    NoRise target l := fun before y z after e => h (x :: before) y z after (by simp [e])

/-- R106: without a rise there is no crossing. -/
theorem firstCrossing_none (target : Int) (l : List (Nat × Int)) (h : NoRise target l) :
    firstCrossing target l = none := by
  induction l with
  | nil => rfl
  | cons x rest ih =>
    cases rest with
    | nil => rfl
    | cons y rest => rw [firstCrossing, if_neg (h [] x y rest rfl), ih (noRise_tail h)]

/-- R106: the first rise across the target is the crossing. -/
theorem firstCrossing_some (target : Int) (before after : List (Nat × Int)) (pj pk : Nat) (bj bk : Int)
    (h : NoRise target (before ++ [(pj, bj)])) (hj : bj < target) (hk : target ≤ bk) :
    firstCrossing target (before ++ (pj, bj) :: (pk, bk) :: after) = some (fitted target pj bj pk bk) := by
  induction before with
  | nil => rw [List.nil_append, firstCrossing, if_pos ⟨hj, hk⟩]
  | cons x rest ih =>
    cases rest with
    | nil => exact (if_neg (h [] x (pj, bj) [] rfl)).trans (ih (noRise_tail h))
    | cons y rest => exact (if_neg (h [] x y (rest ++ [(pj, bj)]) rfl)).trans (ih (noRise_tail h))

/-- R106: the fitted power lies on the line between the two steps, from the one to the other. -/
theorem fitted_spec (target : Int) (pj pk : Nat) (bj bk : Int) (hj : bj < target) (hk : target ≤ bk) (hp : pj ≤ pk) :
    (fitted target pj bj pk bk : Int) = pj + divRound (((pk : Int) - pj) * (target - bj)) (bk - bj) ∧
      pj ≤ fitted target pj bj pk bk ∧ fitted target pj bj pk bk ≤ pk := by
  have between := line_between (p := pj) (q := pk) (num := target - bj) (den := bk - bj) (by omega) (by omega) (by omega)
  unfold fitted
  omega

theorem fit_crossing {target : Int} {l : List (Nat × Int)} {p : Nat} (h : firstCrossing target l = some p) :
    fit target l = (.set, some p) := by
  rw [fit, h]

/-- R106: without a crossing the outcome goes by the three conditions that are left. -/
theorem fit_noCrossing {target : Int} {l : List (Nat × Int)} (h : firstCrossing target l = none) :
    fit target l =
      (if l.length < 2 then .weakSignal
        else if ∀ x ∈ l, x.2 < target then .notReached
        else if ∀ x ∈ l, target ≤ x.2 then .overshot
        else .notReached, none) := by
  simp only [fit, h, List.all_eq_true, decide_eq_true_eq]
  (repeat' split) <;> rfl

/-- Settles O28. -/
theorem stepsAreClosedAndFitted : Obligations.StepsAreClosedAndFitted := by
  refine ⟨fun g => ⟨fun h => TrialStep.close_invalid g (by tauto), fun ht hb hs h l m hh hl hm => ?_⟩, fun target => ⟨?_, ?_⟩⟩
  · rw [divRound_natCast] at hh hl hm
    subst hh hl hm
    exact ⟨fun weak => TrialStep.close_invalid g (.inr (.inr (.inr weak))), fun strong =>
      TrialStep.close_beta g ht hb hs strong⟩
  · intro before after pj pk bj bk noRise hj hk hp
    obtain ⟨line, low, high⟩ := fitted_spec target pj pk bj bk hj hk hp
    exact ⟨_, fit_crossing (firstCrossing_some target before after pj pk bj bk noRise hj hk), low, high, line⟩
  · intro l noRise
    have outcome := fit_noCrossing (firstCrossing_none target l noRise)
    refine ⟨fun few => ?_, fun many below => ?_, fun many above => ?_, fun many low high => ?_⟩
    · rw [outcome, if_pos few]
    · rw [outcome, if_neg (not_lt.2 many), if_pos below]
    · obtain ⟨x, hx⟩ := List.exists_mem_of_length_pos (show 0 < l.length by omega)
      have notBelow : ¬ ∀ x ∈ l, x.2 < target := fun k => absurd (k x hx) (not_lt.2 (above x hx))
      rw [outcome, if_neg (not_lt.2 many), if_neg notBelow, if_pos above]
    · obtain ⟨x, hx, falls⟩ := low
      obtain ⟨y, hy, reaches⟩ := high
      have notBelow : ¬ ∀ x ∈ l, x.2 < target := fun k => absurd (k y hy) (not_lt.2 reaches)
      have notAbove : ¬ ∀ x ∈ l, target ≤ x.2 := fun k => absurd (k x hx) (not_le.2 falls)
      rw [outcome, if_neg (not_lt.2 many), if_neg notBelow, if_neg notAbove]

end Sys2Proof.Machine
end

section
/-! SUPPORT. The running correction (R150, R151), and obligation O40. -/

namespace Sys2Proof.Machine

theorem returnLevel_none (x : Tally) (h : x.count = 0 ∨ divRoundNat x.sum x.count = 0) : returnLevel x = none := by
  simp only [returnLevel]
  split
  · rfl
  · next counted => rw [if_pos (by tauto)]

theorem returnLevel_some (x : Tally) (h : x.count ≠ 0) (hw : divRoundNat x.sum x.count ≠ 0) :
    returnLevel x = some (divRoundNat x.sum x.count) := by
  simp only [returnLevel, if_neg h, if_neg hw]

theorem rpcUpdate_quiet (s : State)
    (h : s.wgc.rpcOn = false ∨ s.mc.mode ≠ .record ∨ returnLevel s.wgc.returns = none) : rpcUpdate s = s := by
  unfold rpcUpdate
  split
  · rfl
  · next on =>
    have none : returnLevel s.wgc.returns = none := by tauto
    rw [none]

section
variable {s : State} {w : Nat} (on : s.wgc.rpcOn = true) (mode : s.mc.mode = .record)
  (level : returnLevel s.wgc.returns = some w)
include on mode level

/-- R151: the first return level becomes the reference. -/
theorem rpcUpdate_first (h : s.wgc.wRef = none) : rpcUpdate s = s.setWgc { s.wgc with wRef := some w } := by
  have runs : ¬ (s.wgc.rpcOn = false ∨ s.mc.mode ≠ .record) := by simp [on, mode]
  simp only [rpcUpdate, if_neg runs, level, h]

/-- R151: the correction's step, held to its range; the head remembers the largest deviation and the first clamp. -/
theorem rpcUpdate_steps {g : Segment} {rest : List Segment} {ref : Nat} {d c : Int} (hq : s.wgc.queue = g :: rest)
    (h : s.wgc.wRef = some ref) (hd : d = deviation w ref)
    (hc : c = steppedCorrection s.wgc.correction s.wgc.deadband s.wgc.rpcStep d) :
    rpcUpdate s =
      (s.setWgc { s.wgc with
        correction := (clampInt 850 1150 c).toNat
        queue := { g with
          largest := max g.largest d.natAbs
          limitMark := g.limitMark || decide (clampInt 850 1150 c ≠ c) } :: rest }).setEu
        (if decide (clampInt 850 1150 c ≠ c) && !g.limitMark then s.eu.trigger .rpcLimit else s.eu) := by
  subst hd hc
  have runs : ¬ (s.wgc.rpcOn = false ∨ s.mc.mode ≠ .record) := by simp [on, mode]
  simp only [rpcUpdate, if_neg runs, level, h, Wgc.mapHead, hq]

end

theorem clampInt_ne_iff {lo hi c : Int} (h : lo ≤ hi) : clampInt lo hi c ≠ c ↔ c < lo ∨ hi < c := by
  unfold clampInt
  omega

/-- Settles O40. -/
theorem runningCorrectionFollowsTheReturn : Obligations.RunningCorrectionFollowsTheReturn := by
  refine ⟨fun x => ⟨fun h => returnLevel_none x (.inl h), fun counted w hw => ?_⟩, fun s g rest hq =>
    ⟨rpcUpdate_quiet s, fun w on mode level => ⟨rpcUpdate_first on mode level, fun ref d c href hd hc => ?_⟩⟩⟩
  · rw [divRound_natCast] at hw
    obtain rfl := Int.ofNat.inj hw
    exact ⟨fun zero => returnLevel_none x (.inr zero), fun pos => returnLevel_some x (by omega) (by omega)⟩
  · have clamped := clampInt_ne_iff (lo := 850) (hi := 1150) (c := c) (by decide)
    rw [rpcUpdate_steps on mode level hq href hd hc]
    refine ⟨?_, href, ⟨_, rfl, rfl, ?_, rfl, rfl⟩, fun out unmarked => ?_⟩
    · simp only [State.setEu_wgc, State.setWgc_wgc]
      have : 0 ≤ clampInt 850 1150 c := by unfold clampInt; omega
      omega
    · rw [decide_eq_decide.2 clamped]
    · simp only [State.setEu_eu, decide_eq_true (clamped.2 out), unmarked]
      rfl

end Sys2Proof.Machine
end

section
/-! SUPPORT. SET_SPEED and PUT_STRATEGY (R116, R117), and obligation O29. -/

namespace Sys2Proof.Machine

theorem setSpeed_badValue (n : Nat) (s : State) (h : 4 ≤ n) : setSpeed n s = refuse .badValue s := by
  rw [setSpeed, nameAt_eq_none Speed.all n h]

theorem setSpeed_busy (v : Speed) (s : State) (h : s.wgc.queue ≠ [] ∨ s.tcu.trial ≠ none) :
    setSpeed v.index s = refuse .busy s := by
  simp only [setSpeed, nameAt_speed, if_pos h]

theorem setSpeed_taken (v : Speed) (s : State) (hq : s.wgc.queue = []) (ht : s.tcu.trial = none) :
    setSpeed v.index s =
      (s.setWsg { s.wsg with speed := v }, okBody (speedByte v ++ flagByte (s.wsg.complete v))) := by
  have free : ¬ (s.wgc.queue ≠ [] ∨ s.tcu.trial ≠ none) := by simp [hq, ht]
  simp only [setSpeed, nameAt_speed, if_neg free]

theorem leadBound_eq (m : MarkClass) : leadBound m = if m = .m2 then 32 else 16 := by cases m <;> rfl

/-- R117: the lead pulse keeps its least width, and ends within the bound of its class. -/
theorem validate_lead (m : MarkClass) (e : StrategyEntry) :
    4 ≤ (validate m e).leadWidth ∧ (validate m e).leadDelay + (validate m e).leadWidth ≤ leadBound m := by
  have bound : 16 ≤ leadBound m := by cases m <;> decide
  simp only [validate, clampEntry, clampInt]
  omega

/-- R117: no field is named exactly where the validation changed none. -/
theorem changedFields_eq_nil_iff (old new : StrategyEntry) : changedFields old new = [] ↔ new = old := by
  obtain ⟨d, w, m, t, c⟩ := old
  obtain ⟨d', w', m', t', c'⟩ := new
  rw [eq_comm (a := StrategyEntry.mk d' w' m' t' c')]
  simp [changedFields, StrategyEntry.fields, List.zipIdx, List.filter_eq_nil_iff]

theorem putStrategy_badValue (f : StrategyFields) (s : State) (h : 4 ≤ f.speed ∨ 4 ≤ f.mark) :
    putStrategy f s = refuse .badValue s := by
  unfold putStrategy
  split
  · next v m hv hm =>
    rcases h with speed | mark
    · exact absurd ((nameAt_eq_none Speed.all _ speed).symm.trans hv) (by simp)
    · exact absurd ((nameAt_eq_none MarkClass.all _ mark).symm.trans hm) (by simp)
  · rfl

/-- R117: the entry is loaded as validated. -/
theorem putStrategy_taken (v : Speed) (m : MarkClass) (e : StrategyEntry) (s : State) :
    putStrategy ⟨v.index, m.index, e⟩ s =
      (s.setWsg { s.wsg with
          entries := s.wsg.entries.put v.index ((s.wsg.entries.get v.index).put m.index (some (validate m e))) },
        { status := .ok, clamped := decide (validate m e ≠ e)
          body := (validate m e).bytes ++ nameListBytes (changedFields e (validate m e)) }) := by
  have clamped : (!(changedFields e (validate m e)).isEmpty) = decide (validate m e ≠ e) := by
    rw [Bool.eq_iff_iff]
    simp [changedFields_eq_nil_iff]
  simp only [putStrategy, nameAt_speed, nameAt_mark, clamped]

/-- Settles O29, by the owners' answers. -/
theorem speedAndStrategyAreSet : Obligations.SpeedAndStrategyAreSet := by
  refine ⟨fun s hs => ⟨fun v hq ht => ?_, fun v h => ?_, fun n hn h => ?_⟩, fun s f hs h0 h1 fits h => ?_,
    fun s v m e d w body hs fits hd hw hbody => ?_⟩
  · exact exec_acts (exec_setSpeed v.index s (by omega)) hs (by simp) (setSpeed_taken v _ hq ht) rfl
  · exact exec_refused (exec_setSpeed v.index s (by omega)) hs (by simp) (setSpeed_busy v _ h)
  · exact exec_refused (exec_setSpeed n s hn) hs (by simp) (setSpeed_badValue n _ h)
  · exact exec_refused (exec_putStrategy f s h0 h1 fits) hs (by simp) (putStrategy_badValue f _ h)
  · obtain ⟨width, ends⟩ := validate_lead m e
    rw [leadBound_eq] at ends
    have new : validate m e = ⟨d, w, clampInt 4 16 e.midWidth, clampInt 0 16 e.tailWidth, clampInt 0 40 e.coolWidth⟩ := by
      rw [hw, hd, ← leadBound_eq]
      rfl
    rw [new] at width ends
    subst hbody
    have acts := exec_acts (exec_putStrategy ⟨v.index, m.index, e⟩ s (by dsimp only; omega) (by dsimp only; omega) fits) hs
      (by simp) (putStrategy_taken v m e _) rfl
    rw [new] at acts
    exact ⟨_, rfl, width, ends, acts⟩

end Sys2Proof.Machine
end

section
/-! SUPPORT. SET_PROTECT (R161, R162), and obligation O42. -/

namespace Sys2Proof.Machine

theorem setProtect_wrongMode (f : ProtectFields) (s : State)
    (h : s.mc.mode = .configure ∨ s.mc.mode = .selftest ∨ s.mc.mode = .fault) : setProtect f s = refuse .wrongMode s := by
  unfold setProtect
  rcases h with mode | mode | mode <;> simp [mode, Mode.takesMaps]

theorem Mode.takesMaps_of {m : Mode} (h : m = .standby ∨ m = .read ∨ m = .record) : Mode.takesMaps m = true := by
  rcases h with rfl | rfl | rfl <;> rfl

theorem mapOf_none (f : ProtectFields) (h : 2 ≤ f.surface ∨ 8 ≤ f.code ∨ 2 ≤ f.side ∨ 2 ≤ f.complement) :
    mapOf f = none := by
  unfold mapOf
  split
  · next g side c hg hside hc =>
    rcases h with surface | code | sideByte | complement
    · exact absurd ((nameAt_eq_none Surface.all _ surface).symm.trans hg) (by simp)
    · rw [if_neg (by omega)]
    · exact absurd ((nameAt_eq_none Side.all _ sideByte).symm.trans hside) (by simp)
    · exact absurd ((flagOf_none _ complement).symm.trans hc) (by simp)
  · rfl

theorem mapOf_fields (g : Surface) (c : Nat) (side : Side) (on : Bool) (h : c ≤ 7) :
    mapOf ⟨g.code, c, side.code, on.toNat⟩ = some (g, { code := c, side := side, complement := on }) := by
  simp only [mapOf, nameAt_surface, nameAt_side, flagOf_toNat, if_pos h]

theorem setProtect_badValue (f : ProtectFields) (s : State)
    (hm : s.mc.mode = .standby ∨ s.mc.mode = .read ∨ s.mc.mode = .record)
    (h : 2 ≤ f.surface ∨ 8 ≤ f.code ∨ 2 ≤ f.side ∨ 2 ≤ f.complement) : setProtect f s = refuse .badValue s := by
  simp only [setProtect, Mode.takesMaps_of hm, mapOf_none f h, Bool.true_eq_false, if_false]

/-- R162: the locks under which no map changes. -/
theorem Pu.permitsChange_iff (p : Pu) :
    p.permitsChange = true ↔ p.lock = .opened ∨ (p.lock = .line ∧ p.sense = .released) := by
  cases h : p.lock <;> simp [Pu.permitsChange, h]

section
variable {f : ProtectFields} {g : Surface} {m : ProtMap} {s : State}
  (mode : s.mc.mode = .standby ∨ s.mc.mode = .read ∨ s.mc.mode = .record) (read : mapOf f = some (g, m))
include mode read

theorem setProtect_locked (h : ¬ s.pu.permitsChange = true) : setProtect f s = refuse .locked s := by
  simp only [setProtect, Mode.takesMaps_of mode, read, Bool.true_eq_false, if_false, Bool.not_eq_true _ ▸ h, if_true]

theorem setProtect_busy (h : s.pu.permitsChange = true) (hg : s.wgc.gate ≠ .idle) :
    setProtect f s = refuse .busy s := by
  simp only [setProtect, Mode.takesMaps_of mode, read, Bool.true_eq_false, if_false, h, if_pos hg]

/-- R161: the map of the surface is replaced, and the reply carries it and its range. -/
theorem setProtect_taken (h : s.pu.permitsChange = true) (hg : s.wgc.gate = .idle) :
    setProtect f s =
      (s.setPu { s.pu with maps := s.pu.maps.put g m },
        okBody (surfaceByte g ++ mapBytes m ++
          rangeBytes (if s.ct.hasSurface g then m.rangeOn s.ct.blocks else .absent))) := by
  simp [setProtect, Mode.takesMaps_of mode, read, h, hg, State.protRange]

end

/-- Settles O42, by the owner's answer. -/
theorem setProtectReplacesTheMap : Obligations.SetProtectReplacesTheMap := by
  refine ⟨fun s f hs h0 h1 h2 h3 hm bad => ?_, fun s g c side on body m hs hc hbody hmap => ?_⟩
  · exact exec_refused (exec_setProtect f s h0 h1 h2 h3) hs (by simp) (setProtect_badValue f _ hm bad)
  · have surface : g.code < 256 := by have := g.code_lt; omega
    have sideByte : side.code < 256 := by cases side <;> decide
    have flag : on.toNat < 256 := by cases on <;> decide
    have acts := exec_setProtect ⟨g.code, c, side.code, on.toNat⟩ s surface (by dsimp only; omega) sideByte flag
    have read := mapOf_fields g c side on hc
    subst hbody hmap
    refine ⟨fun h => ?_, fun hm => ⟨fun h => ?_, fun h => ?_⟩⟩
    · exact exec_refused acts hs (by simp) (setProtect_wrongMode _ _ h)
    · have locked : ¬ s.pu.permitsChange = true := by
        rw [Pu.permitsChange_iff]
        rcases h with lock | lock | ⟨lock, sense⟩
        · simp [lock]
        · simp [lock]
        · simp [lock, sense]
      exact exec_refused acts hs (by simp) (setProtect_locked hm read locked)
    · have permits := (Pu.permitsChange_iff s.pu).2 h
      exact ⟨fun gate => exec_refused acts hs (by simp) (setProtect_busy hm read permits gate), fun gate =>
        exec_acts acts hs (by simp) (setProtect_taken hm read permits gate) rfl⟩

end Sys2Proof.Machine
end

section
/-! SUPPORT. Notices that wait for one another join in the order they were generated; what joins and what is dropped
(R177, R178), and obligation O46. -/

namespace Sys2Proof.Machine

/-- Nothing is ready where all wait for one ahead. -/
theorem readyPlaces_held (before l : List Posted) (h : ∀ y ∈ l, before.any y.waitsFor = true) :
    readyPlaces before l = [] := by
  induction l generalizing before with
  | nil => rfl
  | cons y rest ih =>
    rw [readyPlaces, if_pos (h y (by simp))]
    refine ih _ fun z hz => ?_
    rw [List.any_append, h z (by simp [hz]), Bool.true_or]

/-- A joining notice takes no heed of the outbox. -/
theorem Eu.join_outbox (u : Eu) (o : List Posted) (depth : Nat) (n : Notice) :
    ({ u with outbox := o } : Eu).join depth n = { u.join depth n with outbox := o } := by
  unfold Eu.join
  dsimp only
  split
  · rfl
  · unfold Eu.drop
    dsimp only [Eu.countDrop]
    split
    · rfl
    · split <;> rfl

/-- R177: where each of the step's notices waits for those before it, they join in the order they were generated. -/
theorem Eu.drain_chain (depth : Nat) : ∀ (k : Nat) (u : Eu) (free : Nat), u.outbox.length ≤ k →
    u.outbox.Pairwise (fun x y => y.waitsFor x = true) →
      Eu.drain k depth u free =
        ((u.outbox.map Posted.notice).foldl (fun v n => v.join depth n) { u with outbox := [] }, free) := by
  intro k
  induction k with
  | zero =>
    intro u free h _
    have none : u.outbox = [] := List.length_eq_zero_iff.1 (by omega)
    rw [Eu.drain, none, List.map_nil, List.foldl_nil, ← none]
  | succ k ih =>
    intro u free h chain
    cases ho : u.outbox with
    | nil => rw [Eu.drain_nil _ _ _ _ ho, List.map_nil, List.foldl_nil, ← ho]
    | cons x rest =>
      rw [ho] at chain h
      obtain ⟨first, chain⟩ := List.pairwise_cons.1 chain
      have alone : readyPlaces [] u.outbox = [0] := by
        rw [ho, readyPlaces, readyPlaces_held _ rest fun y hy => by simp [first y hy]]
        rfl
      have taken : u.release depth 0 = { u.join depth x.notice with outbox := rest } := by
        simp [Eu.release, ho, Eu.join_outbox]
      rw [Eu.drain, alone]
      dsimp only
      rw [taken, ih _ _ (by simpa using h) chain]
      rw [List.map_cons, List.foldl_cons, Eu.join_outbox u []]

/-- R177: the end of a step whose notices wait for one another. -/
theorem finish_chain (s : State) (h : s.eu.outbox.Pairwise (fun x y => y.waitsFor x = true)) :
    finish s = s.setEu
      ((s.eu.outbox.map Posted.notice).foldl (fun v n => v.join s.mc.noticeDepth n) { s.eu with outbox := [] }) := by
  unfold finish
  rw [Eu.drain_chain _ _ _ _ le_rfl h]
  rfl

/-- With room all of them join. -/
theorem Eu.join_all_room (depth : Nat) (l : List Notice) (u : Eu) (h : u.notices.length + l.length ≤ depth) :
    l.foldl (fun v n => v.join depth n) u = { u with notices := u.notices ++ l } := by
  induction l generalizing u with
  | nil => simp
  | cons n rest ih =>
    rw [List.foldl_cons, Eu.join_room u depth n (by simp at h; omega), ih _ (by simp at h ⊢; omega)]
    simp

/-- R177: with room the step's notices join in the order they were generated, where each waits for those before. -/
theorem finish_chain_room (s : State) (h : s.eu.outbox.Pairwise (fun x y => y.waitsFor x = true))
    (room : s.eu.notices.length + s.eu.outbox.length ≤ s.mc.noticeDepth) :
    finish s = s.setEu { s.eu with notices := s.eu.notices ++ s.eu.outbox.map Posted.notice, outbox := [] } := by
  rw [finish_chain s h, Eu.join_all_room _ _ _ (by simpa using room)]

theorem Posted.waitsFor_of {x y : Posted} (h : y.poster = x.poster ∨ x.poster ∈ y.after) : y.waitsFor x = true := by
  simp only [Posted.waitsFor, Bool.or_eq_true, decide_eq_true_eq, List.contains_iff_mem]
  exact h.imp_left Eq.symm

theorem PerEvent.put_get {α : Type} (t : PerEvent α) (e : Event) (x : α) (h : t.get e = x) : t.put e x = t := by
  subst h
  cases e <;> rfl

/-- R178: a notice that finds the queue full is counted, and NOTICE_OVERFLOW is latched. -/
theorem Eu.join_full (u : Eu) (depth : Nat) (n : Notice) (h : depth ≤ u.notices.length)
    (quiet : u.latches.get .noticeOverflow = true ∨ u.unmasked.get .noticeOverflow = false) :
    u.join depth n = { u with
      dropped := min 255 (u.dropped + 1), latches := u.latches.put .noticeOverflow true } := by
  rw [Eu.join, if_neg (not_lt.2 h)]
  by_cases set : u.latches.get .noticeOverflow = true
  · simp only [Eu.drop, Eu.countDrop, if_pos set, PerEvent.put_get _ _ _ set]
  · have masked : ¬ u.unmasked.get .noticeOverflow = true := by
      rcases quiet with latched | masked
      · exact absurd latched set
      · simp [masked]
    simp [Eu.drop, Eu.countDrop, set, masked]

/-- R178: where the drop itself raises NOTICE_OVERFLOW, that notice is dropped too. -/
theorem Eu.join_full_raises (u : Eu) (depth : Nat) (n : Notice) (h : depth ≤ u.notices.length)
    (clear : u.latches.get .noticeOverflow = false) (raised : u.unmasked.get .noticeOverflow = true) :
    u.join depth n = { u with
      dropped := min 255 (u.dropped + 2), latches := u.latches.put .noticeOverflow true } := by
  have unset : ¬ u.latches.get .noticeOverflow = true := by simp [clear]
  have counted : min 255 (min 255 (u.dropped + 1) + 1) = min 255 (u.dropped + 2) := by omega
  rw [Eu.join, if_neg (not_lt.2 h)]
  simp only [Eu.drop, Eu.countDrop, if_neg unset, if_pos raised, counted]

/-- Settles O46. -/
theorem triggersAndDrops : Obligations.TriggersAndDrops := by
  refine ⟨fun s x y a b c ho hw room => finish_order s x y a b c (Posted.waitsFor_of hw) room ho, fun u =>
    ⟨fun e => ⟨u.trigger_set e, u.trigger_masked e, fun clear unmasked => ?_⟩, fun depth n =>
      ⟨u.join_room depth n, u.join_full depth n, u.join_full_raises depth n⟩⟩⟩
  rw [u.trigger_unmasked e clear unmasked]
  rfl

end Sys2Proof.Machine
end

section
/-! SUPPORT. SET_MASK and CLEAR_EVENTS (R174, R175), and obligation O45. -/

namespace Sys2Proof.Machine

/-- R174: the masks after a list of entries. -/
def masksAfter (l : List (Event × Bool)) (t : PerEvent Bool) : PerEvent Bool :=
  l.foldl (fun t x => t.put x.1 x.2) t

theorem masksAfter_other (l : List (Event × Bool)) (t : PerEvent Bool) (e : Event) (h : e ∉ l.map Prod.fst) :
    (masksAfter l t).get e = t.get e := by
  induction l generalizing t with
  | nil => rfl
  | cons x rest ih =>
    simp only [List.map_cons, List.mem_cons, not_or] at h
    obtain ⟨other, absent⟩ := h
    exact (ih (t.put x.1 x.2) absent).trans (by rw [PerEvent.get_put, if_neg other])

theorem masksAfter_mem (l : List (Event × Bool)) (t : PerEvent Bool) (nodup : (l.map Prod.fst).Nodup) (e : Event)
    (on : Bool) (h : (e, on) ∈ l) : (masksAfter l t).get e = on := by
  induction l generalizing t with
  | nil => simp at h
  | cons x rest ih =>
    obtain ⟨absent, nodup⟩ := List.nodup_cons.1 nodup
    rcases List.mem_cons.1 h with rfl | h
    · exact (masksAfter_other rest _ _ absent).trans (by simp)
    · exact ih _ nodup h

/-- R174: the notice of an entry, as it waits to join. -/
def Eu.raised (u : Eu) (x : Event × Bool) : Posted :=
  { poster := .setMask, after := [], notice := .eventRaised x.1 (u.senseOf x.1) }

theorem Eu.setMask_eq (u : Eu) (x : Event × Bool) :
    u.setMask x = { u with
      unmasked := u.unmasked.put x.1 x.2
      outbox := u.outbox ++ if u.announces x then [u.raised x] else [] } := by
  unfold Eu.setMask
  dsimp only
  split
  · rfl
  · rw [List.append_nil]

/-- R174: with distinct events each entry sees the masks and latches as they were before the command. -/
theorem Eu.setMasks_eq (l : List (Event × Bool)) (u : Eu) (nodup : (l.map Prod.fst).Nodup) :
    l.foldl Eu.setMask u = { u with
      unmasked := masksAfter l u.unmasked
      outbox := u.outbox ++ (l.filter u.announces).map u.raised } := by
  induction l generalizing u with
  | nil => simp [masksAfter]
  | cons x rest ih =>
    obtain ⟨absent, nodup⟩ := List.nodup_cons.1 nodup
    have same : rest.filter (u.setMask x).announces = rest.filter u.announces := by
      refine List.filter_congr fun y hy => ?_
      have other : y.1 ≠ x.1 := fun e => absent (e ▸ List.mem_map_of_mem hy)
      simp [Eu.setMask_eq, Eu.announces, other]
    rw [List.foldl_cons, ih _ nodup, same, Eu.setMask_eq, List.filter_cons]
    split <;> simp [masksAfter, Eu.raised, Eu.senseOf]

/-- R174: the masks after SET_MASK; the senses stand. -/
theorem setMasks_finished (l : List (Event × Bool)) (v : State) (nodup : (l.map Prod.fst).Nodup) :
    (finish (v.setEu (l.foldl Eu.setMask v.eu))).eu.unmasked = masksAfter l v.eu.unmasked ∧
      (finish (v.setEu (l.foldl Eu.setMask v.eu))).eu.senses = v.eu.senses ∧
      (finish (v.setEu (l.foldl Eu.setMask v.eu))).eu.inhibitSense = v.eu.inhibitSense := by
  obtain ⟨-, masks, senses, inhibit, -⟩ := finish_eu (v.setEu (l.foldl Eu.setMask v.eu))
  simp only [State.setEu_eu, Eu.setMasks_eq l v.eu nodup] at masks senses inhibit ⊢
  exact ⟨masks, senses, inhibit⟩

/-- R174, R177: with room the notices join in the order of the entries. -/
theorem setMasks_room (l : List (Event × Bool)) (v : State) (nodup : (l.map Prod.fst).Nodup) (settled : v.settled)
    (room : v.eu.notices.length + l.length ≤ v.mc.noticeDepth) :
    finish (v.setEu (l.foldl Eu.setMask v.eu)) = v.setEu { v.eu with
      unmasked := masksAfter l v.eu.unmasked
      notices := v.eu.notices ++ (l.filter v.eu.announces).map (fun x => .eventRaised x.1 (v.eu.senseOf x.1)) } := by
  have empty : v.eu.outbox = [] := settled
  have few := List.length_filter_le v.eu.announces l
  rw [Eu.setMasks_eq l v.eu nodup, finish_chain_room]
  · simp [empty, Eu.raised, Function.comp_def]
  · simp only [State.setEu_eu, empty, List.nil_append, List.pairwise_map]
    exact List.pairwise_of_forall fun x y => Posted.waitsFor_of (.inl rfl)
  · simp only [State.setEu_eu, State.setEu_mc, empty, List.nil_append, List.length_map]
    omega

theorem maskEntries_fields (l : List (Event × Bool)) :
    maskEntries (l.map (fun x => ⟨x.1.code, x.2.toNat⟩)) = some l := by
  induction l with
  | nil => rfl
  | cons x rest ih => simp [maskEntries, ih, flagOf_toNat]

theorem maskEntries_none (l : List MaskFields) (h : ∃ x ∈ l, 18 ≤ x.event ∨ 2 ≤ x.setting) : maskEntries l = none := by
  induction l with
  | nil => simp at h
  | cons y rest ih =>
    obtain ⟨x, hx, bad⟩ := h
    rcases List.mem_cons.1 hx with rfl | hx
    · rcases bad with event | setting
      · simp [maskEntries, nameAt_eq_none Event.all x.event event]
      · simp [maskEntries, flagOf_none x.setting setting]
    · simp [maskEntries, ih ⟨x, hx, bad⟩]

theorem setMask_badValue (l : List MaskFields) (s : State)
    (h : inRange 1 18 l.length = false ∨ maskEntries l = none ∨ ∃ xs, maskEntries l = some xs ∧ ¬ (xs.map Prod.fst).Nodup) :
    setMask l s = refuse .badValue s := by
  unfold setMask
  split
  · rfl
  · next fits =>
    rcases h with long | unread | ⟨xs, read, twice⟩
    · exact absurd long fits
    · simp only [unread]
    · simp only [read, if_neg twice]

/-- R174: the masks are set and the notices join. -/
theorem setMask_taken (l : List (Event × Bool)) (s : State) (h : 1 ≤ l.length ∧ l.length ≤ 18)
    (nodup : (l.map Prod.fst).Nodup) :
    setMask (l.map (fun x => ⟨x.1.code, x.2.toNat⟩)) s =
      ({ s with
          eu := (finish (s.setEu (l.foldl Eu.setMask s.eu))).eu
          free := (finish (s.setEu (l.foldl Eu.setMask s.eu))).free },
        okBody (eventFlags (finish (s.setEu (l.foldl Eu.setMask s.eu))).eu.unmasked ++
          natBytes 1 (l.filter s.eu.announces).length)) := by
  have fits : ¬ inRange 1 18 (l.map (fun x => (⟨x.1.code, x.2.toNat⟩ : MaskFields))).length = false := by
    simp [inRange, h]
  rw [setMask, if_neg fits, maskEntries_fields]
  simp only [if_pos nodup]
  rfl

theorem clearEvents_badValue (l : List Nat) (s : State) (h : l = [] ∨ 18 < l.length ∨ ∃ x ∈ l, 18 ≤ x) :
    clearEvents l s = refuse .badValue s := by
  unfold clearEvents
  split
  · rfl
  · next fits =>
    have unnamed : namesOf Event.all l = none := by
      rcases h with rfl | long | beyond
      · exact absurd rfl fits
      · exact absurd (inRange_eq_false (.inr long)) fits
      · exact namesOf_none _ l beyond
    rw [unnamed]

/-- R175: the named latches become clear. -/
theorem clearEvents_taken (l : List Event) (s : State) (h : 1 ≤ l.length ∧ l.length ≤ 18) :
    clearEvents (l.map Event.code) s =
      (s.setEu (s.eu.clear l),
        okBody (eventFlags (s.eu.clear l).latches ++ natBytes 1 (s.eu.clear l).dropped)) := by
  have fits : ¬ inRange 1 18 (l.map Event.code).length = false := by simp [inRange, h]
  have named : namesOf Event.all (l.map Event.code) = some l := namesOf_map _ _ l fun e _ => nameAt_event e
  rw [clearEvents, if_neg fits, named]

theorem PerEvent.get_clears (l : List Event) (t : PerEvent Bool) (e : Event) :
    (l.foldl (fun t e => t.put e false) t).get e = if e ∈ l then false else t.get e := by
  induction l generalizing t with
  | nil => simp
  | cons x rest ih =>
    rw [List.foldl_cons, ih, PerEvent.get_put]
    by_cases here : e ∈ rest
    · simp [here]
    · by_cases first : e = x <;> simp [here, first]

theorem eventCodes_bytes (l : List Event) : ∀ x ∈ l.map Event.code, x < 256 := by
  intro x hx
  obtain ⟨e, -, rfl⟩ := List.mem_map.1 hx
  have := e.code_lt
  omega

theorem maskFields_bytes (l : List (Event × Bool)) :
    ∀ x ∈ l.map (fun x => (⟨x.1.code, x.2.toNat⟩ : MaskFields)), x.event < 256 ∧ x.setting < 256 := by
  intro x hx
  obtain ⟨e, -, rfl⟩ := List.mem_map.1 hx
  have := e.1.code_lt
  have : e.2.toNat ≤ 1 := Bool.toNat_le e.2
  dsimp only
  omega

/-- Settles O45, by the owners' answers. -/
theorem masksAndLatchesAreSet : Obligations.MasksAndLatchesAreSet := by
  refine ⟨fun s l hs hb hl bad => ?_, fun s l hs hb hl bad => ?_, fun s l body hs hbody hl => ⟨fun bad => ?_, fun h0 h1 => ?_⟩,
    fun s l body hs settled hbody hl => ⟨fun bad => ?_, fun h0 h1 nodup => ?_⟩⟩
  · exact exec_refused (exec_clearEvents l s (by omega) hb) hs (by simp; omega) (clearEvents_badValue l _ (.inr (.inr bad)))
  · exact exec_refused (exec_setMask l s (by omega) hb) hs (by simp; omega)
      (setMask_badValue l _ (.inr (.inl (maskEntries_none l bad))))
  · subst hbody
    have bytes := eventCodes_bytes l
    refine exec_refused (exec_clearEvents _ s (by simp; omega) bytes) hs (by simp; omega) (clearEvents_badValue _ _ ?_)
    exact bad.imp (fun h => by simp [h]) fun h => .inl (by simpa using h)
  · subst hbody
    have bytes := eventCodes_bytes l
    refine ⟨_, exec_acts (exec_clearEvents _ s (by simp; omega) bytes) hs (by simp; omega) (clearEvents_taken l _ ⟨h0, h1⟩)
      rfl, fun e he => ?_, fun e he => ?_, ?_, rfl⟩
    · exact (PerEvent.get_clears l s.eu.latches e).trans (if_pos he)
    · exact (PerEvent.get_clears l s.eu.latches e).trans (if_neg he)
    · simp [answeredBy, Eu.clear, acceptFrame, endWindow]
  · subst hbody
    have bytes := maskFields_bytes l
    refine exec_refused (exec_setMask _ s (by simp; omega) bytes) hs (by simp; omega) (setMask_badValue _ _ ?_)
    rcases bad with rfl | long | twice
    · exact .inl rfl
    · exact .inl (inRange_eq_false (.inr (by simpa using long)))
    · exact .inr (.inr ⟨l, maskEntries_fields l, twice⟩)
  · subst hbody
    have bytes := maskFields_bytes l
    have acts := exec_acts (exec_setMask _ s (by simp; omega) bytes) hs (by simp; omega)
      (setMask_taken l _ ⟨h0, h1⟩ nodup) rfl
    generalize hv : acceptFrame (2 + (maskListBytes (l.map (fun x => ⟨x.1.code, x.2.toNat⟩))).length) s = v at acts
    have event : v.eu = s.eu := by rw [← hv]; rfl
    have depth : v.mc = s.mc := by rw [← hv]; rfl
    obtain ⟨masks, senses, inhibit⟩ := setMasks_finished l v nodup
    have joined : s.room 18 → _ := fun room => setMasks_room l v nodup (show v.eu.outbox = [] by rw [event]; exact settled)
      (by rw [event, depth]; exact le_trans (Nat.add_le_add_left h1 _) room.2)
    generalize finish (v.setEu (l.foldl Eu.setMask v.eu)) = t at acts masks senses inhibit joined
    rw [event] at masks senses inhibit
    subst hv
    refine ⟨_, acts, fun e on he => ?_, fun e he => ?_, senses, inhibit, rfl, rfl, rfl, rfl, rfl, rfl, rfl, rfl, rfl, rfl,
      rfl, rfl, fun room => ?_⟩
    · exact (congrArg (fun m => m.get e) masks).trans (masksAfter_mem l _ nodup e on he)
    · exact (congrArg (fun m => m.get e) masks).trans (masksAfter_other l _ e he)
    · rw [joined room]
      exact ⟨rfl, rfl, rfl⟩

end Sys2Proof.Machine
end

section
/-! SUPPORT. The bodies of the queries, field by field (R33, R46, R71, R82, R96, R119, R157, R169, R176, R192, R200), and
obligation O16. -/

namespace Sys2Proof.Machine

theorem isSome_eq_decide {α : Type} [DecidableEq α] (x : Option α) : x.isSome = decide (x ≠ none) := by
  cases x <;> simp

theorem flagByte_true : flagByte true = [1] := rfl

theorem flagByte_false : flagByte false = [0] := rfl

theorem presence_one (b : Bool) : presence [b] = flagByte b := by cases b <;> rfl

theorem laserBody_tail (s : State) (laser : Body)
    (none : s.cs.characterization = none → laser = [0])
    (some : ∀ r, s.cs.characterization = some r →
      laser = [1] ++ natBytes 3 (threshold r s.temperature).toNat ++ natBytes 2 (slope r s.temperature).toNat) :
    presence [s.cs.characterization.isSome] ++
      optionalBytes (fun r => natBytes 3 (threshold r s.temperature).toNat ++ natBytes 2 (slope r s.temperature).toNat)
        s.cs.characterization = laser := by
  cases h : s.cs.characterization with
  | none => exact (none h).symm
  | some r =>
    rw [some r h]
    simp [presence_one, flagByte_true, optionalBytes]

theorem readingsAreCarried (s : State) : ReadingsAreCarried s := by
  refine ⟨by simp [samplesBody, listBytes, Channel.all], fun tail none some => ?_⟩
  rw [← laserBody_tail s tail none some]
  simp [laserBody, levelBytes, surfaceByte, isSome_eq_decide, Two.get]

/-! ### Records and strategies -/

/-- R82: a record the list form reports. -/
theorem usable_iff (r : CalRecord) (x : CalFields) (st : CalState) :
    r.usable = some x ∧ r.state = st ↔ r = { state := st, fields := some x } ∧ (st = .valid ∨ st = .stale) := by
  obtain ⟨state, fields⟩ := r
  cases state <;> simp only [CalRecord.usable, CalRecord.mk.injEq] <;> aesop

theorem mem_usableRecords (c : Ct) (f : Surface) (v : Speed) (z : Fin 8) (st : CalState) (x : CalFields) :
    (z, st, x) ∈ c.usableRecords f v ↔
      c.record { surface := f, speed := v, zone := z } = { state := st, fields := some x } ∧
        (st = .valid ∨ st = .stale) := by
  have all : ∀ z : Fin 8, z ∈ allZones := by decide
  rw [← usable_iff]
  simp only [Ct.usableRecords, List.mem_filterMap, Option.map_eq_some_iff, Prod.mk.injEq]
  constructor
  · rintro ⟨y, -, x', usable, rfl, rfl, rfl⟩
    exact ⟨usable, rfl⟩
  · rintro ⟨usable, rfl⟩
    exact ⟨z, all z, x, usable, rfl, rfl, rfl⟩

theorem usableRecords_ascend (c : Ct) (f : Surface) (v : Speed) :
    (c.usableRecords f v).Pairwise (fun x y => x.1 < y.1) := by
  have ascend : allZones.Pairwise (· < ·) := by decide
  refine List.Pairwise.filterMap _ (fun y z hyz a ha b hb => ?_) ascend
  obtain ⟨x, -, rfl⟩ := Option.map_eq_some_iff.1 ha
  obtain ⟨x', -, rfl⟩ := Option.map_eq_some_iff.1 hb
  exact hyz

theorem tablesAreCarried (s : State) : TablesAreCarried s := by
  refine ⟨fun st => by simp [calRecordBody, optionalBytes, presence_one, flagByte_false], fun st x => by simp [calRecordBody, optionalBytes, presence_one, flagByte_true], fun f v => ?_,
    fun v => ?_, fun head hhead => ?_⟩
  · refine ⟨s.ct.usableRecords f v, presence [(s.ct.zones.get f).isSome] ++ optionalBytes (fun t => allZones.flatMap
      (fun z => natBytes 3 (t.get z) ++ natBytes 3 (zoneCentre t s.ct.blocks z))) (s.ct.zones.get f),
      usableRecords_ascend _ f v, mem_usableRecords _ f v, fun h => by rw [h]; rfl, fun z h => ?_, ?_⟩
    · rw [h]
      simp [presence_one, flagByte_true, optionalBytes, allZones, zoneCentre, zoneEnd, Eight.get]
    · simp [calListBody, listBytes, calFieldBytes]
  · simp [Wsg.complete, Four.toList, Option.isSome_iff_ne_none, MarkClass.index, Four.get]
  · subst hhead
    refine ⟨by simp [strategyBody, speedByte, Speed.all, presence_one, flagByte_false, optionalBytes], fun v => ?_⟩
    have entry : ∀ e : Option StrategyEntry, presence [e.isSome] ++ optionalBytes StrategyEntry.bytes e =
        (match e with
          | none => ([0] : Body)
          | some e => ([1] : Body) ++
              [e.leadDelay, e.leadWidth, e.midWidth, e.tailWidth, e.coolWidth].flatMap (intBytes 1)) := by
      intro e
      cases e with
      | none => rfl
      | some e => simp [presence_one, flagByte_true, optionalBytes, StrategyEntry.bytes]
    have marks : (s.wsg.entries.get v.index).toList =
        [MarkClass.m2, .m3, .m4, .m5p].map (fun m => (s.wsg.entries.get v.index).get m.index) := rfl
    have loaded : optionalBytes (fun u : Speed => (s.wsg.entries.get u.index).toList.flatMap (fun e =>
        presence [e.isSome] ++ optionalBytes StrategyEntry.bytes e)) (some v) =
          (s.wsg.entries.get v.index).toList.flatMap (fun e => presence [e.isSome] ++ optionalBytes StrategyEntry.bytes e) :=
      rfl
    rw [strategyBody, loaded, funext entry, marks]
    simp only [List.flatMap_map, presence_one, Option.isSome_some, flagByte_true, speedByte, Speed.all] <;> rfl

/-! ### Recording and status -/

theorem trialBody_fields (s : State) :
    trialBody s =
      presence [decide (s.tcu.areas.get .zero ≠ none), decide (s.tcu.areas.get .one ≠ none), decide (s.tcu.trial ≠ none),
        s.tcu.trial.any (fun t => t.inhibitMark || t.modeMark)] ++
      [Surface.zero, .one].flatMap (fun f => optionalBytes (fun a : TestArea => natBytes 3 a.first ++
        natBytes 2 a.length ++ natBytes 3 a.next ++ natBytes 2 (a.first + a.length - a.next)) (s.tcu.areas.get f)) ++
      optionalBytes (fun t : Trial => natBytes 1 t.key.surface.code ++ natBytes 1 t.key.speed.index ++
        natBytes 1 t.key.zone ++ natBytes 3 t.first ++ natBytes 1 t.steps.length ++ natBytes 1 t.sub.code ++
        natBytes 1 t.index ++
        natBytes 1 ((s.tcu.areas.get t.key.surface).elim 0 (fun a => a.next - t.first))) s.tcu.trial ++
      optionalBytes (fun t : Trial => if t.modeMark = true then [1] else if t.inhibitMark = true then [0] else [])
        s.tcu.trial := by
  have written : ∀ t : Trial, s.blocksWritten t = (s.tcu.areas.get t.key.surface).elim 0 (fun a => a.next - t.first) := by
    intro t
    unfold State.blocksWritten
    cases s.tcu.areas.get t.key.surface <;> rfl
  have marked : (s.tcu.trial.bind Trial.mark).isSome = s.tcu.trial.any (fun t => t.inhibitMark || t.modeMark) := by
    cases s.tcu.trial with
    | none => rfl
    | some t => cases hi : t.inhibitMark <;> cases hm : t.modeMark <;> simp [Trial.mark, hi, hm]
  have mark : optionalBytes (fun m : AbortMark => natBytes 1 m.code) (s.tcu.trial.bind Trial.mark) =
      optionalBytes (fun t : Trial => if t.modeMark = true then [1] else if t.inhibitMark = true then [0] else [])
        s.tcu.trial := by
    cases s.tcu.trial with
    | none => rfl
    | some t => cases hi : t.inhibitMark <;> cases hm : t.modeMark <;> simp [Trial.mark, hi, hm, optionalBytes] <;> rfl
  simp only [trialBody, marked, mark, written, isSome_eq_decide, keyBytes, surfaceByte, speedByte, Two.get,
    List.flatMap_cons, List.flatMap_nil, List.append_nil, List.append_assoc] <;> rfl

theorem queueEntryBytes_fields (g : Segment) :
    queueEntryBytes g =
      natBytes 2 g.tag ++ natBytes 1 g.surface.code ++ natBytes 1 g.link.code ++
        natBytes 3 g.start ++ natBytes 3 (g.start + g.count - 1) ++ natBytes 3 (g.start + g.done) ++ natBytes 2 g.done ++
        natBytes 2 (g.count - g.done) ++ natBytes 1 g.state.code ++
        presence [decide (g.reason ≠ none), decide (g.damaged ≠ none)] ++
        optionalBytes (fun r : SegReason => natBytes 1 r.code) g.reason ++ optionalBytes (natBytes 3) g.damaged := by
  simp [queueEntryBytes, surfaceByte, Segment.last, Segment.next, Segment.remaining, isSome_eq_decide]

theorem recordingIsCarried (s : State) : RecordingIsCarried s := by
  refine ⟨trialBody_fields s, ?_, ?_⟩
  · simp only [queueBody, listBytes, funext queueEntryBytes_fields, surfaceByte, isSome_eq_decide, List.append_assoc]
  · have range : ∀ f, rangeBytes (s.protRange f) = (match s.protRange f with
        | .empty => ([0] : Body)
        | .run first last => [1] ++ natBytes 3 first ++ natBytes 3 last
        | .absent => [2]) := by
      intro f
      cases s.protRange f <;> rfl
    simp only [protectBody, range]
    simp only [mapBytes, lockBody, Two.get, List.flatMap_cons, List.flatMap_nil, List.append_nil, List.append_assoc] <;> rfl

theorem eventFlags_eq (t : PerEvent Bool) : eventFlags t = Event.all.flatMap (fun e => flagByte (t.get e)) := by
  rw [eventFlags, PerEvent.toList, List.flatMap_map]

theorem statusIsCarried (s : State) : StatusIsCarried s := by
  refine ⟨fun events hevents => ⟨?_, fun position hposition => ?_⟩, fun store hstore => ?_⟩
  · obtain rfl : events = Event.all := hevents
    simp only [eventsBody, eventFlags_eq, Eight.toList, Mc.noticeDepth]
    simp [Channel.index, Eight.get]
  · obtain rfl : events = Event.all := hevents
    have reported : s.pt.reported = position := by
      rw [hposition]
      cases h : s.pt.state <;> simp [Pt.reported, h]
    have any : s.eu.latches.toList.any id = Event.all.any (fun e => s.eu.latches.get e) := by
      rw [PerEvent.toList, List.any_map]
      rfl
    simp only [statusBody, reported, any, modeByte, surfaceByte, isSome_eq_decide] <;> rfl
  · cases h : s.cs.store <;> rw [h] at hstore <;> subst hstore <;>
      simp [identBody, h, isSome_eq_decide, charBytes, BankNo.all]

/-! ### The queries -/

theorem getCal_single (s : State) (f : Surface) (v : Speed) (z : Fin 8) :
    getCal ⟨f.code, v.index, some z.val⟩ s =
      (s, okBody (calRecordBody (s.ct.record { surface := f, speed := v, zone := z }))) := by
  simp [getCal]

theorem getCal_list (s : State) (f : Surface) (v : Speed) :
    getCal ⟨f.code, v.index, none⟩ s = (s, okBody (calListBody s.ct f v)) := by
  simp [getCal]

theorem getCal_badValue (s : State) (f : GetCalFields)
    (h : 2 ≤ f.surface ∨ 4 ≤ f.speed ∨ ∃ z, f.zone = some z ∧ 8 ≤ z) : getCal f s = refuse .badValue s := by
  unfold getCal
  split
  · next g v hg hv =>
    rcases h with surface | speed | ⟨z, hz, beyond⟩
    · exact absurd ((nameAt_eq_none Surface.all _ surface).symm.trans hg) (by simp)
    · exact absurd ((nameAt_eq_none Speed.all _ speed).symm.trans hv) (by simp)
    · simp only [hz, dif_neg (not_lt.2 beyond)]
  · rfl

theorem getStrategy_badValue (s : State) (v : Nat) (h : 4 ≤ v) : getStrategy (some v) s = refuse .badValue s := by
  simp only [getStrategy, nameAt_eq_none Speed.all v h]

theorem getStrategy_taken (s : State) (v : Speed) :
    getStrategy (some v.index.val) s = (s, okBody (strategyBody s.wsg (some v))) := by
  simp only [getStrategy, nameAt_speed]

/-- Settles O16, query by query. -/
theorem queriesAnswerAndChangeNothing : Obligations.QueriesAnswerAndChangeNothing := by
  intro s hs
  have surface : ∀ f : Surface, f.code < 256 := fun f => by have := f.code_lt; omega
  refine ⟨?_, ?_, fun f v z => ?_, fun f v => ?_, ?_, ?_, fun v => ?_, ?_, ?_, ?_, ?_, ?_, fun f h0 h1 h2 bad => ?_,
    fun v bad hv => ?_, readingsAreCarried s, tablesAreCarried s, recordingIsCarried s, statusIsCarried s⟩
  · exact command_unchanged 8 [] (query (fun s => samplesBody s.mon)) s (okBody (samplesBody s.mon)) hs (by simp) rfl
  · exact command_unchanged 11 [] (query laserBody) s (okBody (laserBody s)) hs (by simp) rfl
  · have read := exec_getCal ⟨f.code, v.index, some z.val⟩ s (surface f) (by dsimp only; omega)
      (by rintro x ⟨⟩; omega)
    exact exec_answered read hs (le_trans (GetCalFields.bytes_length_le _) (by decide)) (getCal_single _ f v z)
  · have read := exec_getCal ⟨f.code, v.index, none⟩ s (surface f) (by dsimp only; omega) (by rintro x ⟨⟩)
    exact exec_answered read hs (le_trans (GetCalFields.bytes_length_le _) (by decide)) (getCal_list _ f v)
  · exact command_unchanged 22 [] (query trialBody) s (okBody (trialBody s)) hs (by simp) rfl
  · exact exec_answered (exec_getStrategy none s (by rintro x ⟨⟩)) hs (le_trans (getStrategyBytes_length_le _) (by decide))
      rfl
  · exact exec_answered (exec_getStrategy (some v.index.val) s (by rintro x ⟨⟩; omega)) hs
      (le_trans (getStrategyBytes_length_le _) (by decide)) (getStrategy_taken _ v)
  · exact command_unchanged 34 [] (query (fun s => queueBody s.wgc)) s (okBody (queueBody s.wgc)) hs (by simp) rfl
  · exact command_unchanged 37 [] (query protectBody) s (okBody (protectBody s)) hs (by simp) rfl
  · exact command_unchanged 40 [] (query eventsBody) s (okBody (eventsBody s)) hs (by simp) rfl
  · exact command_unchanged 41 [] (query statusBody) s (okBody (statusBody s)) hs (by simp) rfl
  · exact command_unchanged 47 [] (query (fun s => identBody s.cs)) s (okBody (identBody s.cs)) hs (by simp) rfl
  · exact exec_refused (exec_getCal f s h0 h1 h2) hs (le_trans (GetCalFields.bytes_length_le _) (by decide))
      (getCal_badValue _ f bad)
  · exact exec_refused (exec_getStrategy (some v) s (by rintro x ⟨⟩; exact hv)) hs
      (le_trans (getStrategyBytes_length_le _) (by decide)) (getStrategy_badValue _ v bad)

end Sys2Proof.Machine
end

section
/-! SUPPORT. What a body must be to be read: its length, and for a presence byte or a count byte its shape (R188). -/

namespace Sys2Proof.Machine

theorem takeNat_eq_some_iff {n v : Nat} {b t : Body} :
    takeNat n b = some (v, t) ↔ n ≤ b.length ∧ natOf (b.take n) = v ∧ b.drop n = t := by
  unfold takeNat
  split <;> simp [*]

theorem takeNat_length {n v : Nat} {b t : Body} (h : takeNat n b = some (v, t)) : b.length = n + t.length := by
  obtain ⟨fits, -, rfl⟩ := takeNat_eq_some_iff.1 h
  simp
  omega

theorem takeInt_length {n : Nat} {v : Int} {b t : Body} (h : takeInt n b = some (v, t)) : b.length = n + t.length := by
  obtain ⟨⟨x, t'⟩, hx, heq⟩ := Option.map_eq_some_iff.1 h
  obtain ⟨-, rfl⟩ := Prod.mk.inj heq
  exact takeNat_length hx

theorem takeNat_one_eq_some {v : Nat} {b t : Body} (h : takeNat 1 b = some (v, t)) : ∃ x, b = x :: t ∧ x.toNat = v := by
  obtain ⟨fits, rfl, rfl⟩ := takeNat_eq_some_iff.1 h
  cases b with
  | nil => simp at fits
  | cons x rest => exact ⟨x, rfl, by simp [natOf]⟩

theorem takePresence_eq_some {n p : Nat} {b t : Body} (h : takePresence n b = some (p, t)) :
    ∃ x, b = x :: t ∧ x.toNat = p ∧ p < 2 ^ n := by
  unfold takePresence at h
  split at h
  · exact absurd h (by simp)
  · next q rest hq =>
    split at h
    · next within =>
      obtain ⟨rfl, rfl⟩ := Prod.mk.inj (Option.some.inj h)
      obtain ⟨x, rfl, rfl⟩ := takeNat_one_eq_some hq
      exact ⟨x, rfl, rfl, within⟩
    · exact absurd h (by simp)

theorem takeOptional_absent {α : Type} {f : Body → Option (α × Body)} {b t : Body} {x : Option α}
    (h : takeOptional false f b = some (x, t)) : b = t := by
  obtain ⟨-, rfl⟩ := Prod.mk.inj (Option.some.inj h)
  rfl

theorem takeOptional_present {α : Type} {f : Body → Option (α × Body)} {b t : Body} {x : Option α}
    (h : takeOptional true f b = some (x, t)) : ∃ y, f b = some (y, t) := by
  obtain ⟨⟨y, t'⟩, hy, heq⟩ := Option.map_eq_some_iff.1 h
  obtain ⟨-, rfl⟩ := Prod.mk.inj heq
  exact ⟨y, hy⟩

/-- An optional field of n bytes takes n bytes or none. -/
theorem takeOptional_length {α : Type} {f : Body → Option (α × Body)} {n : Nat}
    (hf : ∀ b y t, f b = some (y, t) → b.length = n + t.length) {present : Bool} {b t : Body} {x : Option α}
    (h : takeOptional present f b = some (x, t)) : b.length = n * present.toNat + t.length := by
  cases present with
  | false => simp [takeOptional_absent h]
  | true =>
    obtain ⟨y, hy⟩ := takeOptional_present h
    simpa using hf _ _ _ hy

theorem whole_eq_some {α : Type} {x y : α} {t : Body} (h : whole (some (x, t)) = some y) : t = [] := by
  cases t with
  | nil => rfl
  | cons b rest => exact absurd h (by simp [whole])

theorem whole_eq_some_iff {α : Type} {r : Option (α × Body)} {y : α} : whole r = some y ↔ r = some (y, []) := by
  unfold whole
  split
  · simp
  · next other =>
    refine ⟨fun h => absurd h (by simp), fun h => absurd h (other y)⟩

/-- Entries of n bytes each take n bytes for each. -/
theorem takeEntries_length {α : Type} {f : Body → Option (α × Body)} {n : Nat}
    (hf : ∀ b y t, f b = some (y, t) → b.length = n + t.length) (k : Nat) {b t : Body} {l : List α}
    (h : takeEntries f k b = some (l, t)) : b.length = n * k + t.length := by
  induction k generalizing b l with
  | zero =>
    obtain ⟨-, rfl⟩ := Prod.mk.inj (Option.some.inj h)
    simp
  | succ k ih =>
    unfold takeEntries at h
    split at h
    · exact absurd h (by simp)
    · next x rest hx =>
      obtain ⟨⟨l', t'⟩, hl, heq⟩ := Option.map_eq_some_iff.1 h
      obtain ⟨-, rfl⟩ := Prod.mk.inj heq
      have := hf _ _ _ hx
      have := ih hl
      rw [Nat.mul_succ]
      omega

/-- A list is a count byte and its entries. -/
theorem takeList_shape {α : Type} {f : Body → Option (α × Body)} {n : Nat}
    (hf : ∀ b y t, f b = some (y, t) → b.length = n + t.length) {b : Body} {l : List α}
    (h : whole (takeList f b) = some l) : ∃ x rest, b = x :: rest ∧ rest.length = n * x.toNat := by
  have h := whole_eq_some_iff.1 h
  unfold takeList at h
  split at h
  · exact absurd h (by simp)
  · next k rest hk =>
    obtain ⟨x, rfl, rfl⟩ := takeNat_one_eq_some hk
    exact ⟨x, rest, rfl, by simpa using takeEntries_length hf _ h⟩

/-! ### The commands of one permitted length -/

theorem readNothing_length {b : Body} {f : Unit} (h : readNothing b = some f) : b.length = 0 := by
  unfold readNothing at h
  split at h
  · next empty => simp [empty]
  · exact absurd h (by simp)

theorem readNat_length {n v : Nat} {b : Body} (h : readNat n b = some v) : b.length = n := by
  simpa using takeNat_length (whole_eq_some_iff.1 h)

/-- What is read off the front takes its own length, and what follows takes the rest. -/
theorem length_of_bind {α β : Type} {f : Body → Option (α × Body)} {n m : Nat} {b : Body} {k : α × Body → Option β} {r : β}
    (hf : ∀ b y t, f b = some (y, t) → b.length = n + t.length) (h : (f b).bind k = some r)
    (hk : ∀ y t, k (y, t) = some r → t.length = m) : b.length = m + n := by
  obtain ⟨⟨y, t⟩, hy, hr⟩ := Option.bind_eq_some_iff.1 h
  rw [hf b y t hy, hk y t hr, Nat.add_comm]

theorem takes_nat (n : Nat) : ∀ b v t, takeNat n b = some (v, t) → b.length = n + t.length := fun _ _ _ => takeNat_length

theorem takes_int (n : Nat) : ∀ b v t, takeInt n b = some (v, t) → b.length = n + t.length := fun _ _ _ => takeInt_length

theorem whole_length {α : Type} {x y : α} {t : Body} (h : whole (some (x, t)) = some y) : t.length = 0 := by
  rw [whole_eq_some h, List.length_nil]

theorem readOffset_length {b : Body} {f : OffsetFields} (h : readOffset b = some f) : b.length = 3 :=
  length_of_bind (takes_nat 1) h fun _ _ h => length_of_bind (takes_nat 1) h fun _ _ h =>
  length_of_bind (takes_nat 1) h fun _ _ h => whole_length h

theorem readWindow_length {b : Body} {f : WindowFields} (h : readWindow b = some f) : b.length = 6 :=
  length_of_bind (takes_nat 1) h fun _ _ h => length_of_bind (takes_nat 2) h fun _ _ h =>
  length_of_bind (takes_nat 2) h fun _ _ h => length_of_bind (takes_nat 1) h fun _ _ h => whole_length h

theorem readReadPower_length {b : Body} {f : ReadPowerFields} (h : readReadPower b = some f) : b.length = 3 :=
  length_of_bind (takes_nat 1) h fun _ _ h => length_of_bind (takes_nat 2) h fun _ _ h => whole_length h

theorem readDisc_length {b : Body} {f : DiscFields} (h : readDisc b = some f) : b.length = 5 :=
  length_of_bind (takes_nat 1) h fun _ _ h => length_of_bind (takes_nat 1) h fun _ _ h =>
  length_of_bind (takes_nat 3) h fun _ _ h => whole_length h

theorem takeStarts_length (b : Body) (x : Eight Nat) (t : Body) (h : takeStarts b = some (x, t)) :
    b.length = 24 + t.length :=
  (length_of_bind (takes_nat 3) h fun _ _ h => length_of_bind (takes_nat 3) h fun _ _ h =>
  length_of_bind (takes_nat 3) h fun _ _ h => length_of_bind (takes_nat 3) h fun _ _ h =>
  length_of_bind (takes_nat 3) h fun _ _ h => length_of_bind (takes_nat 3) h fun _ _ h =>
  length_of_bind (takes_nat 3) h fun _ _ h => length_of_bind (takes_nat 3) h fun _ u h =>
    (congrArg List.length (Prod.mk.inj (Option.some.inj h)).2 : u.length = t.length)).trans (by omega)

theorem readZones_length {b : Body} {f : ZoneFields} (h : readZones b = some f) : b.length = 25 :=
  length_of_bind (takes_nat 1) h fun _ _ h => length_of_bind takeStarts_length h fun _ _ h => whole_length h

theorem takeKey_length (b : Body) (x : KeyFields) (t : Body) (h : takeKey b = some (x, t)) : b.length = 3 + t.length :=
  (length_of_bind (takes_nat 1) h fun _ _ h => length_of_bind (takes_nat 1) h fun _ _ h =>
  length_of_bind (takes_nat 1) h fun _ u h =>
    (congrArg List.length (Prod.mk.inj (Option.some.inj h)).2 : u.length = t.length)).trans (by omega)

theorem readKey_length {b : Body} {f : KeyFields} (h : readKey b = some f) : b.length = 3 :=
  takeKey_length _ _ _ (whole_eq_some_iff.1 h)

theorem readPutCal_length {b : Body} {f : PutCalFields} (h : readPutCal b = some f) : b.length = 12 :=
  length_of_bind takeKey_length h fun _ _ h => length_of_bind (takes_nat 3) h fun _ _ h =>
  length_of_bind (takes_nat 2) h fun _ _ h => length_of_bind (takes_nat 2) h fun _ _ h =>
  length_of_bind (takes_int 2) h fun _ _ h => whole_length h

theorem readArea_length {b : Body} {f : AreaFields} (h : readArea b = some f) : b.length = 6 :=
  length_of_bind (takes_nat 1) h fun _ _ h => length_of_bind (takes_nat 3) h fun _ _ h =>
  length_of_bind (takes_nat 2) h fun _ _ h => whole_length h

theorem readStrategy_length {b : Body} {f : StrategyFields} (h : readStrategy b = some f) : b.length = 7 :=
  length_of_bind (takes_nat 1) h fun _ _ h => length_of_bind (takes_nat 1) h fun _ _ h =>
  length_of_bind (takes_int 1) h fun _ _ h => length_of_bind (takes_int 1) h fun _ _ h =>
  length_of_bind (takes_int 1) h fun _ _ h => length_of_bind (takes_int 1) h fun _ _ h =>
  length_of_bind (takes_int 1) h fun _ _ h => whole_length h

theorem readRpc_length {b : Body} {f : RpcFields} (h : readRpc b = some f) : b.length = 3 :=
  length_of_bind (takes_nat 1) h fun _ _ h => length_of_bind (takes_nat 1) h fun _ _ h =>
  length_of_bind (takes_nat 1) h fun _ _ h => whole_length h

theorem readProtect_length {b : Body} {f : ProtectFields} (h : readProtect b = some f) : b.length = 4 :=
  length_of_bind (takes_nat 1) h fun _ _ h => length_of_bind (takes_nat 1) h fun _ _ h =>
  length_of_bind (takes_nat 1) h fun _ _ h => length_of_bind (takes_nat 1) h fun _ _ h => whole_length h

theorem readBank_length {b : Body} {f : BankFields} (h : readBank b = some f) : b.length = 18 :=
  length_of_bind (takes_nat 1) h fun _ _ h => length_of_bind (takes_nat 3) h fun _ _ h =>
  length_of_bind (takes_nat 2) h fun _ _ h => length_of_bind (takes_int 2) h fun _ _ h =>
  length_of_bind (takes_nat 2) h fun _ _ h => length_of_bind (takes_nat 1) h fun _ _ h =>
  length_of_bind (takes_nat 3) h fun _ _ h => length_of_bind (takes_nat 2) h fun _ _ h =>
  length_of_bind (takes_nat 2) h fun _ _ h => whole_length h

/-! ### The other commands -/

theorem nat_shape {β : Type} {n : Nat} {b : Body} {k : Nat × Body → Option β} {r : β}
    (h : (takeNat n b).bind k = some r) :
    ∃ head rest, b = head ++ rest ∧ head.length = n ∧ k (natOf head, rest) = some r := by
  obtain ⟨⟨v, t⟩, hv, hk⟩ := Option.bind_eq_some_iff.1 h
  obtain ⟨fits, rfl, rfl⟩ := takeNat_eq_some_iff.1 hv
  exact ⟨b.take n, b.drop n, (List.take_append_drop n b).symm, by simpa using fits, hk⟩

theorem byte_shape {β : Type} {b : Body} {k : Nat × Body → Option β} {r : β} (h : (takeNat 1 b).bind k = some r) :
    ∃ x rest, b = x :: rest ∧ k (x.toNat, rest) = some r := by
  obtain ⟨⟨v, t⟩, hv, hk⟩ := Option.bind_eq_some_iff.1 h
  obtain ⟨x, rfl, rfl⟩ := takeNat_one_eq_some hv
  exact ⟨x, t, rfl, hk⟩

theorem presence_shape {β : Type} {n : Nat} {b : Body} {k : Nat × Body → Option β} {r : β}
    (h : (takePresence n b).bind k = some r) :
    ∃ x rest, b = x :: rest ∧ x.toNat < 2 ^ n ∧ k (x.toNat, rest) = some r := by
  obtain ⟨⟨v, t⟩, hv, hk⟩ := Option.bind_eq_some_iff.1 h
  obtain ⟨x, rfl, rfl, within⟩ := takePresence_eq_some hv
  exact ⟨x, t, rfl, within, hk⟩

/-- The one bit of a presence byte of one field. -/
theorem testBit_of_lt_two {p : Nat} (h : p < 2 ^ 1) : (p.testBit 0).toNat = p := by
  obtain rfl | rfl : p = 0 ∨ p = 1 := by omega
  · rfl
  · rfl

theorem byte_eq_of_toNat {x : Byte} {v : Nat} (h : x.toNat = v) : x = BitVec.ofNat 8 v := by
  rw [← h, BitVec.ofNat_toNat, BitVec.setWidth_eq]

/-- A presence byte of one field of n bytes stands alone, or before n bytes. -/
theorem presence_cases {x : Byte} {rest : Body} {n : Nat} (hx : x.toNat < 2 ^ 1)
    (h : rest.length = n * (x.toNat.testBit 0).toNat) : (x = 0 ∧ rest = []) ∨ (x = 1 ∧ rest.length = n) := by
  rw [testBit_of_lt_two hx] at h
  obtain none | one : x.toNat = 0 ∨ x.toNat = 1 := by omega
  · exact .inl ⟨byte_eq_of_toNat none, List.eq_nil_of_length_eq_zero (by rw [h, none, Nat.mul_zero])⟩
  · exact .inr ⟨byte_eq_of_toNat one, by rw [h, one, Nat.mul_one]⟩

theorem takeSelfTest_length (b : Body) (x : SelfTestFields) (t : Body) (h : takeSelfTest b = some (x, t)) :
    b.length = 6 + t.length :=
  (length_of_bind (takes_nat 3) h fun _ _ h => length_of_bind (takes_nat 1) h fun _ _ h =>
  length_of_bind (takes_nat 2) h fun _ u h =>
    (congrArg List.length (Prod.mk.inj (Option.some.inj h)).2 : u.length = t.length)).trans (by omega)

/-- The length of an optional field at the end of a body. -/
theorem optional_length {α β : Type} {f : Body → Option (α × Body)} {n m : Nat} {present : Bool} {b : Body}
    {k : Option α × Body → Option β} {r : β} (hf : ∀ b y t, f b = some (y, t) → b.length = n + t.length)
    (h : (takeOptional present f b).bind k = some r) (hk : ∀ y t, k (y, t) = some r → t.length = m) :
    b.length = m + n * present.toNat :=
  length_of_bind (fun _ _ _ => takeOptional_length hf) h hk

theorem readMode_shape {b : Body} {f : ModeFields} (h : readMode b = some f) :
    ∃ m rest, b = [m, 0] ∨ (b = m :: 1 :: rest ∧ rest.length = 6) := by
  obtain ⟨m, b, rfl, h⟩ := byte_shape h
  obtain ⟨p, rest, rfl, one, h⟩ := presence_shape h
  have length := optional_length takeSelfTest_length h fun _ _ h => whole_length h
  rcases presence_cases one (length.trans (Nat.zero_add _)) with ⟨rfl, rfl⟩ | ⟨rfl, six⟩
  · exact ⟨m, [], .inl rfl⟩
  · exact ⟨m, rest, .inr ⟨rfl, six⟩⟩

theorem readGetCal_shape {b : Body} {f : GetCalFields} (h : readGetCal b = some f) :
    ∃ g v z, b = [g, v, 0] ∨ b = [g, v, 1, z] := by
  obtain ⟨g, b, rfl, h⟩ := byte_shape h
  obtain ⟨v, b, rfl, h⟩ := byte_shape h
  obtain ⟨p, rest, rfl, one, h⟩ := presence_shape h
  have length := optional_length (takes_nat 1) h fun _ _ h => whole_length h
  rcases presence_cases one (length.trans (Nat.zero_add _)) with ⟨rfl, rfl⟩ | ⟨rfl, single⟩
  · exact ⟨g, v, 0, .inl rfl⟩
  · obtain ⟨z, rfl⟩ := List.length_eq_one_iff.1 single
    exact ⟨g, v, z, .inr rfl⟩

theorem readGetStrategy_shape {b : Body} {f : Option Nat} (h : readGetStrategy b = some f) : ∃ v, b = [0] ∨ b = [1, v] := by
  obtain ⟨p, rest, rfl, one, h⟩ := presence_shape h
  have length := optional_length (takes_nat 1) h fun _ _ h => whole_length h
  rcases presence_cases one (length.trans (Nat.zero_add _)) with ⟨rfl, rfl⟩ | ⟨rfl, single⟩
  · exact ⟨0, .inl rfl⟩
  · obtain ⟨v, rfl⟩ := List.length_eq_one_iff.1 single
    exact ⟨v, .inr rfl⟩

theorem readSegment_shape {b : Body} {f : SegmentFields} (h : readSegment b = some f) :
    ∃ head p rest, b = head ++ p :: rest ∧ head.length = 6 ∧ p.toNat < 2 ∧ rest.length = 3 * p.toNat := by
  obtain ⟨tag, b, rfl, htag, h⟩ := nat_shape h
  obtain ⟨surface, b, rfl, hsurface, h⟩ := nat_shape h
  obtain ⟨link, b, rfl, hlink, h⟩ := nat_shape h
  obtain ⟨count, b, rfl, hcount, h⟩ := nat_shape h
  obtain ⟨p, rest, rfl, one, h⟩ := presence_shape h
  have length := optional_length (takes_nat 3) h fun _ _ h => whole_length h
  rw [testBit_of_lt_two one] at length
  exact ⟨tag ++ surface ++ link ++ count, p, rest, by simp, by simp only [List.length_append]; omega, by omega, by omega⟩

/-- The bits of a presence byte of three fields, by its value. -/
theorem testBits_of_lt_eight {p : Nat} (h : p < 2 ^ 3) :
    (p.testBit 0).toNat = p % 2 ∧ (p.testBit 1).toNat = p / 2 % 2 ∧ (p.testBit 2).toNat = p / 4 := by
  have all : ∀ p < 8, (Nat.testBit p 0).toNat = p % 2 ∧ (Nat.testBit p 1).toNat = p / 2 % 2 ∧
      (Nat.testBit p 2).toNat = p / 4 := by decide
  exact all p h

theorem readCalibrate_shape {b : Body} {f : CalibrateFields} (h : readCalibrate b = some f) :
    ∃ head p rest, b = head ++ p :: rest ∧ head.length = 8 ∧ p.toNat < 8 ∧
      rest.length = 2 * (p.toNat % 2 + p.toNat / 2 % 2 + p.toNat / 4) := by
  obtain ⟨surface, b, rfl, hsurface, h⟩ := nat_shape h
  obtain ⟨zone, b, rfl, hzone, h⟩ := nat_shape h
  obtain ⟨steps, b, rfl, hsteps, h⟩ := nat_shape h
  obtain ⟨start, b, rfl, hstart, h⟩ := nat_shape h
  obtain ⟨step, b, rfl, hstep, h⟩ := nat_shape h
  obtain ⟨p, rest, rfl, three, h⟩ := presence_shape h
  have length := optional_length (takes_int 2) h fun _ _ h => optional_length (takes_nat 2) h fun _ _ h =>
    optional_length (takes_nat 2) h fun _ _ h => whole_length h
  obtain ⟨bit0, bit1, bit2⟩ := testBits_of_lt_eight three
  exact ⟨surface ++ zone ++ steps ++ start ++ step, p, rest, by simp, by simp only [List.length_append]; omega, by omega,
    by omega⟩

theorem readNames_shape {b : Body} {l : List Nat} (h : readNames b = some l) :
    ∃ n rest, b = n :: rest ∧ rest.length = n.toNat := by
  obtain ⟨n, rest, rfl, length⟩ := takeList_shape (takes_nat 1) h
  exact ⟨n, rest, rfl, by omega⟩

theorem takeMask_length (b : Body) (x : MaskFields) (t : Body) (h : takeMask b = some (x, t)) :
    b.length = 2 + t.length :=
  (length_of_bind (takes_nat 1) h fun _ _ h => length_of_bind (takes_nat 1) h fun _ u h =>
    (congrArg List.length (Prod.mk.inj (Option.some.inj h)).2 : u.length = t.length)).trans (by omega)

theorem readMasks_shape {b : Body} {l : List MaskFields} (h : readMasks b = some l) :
    ∃ n rest, b = n :: rest ∧ rest.length = 2 * n.toNat :=
  takeList_shape takeMask_length h

end Sys2Proof.Machine
end

section
/-! SUPPORT. Which latches the end of a step may set (R178). -/

namespace Sys2Proof.Machine

theorem PerEvent.put_put {α : Type} (t : PerEvent α) (e : Event) (x y : α) : (t.put e x).put e y = t.put e y := by
  cases e <;> rfl

theorem Eu.join_latches (u : Eu) (depth : Nat) (n : Notice) :
    (u.join depth n).latches = u.latches ∨ (u.join depth n).latches = u.latches.put .noticeOverflow true := by
  unfold Eu.join
  split
  · exact .inl rfl
  · unfold Eu.drop
    dsimp only
    split
    · exact .inl rfl
    · split <;> exact .inr rfl

/-- R178: the joining notices latch NOTICE_OVERFLOW at most. -/
theorem Eu.drain_latches (depth : Nat) : ∀ (k : Nat) (u : Eu) (free : Nat),
    (Eu.drain k depth u free).1.latches = u.latches ∨
      (Eu.drain k depth u free).1.latches = u.latches.put .noticeOverflow true := by
  intro k
  induction k with
  | zero => exact fun u free => .inl rfl
  | succ k ih =>
    intro u free
    by_cases empty : u.outbox = []
    · rw [Eu.drain_nil _ _ _ _ empty]
      exact .inl rfl
    · obtain ⟨p, z, q, free', -, -, taken⟩ := Eu.drain_takes k depth u free empty
      rw [taken]
      rcases ih (({ u with outbox := p ++ q } : Eu).join depth z.notice) free' with same | raised
      · rw [same]
        exact Eu.join_latches { u with outbox := p ++ q } depth z.notice
      · rw [raised]
        rcases Eu.join_latches { u with outbox := p ++ q } depth z.notice with same | raised
        · exact .inr (by rw [same])
        · exact .inr (by rw [raised, PerEvent.put_put])

theorem finish_latches (s : State) :
    (finish s).eu.latches = s.eu.latches ∨ (finish s).eu.latches = s.eu.latches.put .noticeOverflow true :=
  Eu.drain_latches s.mc.noticeDepth s.eu.outbox.length s.eu s.free

/-- The end of a step clears no latch. -/
theorem finish_latched (s : State) (e : Event) (h : s.eu.latches.get e = true) : (finish s).eu.latches.get e = true := by
  rcases finish_latches s with same | raised
  · rw [same, h]
  · rw [raised, PerEvent.get_put, h, ite_self]

/-- The end of a step leaves every other latch than NOTICE_OVERFLOW. -/
theorem finish_latch_other (s : State) (e : Event) (h : e ≠ .noticeOverflow) :
    (finish s).eu.latches.get e = s.eu.latches.get e := by
  rcases finish_latches s with same | raised
  · rw [same]
  · rw [raised, PerEvent.get_put, if_neg h]

/-- R173: after a trigger the event's latch is set. -/
theorem Eu.trigger_latched (u : Eu) (e : Event) : (u.trigger e).latches.get e = true := by
  unfold Eu.trigger
  split
  · next set => exact set
  · dsimp only
    split <;> simp [Eu.post]

end Sys2Proof.Machine
end

section
/-! SUPPORT. The judgement of frames by framing, slot, kind and length (R184 to R187), and obligation O47. -/

namespace Sys2Proof.Machine

/-- A frame that is taken, discarded or ignored by the link alone. -/
def TakesFrame (kind : Byte) (body : Body) (s : State) (o : Host.Outcome State Fault Refusal) : Prop :=
  ∃ failing owner, o = .next (takeFrame kind body failing owner s)

theorem command_takes {α : Type} (kind : Byte) (read : Body → Option α) (owner : α → Owner) (body : Body) (s : State) :
    ∃ kind', TakesFrame kind' body s (command kind body ((read body).map owner) s) :=
  ⟨kind, .badLength, (read body).map owner, rfl⟩

/-- R193: without the flag a RESET_DEVICE frame is a frame like the others. -/
theorem execResetDevice_takes (body : Body) (s : State) (h : s.resetArmed = false) :
    ∃ kind, TakesFrame kind body s (execResetDevice body s) := by
  have idle : ¬ (body = [] ∧ s.resetArmed = true) := by simp [h]
  rw [execResetDevice, if_neg idle]
  exact command_takes 43 readNothing _ body s

theorem commandIndex_takes (body : Body) (s : State) (h : s.resetArmed = false) :
    ∀ m ∈ commandIndex, ∃ kind, TakesFrame kind body s (m body s) := by
  simp only [commandIndex, List.forall_mem_cons]
  exact ⟨command_takes _ _ _ _ _, command_takes _ _ _ _ _, command_takes _ _ _ _ _, command_takes _ _ _ _ _,
    command_takes _ _ _ _ _, command_takes _ _ _ _ _, command_takes _ _ _ _ _, command_takes _ _ _ _ _,
    command_takes _ _ _ _ _, command_takes _ _ _ _ _, command_takes _ _ _ _ _, command_takes _ _ _ _ _,
    command_takes _ _ _ _ _, command_takes _ _ _ _ _, command_takes _ _ _ _ _, command_takes _ _ _ _ _,
    command_takes _ _ _ _ _, command_takes _ _ _ _ _, command_takes _ _ _ _ _, command_takes _ _ _ _ _,
    command_takes _ _ _ _ _, command_takes _ _ _ _ _, command_takes _ _ _ _ _, command_takes _ _ _ _ _,
    command_takes _ _ _ _ _, command_takes _ _ _ _ _, command_takes _ _ _ _ _, command_takes _ _ _ _ _,
    command_takes _ _ _ _ _, command_takes _ _ _ _ _, command_takes _ _ _ _ _, command_takes _ _ _ _ _,
    command_takes _ _ _ _ _, command_takes _ _ _ _ _, command_takes _ _ _ _ _, command_takes _ _ _ _ _,
    command_takes _ _ _ _ _, command_takes _ _ _ _ _, command_takes _ _ _ _ _, command_takes _ _ _ _ _,
    command_takes _ _ _ _ _, command_takes _ _ _ _ _, execResetDevice_takes body s h, command_takes _ _ _ _ _,
    command_takes _ _ _ _ _, command_takes _ _ _ _ _, command_takes _ _ _ _ _, by simp⟩

/-- R187: every dispatched frame is judged like any other, but for a commanded reset. -/
theorem dispatch_takes (kind : Byte) (body : Body) (s : State) (h : s.resetArmed = false) :
    ∃ kind', TakesFrame kind' body s (dispatch kind body s) := by
  unfold dispatch
  split
  · next m hm =>
    unfold commandOf at hm
    split at hm
    · exact absurd hm (by simp)
    · exact commandIndex_takes body s h m (List.mem_of_getElem? hm)
  · exact ⟨kind, .unknownKind, none, rfl⟩

theorem resetArmed_blocked (s : State) (h : s.cl.receive = .blocked) : s.resetArmed = false := by
  simp [State.resetArmed, h]

theorem resetArmed_full (s : State) (r : Reply) (h : s.cl.slot = .full r) : s.resetArmed = false := by
  simp [State.resetArmed, h]

theorem dispatch_blocked (kind : Byte) (body : Body) (s : State) (h : s.cl.receive = .blocked) :
    dispatch kind body s = .next (endWindow (zeros (2 + body.length)) s) := by
  obtain ⟨kind', failing, owner, taken⟩ := dispatch_takes kind body s (resetArmed_blocked s h)
  rw [taken, takeFrame_blocked _ _ _ _ _ h]

/-- R186: with a reply in the slot every well-formed frame is discarded and counted. -/
theorem dispatch_full (kind : Byte) (body : Body) (s : State) (r : Reply) (h : s.cl.receive ≠ .blocked)
    (hs : s.cl.slot = .full r) (hb : body.length ≤ 62) :
    dispatch kind body s = .next (discardFrame (2 + body.length) s) := by
  obtain ⟨kind', failing, owner, taken⟩ := dispatch_takes kind body s (resetArmed_full s r hs)
  rw [taken, takeFrame_full _ _ _ _ _ r h hs hb]

/-- R187: a kind byte of no command is answered UNKNOWN_KIND. -/
theorem dispatch_unknown (kind : Byte) (body : Body) (s : State) (h : namesCommand kind = false) :
    dispatch kind body s = .next (takeFrame kind body .unknownKind none s) := by
  have unnamed : commandOf kind = none := by
    unfold commandOf
    split
    · rfl
    · next nonzero =>
      have positive : kind.toNat ≠ 0 := fun k => nonzero (BitVec.eq_of_toNat_eq k)
      simp only [namesCommand, Bool.and_eq_false_iff, decide_eq_false_iff_not] at h
      refine List.getElem?_eq_none ?_
      show 47 ≤ kind.toNat - 1
      omega
  rw [dispatch, unnamed]

/-- R185: a well-formed frame is dispatched. -/
theorem linkWindow_frame (kind : Byte) (body : Body) (s : State) (h : opensFrame kind = true) (hb : body.length ≤ 62) :
    linkWindow (frameBytes kind body) 0 s = dispatch kind body s := by
  simp only [opensFrame, Bool.and_eq_true, decide_eq_true_eq] at h
  obtain ⟨reply, notice⟩ := h
  have small : (BitVec.ofNat 8 body.length).toNat = body.length := by
    rw [BitVec.toNat_ofNat]
    omega
  have framed : framedBody (BitVec.ofNat 8 body.length :: body) 0 = some body := by
    simp only [framedBody]
    rw [small, if_pos ⟨trivial, hb, rfl⟩]
  by_cases blocked : s.cl.receive = .blocked
  · rw [frameBytes, linkWindow, if_pos blocked, dispatch_blocked kind body s blocked]
    rw [List.length_cons, List.length_cons, Nat.add_comm _ 2]
  · rw [frameBytes, linkWindow, if_neg blocked]
    simp only [if_neg reply, if_neg notice, framed]

/-- The kind byte of a command of the index opens a frame. -/
theorem opensFrame_of_frame {c : Instr} {kind : Byte} {body : Body} (h : c.frame = some (kind, body)) :
    opensFrame kind = true := by
  cases c <;> cases h <;> rfl

/-- R185: a badly framed window is the link's alone. -/
theorem linkWindow_bad (bytes : List Byte) (extra : Fin 8) (s : State) (h : isBadlyFramed bytes extra = true)
    (hr : s.cl.receive ≠ .blocked) : linkWindow bytes extra s = .next (badFraming bytes.length s) := by
  cases bytes with
  | nil => exact absurd h (by simp [isBadlyFramed])
  | cons kind rest =>
    simp only [isBadlyFramed, opensFrame, Bool.and_eq_true, decide_eq_true_eq, Option.isNone_iff_eq_none] at h
    obtain ⟨⟨reply, notice⟩, unframed⟩ := h
    rw [linkWindow, if_neg hr]
    simp only [if_neg reply, if_neg notice, unframed]

/-! ### Bodies of a length that is not permitted -/

/-- R187: where every body that is read is permitted, one that is not is answered BAD_LENGTH. -/
theorem badLength_of_read {α : Type} {c : Body → Instr} {kind : Byte} {read : Body → Option α} {owner : α → Owner}
    {permitted : Body → Prop} (frame : ∀ b, (c b).frame = some (kind, b))
    (hx : ∀ b s, exec (c b) s = command kind b ((read b).map owner) s)
    (reads : ∀ b f, read b = some f → permitted b) (body : Body) (s : State) (hs : s.takesFrames)
    (hb : body.length ≤ 62) (h : ¬ permitted body) :
    ∃ kind, (c body).frame = some (kind, body) ∧
      exec (c body) s = .next (s.setCl (Cl.answered kind body .badLength false [])) := by
  have unread : read body = none := Option.eq_none_iff_forall_ne_some.2 fun f hf => h (reads body f hf)
  refine ⟨kind, frame body, ?_⟩
  rw [hx, unread, Option.map_none, command_badLength kind body s hs hb]

/-- The same for a command of one permitted length. -/
theorem badLength_of_length {α : Type} {c : Body → Instr} {kind : Byte} {read : Body → Option α} {owner : α → Owner}
    {n : Nat} (frame : ∀ b, (c b).frame = some (kind, b))
    (hx : ∀ b s, exec (c b) s = command kind b ((read b).map owner) s)
    (reads : ∀ b f, read b = some f → b.length = n) (body : Body) (s : State) (hs : s.takesFrames)
    (hb : body.length ≤ 62) (h : body.length ≠ n) :
    ∃ kind, (c body).frame = some (kind, body) ∧
      exec (c body) s = .next (s.setCl (Cl.answered kind body .badLength false [])) :=
  badLength_of_read (permitted := fun b => b.length = n) frame hx reads body s hs hb h

theorem badLength_resetDevice (body : Body) (s : State) (hs : s.takesFrames) (hb : body.length ≤ 62)
    (h : body.length ≠ 0) : ∃ kind, (Instr.resetDevice body).frame = some (kind, body) ∧
      exec (.resetDevice body) s = .next (s.setCl (Cl.answered kind body .badLength false [])) := by
  have present : body ≠ [] := fun k => h (by rw [k, List.length_nil])
  refine ⟨43, rfl, ?_⟩
  show execResetDevice body s = _
  rw [execResetDevice, if_neg (by simp [present]), readNothing, if_neg present, Option.map_none,
    command_badLength 43 body s hs hb]

/-- R188: every command of one permitted length refuses the others. -/
theorem fixedLengths_badLength (body : Body) (s : State) (hs : s.takesFrames) (hb : body.length ≤ 62) :
    ∀ p ∈ fixedLengths, body.length ≠ p.2 →
      ∃ kind, (p.1 body).frame = some (kind, body) ∧
        exec (p.1 body) s = .next (s.setCl (Cl.answered kind body .badLength false [])) := by
  have none {c : Body → Instr} {kind : Byte} {owner : Unit → Owner} (frame : ∀ b, (c b).frame = some (kind, b))
      (hx : ∀ b s, exec (c b) s = command kind b ((readNothing b).map owner) s) :=
    badLength_of_length frame hx (fun _ _ => readNothing_length) body s hs hb
  have nat (n : Nat) {c : Body → Instr} {kind : Byte} {owner : Nat → Owner} (frame : ∀ b, (c b).frame = some (kind, b))
      (hx : ∀ b s, exec (c b) s = command kind b ((readNat n b).map owner) s) :=
    badLength_of_length frame hx (fun _ _ => readNat_length) body s hs hb
  have fields {α : Type} {n : Nat} (read : Body → Option α) (reads : ∀ b f, read b = some f → b.length = n)
      {c : Body → Instr} {kind : Byte} {owner : α → Owner} (frame : ∀ b, (c b).frame = some (kind, b))
      (hx : ∀ b s, exec (c b) s = command kind b ((read b).map owner) s) :=
    badLength_of_length frame hx reads body s hs hb
  simp only [fixedLengths, List.cons_append, List.nil_append, List.forall_mem_cons]
  exact ⟨nat 1 (fun _ => rfl) fun _ _ => rfl, none (fun _ => rfl) fun _ _ => rfl, none (fun _ => rfl) fun _ _ => rfl,
    fields readOffset (fun _ _ => readOffset_length) (fun _ => rfl) fun _ _ => rfl,
    fields readWindow (fun _ _ => readWindow_length) (fun _ => rfl) fun _ _ => rfl, none (fun _ => rfl) fun _ _ => rfl,
    fields readReadPower (fun _ _ => readReadPower_length) (fun _ => rfl) fun _ _ => rfl, nat 1 (fun _ => rfl) fun _ _ => rfl,
    none (fun _ => rfl) fun _ _ => rfl, fields readDisc (fun _ _ => readDisc_length) (fun _ => rfl) fun _ _ => rfl,
    fields readZones (fun _ _ => readZones_length) (fun _ => rfl) fun _ _ => rfl, none (fun _ => rfl) fun _ _ => rfl,
    fields readPutCal (fun _ _ => readPutCal_length) (fun _ => rfl) fun _ _ => rfl,
    fields readKey (fun _ _ => readKey_length) (fun _ => rfl) fun _ _ => rfl, nat 2 (fun _ => rfl) fun _ _ => rfl,
    fields readArea (fun _ _ => readArea_length) (fun _ => rfl) fun _ _ => rfl, none (fun _ => rfl) fun _ _ => rfl,
    none (fun _ => rfl) fun _ _ => rfl, nat 1 (fun _ => rfl) fun _ _ => rfl,
    fields readStrategy (fun _ _ => readStrategy_length) (fun _ => rfl) fun _ _ => rfl, none (fun _ => rfl) fun _ _ => rfl,
    none (fun _ => rfl) fun _ _ => rfl, none (fun _ => rfl) fun _ _ => rfl, none (fun _ => rfl) fun _ _ => rfl,
    none (fun _ => rfl) fun _ _ => rfl, fields readRpc (fun _ _ => readRpc_length) (fun _ => rfl) fun _ _ => rfl,
    nat 2 (fun _ => rfl) fun _ _ => rfl, none (fun _ => rfl) fun _ _ => rfl,
    fields readProtect (fun _ _ => readProtect_length) (fun _ => rfl) fun _ _ => rfl, nat 1 (fun _ => rfl) fun _ _ => rfl,
    none (fun _ => rfl) fun _ _ => rfl, none (fun _ => rfl) fun _ _ => rfl, none (fun _ => rfl) fun _ _ => rfl,
    none (fun _ => rfl) fun _ _ => rfl, badLength_resetDevice body s hs hb,
    fields readBank (fun _ _ => readBank_length) (fun _ => rfl) fun _ _ => rfl, nat 1 (fun _ => rfl) fun _ _ => rfl,
    nat 1 (fun _ => rfl) fun _ _ => rfl, none (fun _ => rfl) fun _ _ => rfl, by simp⟩

/-- R188: every other command refuses a body of none of its shapes. -/
theorem permittedBodies_badLength (body : Body) (s : State) (hs : s.takesFrames) (hb : body.length ≤ 62) :
    ∀ p ∈ permittedBodies, ¬ p.2 body →
      ∃ kind, (p.1 body).frame = some (kind, body) ∧
        exec (p.1 body) s = .next (s.setCl (Cl.answered kind body .badLength false [])) := by
  have shape {α : Type} {permitted : Body → Prop} (read : Body → Option α) (reads : ∀ b f, read b = some f → permitted b)
      {c : Body → Instr} {kind : Byte} {owner : α → Owner} (frame : ∀ b, (c b).frame = some (kind, b))
      (hx : ∀ b s, exec (c b) s = command kind b ((read b).map owner) s) :=
    badLength_of_read frame hx reads body s hs hb
  simp only [permittedBodies, List.forall_mem_cons]
  exact ⟨shape readMode (fun _ _ => readMode_shape) (fun _ => rfl) fun _ _ => rfl,
    shape readNames (fun _ _ => readNames_shape) (fun _ => rfl) fun _ _ => rfl,
    shape readGetCal (fun _ _ => readGetCal_shape) (fun _ => rfl) fun _ _ => rfl,
    shape readCalibrate (fun _ _ => readCalibrate_shape) (fun _ => rfl) fun _ _ => rfl,
    shape readGetStrategy (fun _ _ => readGetStrategy_shape) (fun _ => rfl) fun _ _ => rfl,
    shape readSegment (fun _ _ => readSegment_shape) (fun _ => rfl) fun _ _ => rfl,
    shape readMasks (fun _ _ => readMasks_shape) (fun _ => rfl) fun _ _ => rfl,
    shape readNames (fun _ _ => readNames_shape) (fun _ => rfl) fun _ _ => rfl, by simp⟩

/-- Settles O47: a frame goes to the command its bytes are, and the link's own judgements are of framing, slot, kind and
length. -/
theorem framesAreJudgedByKindAndLength : Obligations.FramesAreJudgedByKindAndLength := by
  refine ⟨fun c kind body s hc hb => ?_, fun kind body s r hk hb hr hs => ?_, fun kind body s hs hb hn hk => ?_,
    fun body s hs hb => ⟨fixedLengths_badLength body s hs hb, permittedBodies_badLength body s hs hb⟩,
    fun bytes extra s hbad hr => ?_⟩
  · exact (linkWindow_frame kind body s (opensFrame_of_frame hc) hb).trans (exec_eq_dispatch c kind body s hc).symm
  · exact (linkWindow_frame kind body s hk hb).trans (dispatch_full kind body s r hr hs hb)
  · refine (linkWindow_frame kind body s hk hb).trans ((dispatch_unknown kind body s hn).trans ?_)
    rw [takeFrame_accepted kind body .unknownKind none s hs hb]
    rfl
  · have latched := finish_latched (trigger .linkError (endWindow (zeros bytes.length) s)) .linkError
      (Eu.trigger_latched _ _)
    exact ⟨_, linkWindow_bad bytes extra s hbad hr, rfl, latched, rfl, rfl, rfl, rfl, rfl, rfl, rfl, rfl, rfl, rfl, rfl⟩

end Sys2Proof.Machine
end

section
/-! SUPPORT. The windows that read a reply or a notice (R181, R189, R190, R195), and obligation O48. -/

namespace Sys2Proof.Machine

/-- R189: a window long enough carries the whole record, then zero bytes. -/
theorem carries_long (record : Body) (n : Nat) (h : record.length ≤ n) :
    carries record n = record ++ zeros (n - record.length) := by
  simp [carries, List.take_append, List.take_of_length_le h, zeros, List.take_replicate]

/-- R189: a shorter one carries as much of it as fits. -/
theorem carries_short (record : Body) (n : Nat) (h : n < record.length) : carries record n = record.take n := by
  rw [carries, List.take_append_of_le_length h.le]

section
variable {s : State} {edges : Nat} (h : s.cl.receive ≠ .blocked)
include h

theorem replyRead_empty (hs : s.cl.slot = .empty) :
    replyRead edges s = endWindow (carries noneRecord (edges / 8)) s := by
  simp only [replyRead, if_neg h, hs, Cl.replyRecord]

variable {r : Reply} (hs : s.cl.slot = .full r)
include hs

theorem replyRead_whole (hl : (r.record s.cl.discard).length ≤ edges / 8) :
    replyRead edges s = s.setCl { s.cl with
      slot := .empty, discard := 0, receive := .idle, dataOut := carries (r.record s.cl.discard) (edges / 8) } := by
  simp only [replyRead, if_neg h, hs, Cl.replyRecord, if_pos hl]
  rfl

theorem replyRead_part (hl : ¬ (r.record s.cl.discard).length ≤ edges / 8) :
    replyRead edges s = endWindow (carries (r.record s.cl.discard) (edges / 8)) s := by
  simp only [replyRead, if_neg h, hs, Cl.replyRecord, if_neg hl]

end

section
variable {s : State} {edges : Nat} (h : s.cl.receive ≠ .blocked)
include h

theorem noticeRead_empty (hs : s.eu.notices = []) :
    noticeRead edges s = endWindow (carries noneRecord (edges / 8)) s := by
  simp only [noticeRead, if_neg h, hs]

variable {n : Notice} {rest : List Notice} (hs : s.eu.notices = n :: rest)
include hs

theorem noticeRead_whole (hl : n.record.length ≤ edges / 8) :
    noticeRead edges s =
      (s.setCl { s.cl with receive := .idle, dataOut := carries n.record (edges / 8) }).setEu
        { s.eu with notices := rest } := by
  simp only [noticeRead, if_neg h, hs, if_pos hl]
  rfl

theorem noticeRead_part (hl : ¬ n.record.length ≤ edges / 8) :
    noticeRead edges s = endWindow (carries n.record (edges / 8)) s := by
  simp only [noticeRead, if_neg h, hs, if_neg hl]

end

theorem stepBytes_eq (r : Nat × StepResult) :
    stepBytes r = natBytes 3 r.1 ++ (match r.2 with
      | .beta b => ([0] : Body) ++ intBytes 2 b
      | .invalid => [1, 0, 0]
      | .unmeasured => [2, 0, 0]) := by
  obtain ⟨p, x⟩ := r
  cases x <;> rfl

theorem noticesAreCarried : NoticesAreCarried := by
  refine ⟨fun a b => ⟨rfl, rfl⟩, fun tag done last c largest => ⟨rfl, rfl⟩, fun tag next remaining why => ⟨rfl, rfl⟩,
    fun tag done why damaged => ⟨rfl, ?_⟩, fun tag => ⟨rfl, rfl⟩, fun n => ⟨rfl, rfl⟩, fun d => ⟨rfl, ?_⟩,
    fun e => ⟨fun x => rfl, ?_, fun x => ?_, fun x => ?_⟩, fun b x => ⟨rfl, rfl⟩⟩
  · simp only [Notice.body, isSome_eq_decide]
  · simp only [Notice.body, calDoneBody, keyBytes, surfaceByte, speedByte, isSome_eq_decide, listBytes,
      funext stepBytes_eq, List.append_assoc] <;> rfl
  · simp [Notice.body, presence_one, flagByte_false, optionalBytes]
  · simp [Notice.body, presence_one, flagByte_true, optionalBytes, EventSense.code]
  · simp [Notice.body, presence_one, flagByte_true, optionalBytes, EventSense.code]

/-- Settles O48, by whether the window carries the whole record. -/
theorem readWindowsCarryTheRecord : Obligations.ReadWindowsCarryTheRecord := by
  refine ⟨noticesAreCarried, fun s edges h => ⟨fun hs => ?_, fun r record hs hrecord => ?_, fun hs => ?_,
    fun n rest record hs hrecord => ?_⟩⟩
  · exact congrArg Host.Outcome.next (replyRead_empty h hs)
  · obtain rfl : record = r.record s.cl.discard := hrecord
    refine ⟨fun long => ?_, fun short => ?_⟩
    · have fits : (r.record s.cl.discard).length ≤ edges / 8 := by omega
      rw [← carries_long _ _ fits]
      exact congrArg Host.Outcome.next (replyRead_whole h hs fits)
    · have cut : edges / 8 < (r.record s.cl.discard).length := by omega
      rw [← carries_short _ _ cut]
      exact congrArg Host.Outcome.next (replyRead_part h hs (not_le.2 cut))
  · exact congrArg Host.Outcome.next (noticeRead_empty h hs)
  · obtain rfl : record = n.record := hrecord
    refine ⟨fun long => ?_, fun short => ?_⟩
    · have fits : n.record.length ≤ edges / 8 := by omega
      rw [← carries_long _ _ fits]
      exact congrArg Host.Outcome.next (noticeRead_whole h hs fits)
    · have cut : edges / 8 < n.record.length := by omega
      rw [← carries_short _ _ cut]
      exact congrArg Host.Outcome.next (noticeRead_part h hs (not_le.2 cut))

end Sys2Proof.Machine
end

section
/-! SUPPORT. The resets: the levels of a dark laser, the chosen bank and the values every reset leaves (R17, R73, R196), and
obligations O50 and O51. -/

namespace Sys2Proof.Machine

/-- R53, R56: with the laser off, or without an active bank, every level is dark. -/
theorem levelsNow_off (s : State) (h : s.cs.characterization = none ∨ s.mc.mode.laserOff = true) :
    ∀ l ∈ [s.levelsNow.read, s.levelsNow.peak, s.levelsNow.bias, s.levelsNow.cool],
      l.current = 0 ∧ l.code = 0 ∧ l.limited = false := by
  have dark : ∀ l ∈ [s.levelsNow.read, s.levelsNow.peak, s.levelsNow.bias, s.levelsNow.cool],
      ∃ p, l = LevelState.dark p := by
    unfold State.levelsNow computeLevels
    dsimp only
    split
    · simp
    · next r hr =>
      have off : s.mc.mode.laserOff = true := h.resolve_left (by simp [hr])
      rw [if_pos off]
      simp
  intro l hl
  obtain ⟨p, rfl⟩ := dark l hl
  exact ⟨rfl, rfl, rfl⟩

theorem bankChange_none (s : State) (h : s.cs.characterization = none) : bankChange s = recompute s := by
  rw [bankChange, h]

/-- R73: a change of bank clears the trim and holds the read powers. -/
theorem bankChange_some (s : State) (r : CharRecord) (h : s.cs.characterization = some r) :
    bankChange s = recompute (s.setLdu { s.ldu with
      ioff := 0, clampMark := false
      readPower := { t0 := min s.ldu.readPower.t0 r.maxRead, t1 := min s.ldu.readPower.t1 r.maxRead } }) := by
  rw [bankChange, h]

/-- A search of the banks finds the lowest-numbered one. -/
theorem findBank_spec (p : BankNo → Bool) :
    (BankNo.all.find? p = none → ∀ b, p b = false) ∧
      ∀ a, BankNo.all.find? p = some a → p a = true ∧ ∀ b, b.code < a.code → p b = false := by
  simp only [BankNo.all, List.find?_cons, List.find?_nil]
  cases h0 : p .b0 <;> cases h1 : p .b1 <;> cases h2 : p .b2 <;>
    simp only [reduceCtorEq, Option.some.injEq, false_imp_iff, forall_const, true_and, forall_eq', implies_true,
      and_true, h0, h1, h2]
  · rintro (_ | _ | _) <;> assumption
  · rintro (_ | _ | _) k
    exacts [h0, h1, absurd k (by decide)]
  · rintro (_ | _ | _) k
    exacts [h0, absurd k (by decide), absurd k (by decide)]
  · rintro (_ | _ | _) k
    exacts [h0, absurd k (by decide), absurd k (by decide)]
  all_goals
    rintro (_ | _ | _) k
    exacts [absurd k (by decide), absurd k (by decide), absurd k (by decide)]

theorem chooseBank_none {banks : Three Bank} (h : chooseBank banks = none) (b : BankNo) : (banks.get b).valid = false := by
  unfold chooseBank at h
  split at h
  · exact absurd h (by simp)
  · exact (findBank_spec _).1 h b

/-- R196: the chosen bank is valid; one below it that is valid is not locked, and stands back behind a locked one. -/
theorem chooseBank_some {banks : Three Bank} {a : BankNo} (h : chooseBank banks = some a) :
    (banks.get a).valid = true ∧
      (∀ b, b.code < a.code → (banks.get b).valid = true →
        (banks.get b).locked = false ∧ (banks.get a).locked = true) ∧
      (∀ b, (banks.get b).valid = true → (banks.get b).locked = true → (banks.get a).locked = true) := by
  unfold chooseBank at h
  split at h
  · next b hb =>
    obtain rfl := Option.some.inj h
    obtain ⟨both, below⟩ := (findBank_spec _).2 _ hb
    obtain ⟨valid, locked⟩ := Bool.and_eq_true_iff.1 both
    refine ⟨valid, fun c hc hv => ⟨?_, locked⟩, fun _ _ _ => locked⟩
    have lower := below c hc
    rwa [hv, Bool.true_and] at lower
  · next none =>
    have unlocked := (findBank_spec _).1 none
    obtain ⟨valid, below⟩ := (findBank_spec _).2 _ h
    refine ⟨valid, fun c hc hv => absurd (below c hc) (by simp [hv]), fun c hv hl => ?_⟩
    exact absurd (unlocked c) (by simp [hv, hl])

/-- R196: what a reset leaves of LDU. -/
theorem resetBlocks_ldu (pu : Pu) (lines : Lines) (low : Bool) (s : State) :
    ∃ p, (resetBlocks pu lines low s).ldu =
        { Ldu.afterReset with readPower := p, levels := (resetBlocks pu lines low s).levelsNow } ∧
      ((resetBlocks pu lines low s).cs.active = none → p = { t0 := 500, t1 := 500 }) ∧
      (∀ a, (resetBlocks pu lines low s).cs.active = some a →
        p = { t0 := min 500 a.record.maxRead, t1 := min 500 a.record.maxRead }) := by
  obtain ⟨-, -, -, -, -, -, -, -, -, cs, -⟩ := resetBlocks_frame pu lines low s
  rw [cs]
  cases h : s.cs.afterReset.active with
  | none =>
    have none : s.cs.afterReset.characterization = none := by rw [Cs.characterization, h]; rfl
    refine ⟨{ t0 := 500, t1 := 500 }, ?_, fun _ => rfl, fun a ha => absurd ha (by simp)⟩
    rw [resetBlocks, bankChange_none _ none]
    rfl
  | some a =>
    have some : s.cs.afterReset.characterization = some a.record := by rw [Cs.characterization, h]; rfl
    refine ⟨{ t0 := min 500 a.record.maxRead, t1 := min 500 a.record.maxRead }, ?_, fun k => absurd k (by simp), ?_⟩
    · rw [resetBlocks, bankChange_some _ _ some]
      rfl
    · rintro b ⟨⟩
      rfl

/-- R17, R193: what every reset leaves. -/
theorem resetBlocks_leaves (pu : Pu) (lines : Lines) (low : Bool) (s : State) :
    ResetLeaves s lines.inhibit (resetBlocks pu lines low s) := by
  obtain ⟨mc, pt, mon, ct, tcu, wsg, wgc, -, -, cs, -, -, pending⟩ := resetBlocks_frame pu lines low s
  have dark := levelsNow_off (resetBlocks pu lines low s) (.inr (by rw [mc]; rfl)) _ List.mem_cons_self
  obtain ⟨p, ldu, none, some⟩ := resetBlocks_ldu pu lines low s
  have code : (resetBlocks pu lines low s).ldu.outputCode = 0 := by
    rw [ldu]
    exact dark.2.1
  refine ⟨mc, pt, mon, ct, tcu, wsg, wgc, resetBlocks_eu pu lines low s, by rw [cs]; rfl, by rw [cs]; rfl, by rw [ldu]; rfl,
    by rw [ldu]; rfl, by rw [ldu]; rfl, by rw [ldu]; rfl, by rw [ldu]; rfl, code, by rw [ldu], pending, fun h => ⟨?_, ?_⟩,
    fun a ha => ?_⟩
  · rw [ldu, none h]
  · rw [cs] at h
    exact chooseBank_none (Option.map_eq_none_iff.1 h)
  · have held := some a ha
    rw [cs] at ha
    obtain ⟨b, chosen, rfl⟩ := Option.map_eq_some_iff.1 ha
    obtain ⟨valid, below, locked⟩ := chooseBank_some chosen
    exact ⟨rfl, valid, by rw [ldu, held], below, locked⟩

/-- Settles O50. -/
theorem resetsGiveTheResetValues : Obligations.ResetsGiveTheResetValues := by
  refine ⟨fun s l c hc => ?_, fun s h => ?_, fun s h => ?_⟩
  · obtain ⟨-, -, -, -, -, -, -, pu, cl, -, lines, -⟩ := resetBlocks_frame (Pu.afterReset l.inhibit)
      { inhibit := l.inhibit, encoderReady := l.encoderReady } l.selectLow s
    have leaves : ResetLeaves s l.inhibit (hardReset l s) := resetBlocks_leaves _ _ _ s
    rcases List.mem_pair.1 hc with rfl | rfl
    · exact ⟨hardReset l s, rfl, leaves, pu, cl, lines⟩
    · exact ⟨hardReset l s, rfl, leaves, pu, cl, lines⟩
  · exact congrArg Host.Outcome.next (if_pos h)
  · exact congrArg Host.Outcome.next (if_neg h)

/-- Settles O51. -/
theorem commandedResetTakesTwoFrames : Obligations.CommandedResetTakesTwoFrames := by
  intro s hs
  obtain ⟨receive, slot⟩ := hs
  have device : exec (.resetDevice []) s = execResetDevice [] s := rfl
  refine ⟨?_, fun clear => ?_, fun set => ?_⟩
  · rw [exec_resetEnable_nil, command_owned 42 [] resetEnable s ⟨receive, slot⟩ (by simp)]
    rfl
  · have idle : ¬ (([] : Body) = [] ∧ s.resetArmed = true) := by simp [State.resetArmed, clear]
    rw [device, execResetDevice, if_neg idle]
    exact command_unchanged 43 [] (refuse .nothingPending) s (plain .nothingPending) ⟨receive, slot⟩ (by simp) rfl
  · have armed : ([] : Body) = [] ∧ s.resetArmed = true := by simp [State.resetArmed, set, receive, slot]
    obtain ⟨-, -, -, -, -, -, -, pu, cl, -, lines, -⟩ :=
      resetBlocks_frame (s.pu.afterCommanded s.lines.inhibit) s.lines false s
    refine ⟨commandedReset s, ?_, resetBlocks_leaves _ _ _ s, cl, lines, fun power => ?_, fun other => ?_⟩
    · rw [device, execResetDevice, if_pos armed]
    · exact pu.trans (if_pos power)
    · exact pu.trans (if_neg other)

end Sys2Proof.Machine
end

section
/-! SUPPORT. The commands of the store: WRITE_BANK, LOCK_BANK and SELECT_BANK (R197 to R199), and obligation O52. -/

namespace Sys2Proof.Machine

/-- R197, check 2. -/
theorem recordGood_iff (r : CharRecord) : recordGood r = true ↔ r.inRanges := by
  simp only [recordGood, CharRecord.inRanges, inRange, inRangeInt, Bool.and_eq_true, decide_eq_true_eq]
  omega

theorem writeBank_wrongMode (f : BankFields) (s : State) (h : s.mc.mode ≠ .configure) : writeBank f s = refuse .wrongMode s := by
  rw [writeBank, if_pos h]

theorem lockBank_wrongMode (n : Nat) (s : State) (h : s.mc.mode ≠ .configure) : lockBank n s = refuse .wrongMode s := by
  rw [lockBank, if_pos h]

theorem selectBank_wrongMode (n : Nat) (s : State) (h : s.mc.mode ≠ .configure) : selectBank n s = refuse .wrongMode s := by
  rw [selectBank, if_pos h]

theorem writeBank_badValue (f : BankFields) (s : State) (configure : s.mc.mode = .configure)
    (h : 3 ≤ f.bank ∨ ¬ f.record.inRanges) :
    writeBank f s = refuse .badValue s := by
  rw [writeBank, if_neg (not_not.2 configure)]
  split
  · rfl
  · next b hb =>
    have bank : ¬ 3 ≤ f.bank := fun k => absurd ((nameAt_eq_none BankNo.all _ k).symm.trans hb) (by simp)
    have bad : recordGood f.record = false := by
      rw [Bool.eq_false_iff, ne_eq, recordGood_iff]
      exact h.resolve_left bank
    rw [if_pos bad]

theorem lockBank_badValue (n : Nat) (s : State) (configure : s.mc.mode = .configure) (h : 3 ≤ n) :
    lockBank n s = refuse .badValue s := by
  rw [lockBank, if_neg (not_not.2 configure), nameAt_eq_none BankNo.all n h]

theorem selectBank_badValue (n : Nat) (s : State) (configure : s.mc.mode = .configure) (h : 3 ≤ n) :
    selectBank n s = refuse .badValue s := by
  rw [selectBank, if_neg (not_not.2 configure), nameAt_eq_none BankNo.all n h]

/-- R197: with the mode and the fields good, the store and the lock decide. -/
theorem writeBank_good (b : BankNo) (r : CharRecord) (s : State) (configure : s.mc.mode = .configure) (h : r.inRanges) :
    writeBank ⟨b.code, r⟩ s =
      if s.cs.store ≠ .idle then refuse .busy s
      else if (s.cs.banks.get b).locked then refuse .storeLocked s
      else (s.setCs { s.cs with
          banks := s.cs.banks.put b { (s.cs.banks.get b) with valid := false }, store := .writing b r }, plain .pending) := by
  simp only [writeBank, nameAt_bank, configure, (recordGood_iff r).2 h, ne_eq, not_true_eq_false, if_false,
    Bool.true_eq_false]

/-- R198: so it is for a lock, with the bank's valid mark. -/
theorem lockBank_named (b : BankNo) (s : State) (configure : s.mc.mode = .configure) :
    lockBank b.code s =
      if s.cs.store ≠ .idle then refuse .busy s
      else if (s.cs.banks.get b).locked then refuse .storeLocked s
      else if (s.cs.banks.get b).valid = false then refuse .badValue s
      else (s.setCs { s.cs with store := .locking b }, plain .pending) := by
  simp only [lockBank, nameAt_bank, configure, ne_eq, not_true_eq_false, if_false]

theorem selectBank_named (b : BankNo) (s : State) (configure : s.mc.mode = .configure) :
    selectBank b.code s =
      if s.cs.store.writes b then refuse .busy s
      else if (s.cs.banks.get b).valid = false then refuse .badValue s
      else (finish (bankChange (s.setCs { s.cs with
          active := some { bank := b, record := (s.cs.banks.get b).record } })), okBody (natBytes 1 b.code)) := by
  simp only [selectBank, nameAt_bank, configure, ne_eq, not_true_eq_false, if_false]

/-- R199: the bank that is being written. -/
theorem StoreState.writes_iff (x : StoreState) (b : BankNo) : StoreState.writes x b = true ↔ ∃ r, x = .writing b r := by
  cases x <;> simp [StoreState.writes]

/-- R73, R199: the selected bank as LDU takes it, in a mode with the laser off. -/
def selected (b : BankNo) (s : State) : State :=
  recompute ((s.setCs { s.cs with active := some { bank := b, record := (s.cs.banks.get b).record } }).setLdu { s.ldu with
    ioff := 0, clampMark := false
    readPower := { t0 := min s.ldu.readPower.t0 (s.cs.banks.get b).record.maxRead
                   t1 := min s.ldu.readPower.t1 (s.cs.banks.get b).record.maxRead } })

theorem selected_spec (b : BankNo) (s : State) (configure : s.mc.mode = .configure) :
    (selected b s).cs = { s.cs with active := some { bank := b, record := (s.cs.banks.get b).record } } ∧
      (selected b s).ldu = { s.ldu with
        ioff := 0, clampMark := false, levels := (selected b s).levelsNow
        readPower := { t0 := min s.ldu.readPower.t0 (s.cs.banks.get b).record.maxRead
                       t1 := min s.ldu.readPower.t1 (s.cs.banks.get b).record.maxRead } } ∧
      (selected b s).eu = s.eu ∧ (selected b s).mc = s.mc ∧ (selected b s).pt = s.pt ∧ (selected b s).mon = s.mon ∧
      (selected b s).ct = s.ct ∧ (selected b s).tcu = s.tcu ∧ (selected b s).wsg = s.wsg ∧ (selected b s).wgc = s.wgc ∧
      (selected b s).pu = s.pu ∧ (selected b s).lines = s.lines ∧ (selected b s).free = s.free :=
  ⟨rfl, rfl, recompute_dark_eu _ (show s.mc.mode.laserOff = true by rw [configure]; rfl), rfl, rfl, rfl, rfl, rfl, rfl, rfl,
    rfl, rfl, rfl⟩

/-- R199: a valid bank that is not being written becomes active. -/
theorem selectBank_taken (b : BankNo) (s : State) (configure : s.mc.mode = .configure)
    (idle : ∀ r, s.cs.store ≠ .writing b r) (valid : (s.cs.banks.get b).valid = true) :
    selectBank b.code s =
      ({ selected b s with eu := (finish (selected b s)).eu, free := (finish (selected b s)).free },
        okBody (natBytes 1 b.code)) := by
  have free : ¬ StoreState.writes s.cs.store b = true := by
    rw [StoreState.writes_iff]
    rintro ⟨r, hr⟩
    exact idle r hr
  rw [selectBank_named b s configure, if_neg free, if_neg (by simp [valid]), bankChange_some _ (s.cs.banks.get b).record rfl]
  rfl

/-- Settles O52, by the checks of each command in their order. -/
theorem storeCommandsActInConfigure : Obligations.StoreCommandsActInConfigure := by
  intro s hs
  have small : ∀ n : Nat, (natBytes 1 n).length ≤ 62 := fun n => by simp
  refine ⟨fun f hf => ⟨fun h => ?_, fun hm bad => ?_⟩, fun n hn => ⟨fun h => ⟨?_, ?_⟩, fun hm bad => ⟨?_, ?_⟩⟩,
    fun hm b number hnumber => ?_⟩
  · exact exec_refused (exec_writeBank f s hf) hs (by simp) (writeBank_wrongMode f _ h)
  · exact exec_refused (exec_writeBank f s hf) hs (by simp) (writeBank_badValue f _ hm bad)
  · exact exec_refused (exec_lockBank n s hn) hs (small n) (lockBank_wrongMode n _ h)
  · exact exec_refused (exec_selectBank n s hn) hs (small n) (selectBank_wrongMode n _ h)
  · exact exec_refused (exec_lockBank n s hn) hs (small n) (lockBank_badValue n _ hm bad)
  · exact exec_refused (exec_selectBank n s hn) hs (small n) (selectBank_badValue n _ hm bad)
  · subst hnumber
    have code : b.code < 256 := by have := b.code_lt; omega
    have lock := exec_lockBank b.code s code
    have select := exec_selectBank b.code s code
    refine ⟨fun r body hbody hr => ?_, fun busy => ?_, fun idle locked => ?_, fun idle unlocked invalid => ?_,
      fun idle unlocked valid => ?_, fun r writing => ?_, fun idle invalid => ?_, fun idle valid => ?_⟩
    · subst hbody
      have fits : BankFields.fits ⟨b.code, r⟩ := by
        obtain ⟨h0, h1, h2, h3, h4, h5, h6, h7, h8, h9, h10, h11, h12, h13⟩ := hr
        refine ⟨code, ?_, ?_, ?_, ?_, ?_, ?_, ?_, ?_, ?_⟩ <;> dsimp only <;> omega
      have write := exec_writeBank ⟨b.code, r⟩ s fits
      have good := writeBank_good b r (acceptFrame (2 + (BankFields.bytes ⟨b.code, r⟩).length) s) hm hr
      refine ⟨fun busy => ?_, fun idle locked => ?_, fun idle unlocked => ?_⟩
      · exact exec_refused write hs (by simp) (good.trans (if_pos busy))
      · exact exec_refused write hs (by simp) (good.trans ((if_neg (not_not.2 idle)).trans (if_pos locked)))
      · exact exec_acts write hs (by simp) (good.trans ((if_neg (not_not.2 idle)).trans
          (if_neg (Bool.eq_false_iff.1 unlocked)))) rfl
    · exact exec_refused lock hs (small _) ((lockBank_named b (acceptFrame _ s) hm).trans (if_pos busy))
    · exact exec_refused lock hs (small _)
        ((lockBank_named b (acceptFrame _ s) hm).trans ((if_neg (not_not.2 idle)).trans (if_pos locked)))
    · exact exec_refused lock hs (small _) ((lockBank_named b (acceptFrame _ s) hm).trans ((if_neg (not_not.2 idle)).trans
        ((if_neg (Bool.eq_false_iff.1 unlocked)).trans (if_pos invalid))))
    · exact exec_acts lock hs (small _) ((lockBank_named b (acceptFrame _ s) hm).trans ((if_neg (not_not.2 idle)).trans
        ((if_neg (Bool.eq_false_iff.1 unlocked)).trans (if_neg (Bool.not_eq_false _ ▸ valid))))) rfl
    · exact exec_refused select hs (small _)
        ((selectBank_named b (acceptFrame _ s) hm).trans (if_pos ((StoreState.writes_iff _ b).2 ⟨r, writing⟩)))
    · have free : ¬ StoreState.writes s.cs.store b = true := by
        rw [StoreState.writes_iff]
        rintro ⟨r, hr⟩
        exact idle r hr
      exact exec_refused select hs (small _) ((selectBank_named b (acceptFrame _ s) hm).trans ((if_neg free).trans (if_pos invalid)))
    · have acts := exec_acts select hs (small _) (selectBank_taken b (acceptFrame _ s) hm idle valid) rfl
      obtain ⟨cs, ldu, eu, mc, pt, mon, ct, tcu, wsg, wgc, pu, lines, free⟩ :=
        selected_spec b (acceptFrame (2 + (natBytes 1 b.code).length) s) hm
      generalize selected b (acceptFrame (2 + (natBytes 1 b.code).length) s) = u at *
      refine ⟨_, acts, cs, ldu, rfl, mc, pt, mon, ct, tcu, wsg, wgc, pu, lines, fun settled => ?_⟩
      rw [finish_quiet u ((congrArg Eu.outbox eu).trans settled)]
      exact ⟨eu, free⟩

end Sys2Proof.Machine
end

section
/-! SUPPORT. What a step's handlings add to the notices that wait: one trigger adds one at most; with room, what was
generated joins (R173, R177). -/

namespace Sys2Proof.Machine

/-- The queue stands, and n notices at most wait behind those that waited. -/
def Eu.Adds (n : Nat) (u v : Eu) : Prop :=
  v.notices = u.notices ∧ ∃ l : List Posted, v.outbox = u.outbox ++ l ∧ l.length ≤ n

theorem Eu.Adds.refl (n : Nat) (u : Eu) : Eu.Adds n u u := ⟨rfl, [], by simp⟩

/-- R173: a trigger adds one notice at most. -/
theorem Eu.trigger_adds (u : Eu) (e : Event) : Eu.Adds 1 u (u.trigger e) := by
  refine ⟨(Eu.trigger_frame u e).2.2.2.1, ?_⟩
  unfold Eu.trigger
  split
  · exact ⟨[], by simp⟩
  · dsimp only
    split
    · exact ⟨[_], rfl, le_rfl⟩
    · exact ⟨[], by simp⟩

/-- R58: so does a computation of the levels. -/
theorem recompute_adds (s : State) : Eu.Adds 1 s.eu (recompute s).eu := by
  rw [recompute_eu]
  split
  · exact s.eu.trigger_adds .currentLimit
  · exact Eu.Adds.refl 1 s.eu

theorem bankChange_adds (s : State) : Eu.Adds 1 s.eu (bankChange s).eu := by
  unfold bankChange
  split
  · exact recompute_adds s
  · exact recompute_adds _

theorem bankLost_adds (s : State) : Eu.Adds 1 s.eu (bankLost s).eu := by
  unfold bankLost
  split <;> exact recompute_adds _

/-- R177: with room, what was generated has joined. -/
theorem mem_finish_notices (s : State) (x : Posted) (hx : x ∈ s.eu.outbox)
    (room : s.eu.notices.length + s.eu.outbox.length ≤ s.mc.noticeDepth) : x.notice ∈ (finish s).eu.notices := by
  obtain ⟨l, perm, joined⟩ := finish_room s room
  rw [joined]
  exact List.mem_append_right _ (perm.mem_iff.2 (List.mem_map_of_mem hx))

/-- R177: with room, the one notice of a step joins. -/
theorem finish_one (s : State) (x : Posted) (h : s.eu.outbox = [x]) (room : s.eu.notices.length < s.mc.noticeDepth) :
    finish s = s.setEu { s.eu with notices := s.eu.notices ++ [x.notice], outbox := [] } := by
  rw [finish_chain_room s (by rw [h]; exact List.pairwise_singleton _ _) (by rw [h]; exact room), h]
  rfl

end Sys2Proof.Machine
end

section
/-! SUPPORT. The completions of the store (R73, R197, R198), and obligation O53. -/

namespace Sys2Proof.Machine

/-- R197: the store and the notice of a completed write, before LDU takes what becomes of the active bank. -/
def writeStored (b : BankNo) (r x : CharRecord) (s : State) : State :=
  post .cs (.bankWritten b (if decide (x = r) then .written else .failed))
    (s.setCs
      { banks := s.cs.banks.put b { (s.cs.banks.get b) with record := x, valid := decide (x = r) }
        active := if s.cs.isActive b then (if decide (x = r) then some { bank := b, record := r } else none) else s.cs.active
        store := .idle })

theorem writeEnds_eq (b : BankNo) (r x : CharRecord) (s : State) :
    writeEnds b r x s =
      if s.cs.isActive b then (if decide (x = r) then bankChange (writeStored b r x s) else bankLost (writeStored b r x s))
      else writeStored b r x s := rfl

theorem writeEnds_cs (b : BankNo) (r x : CharRecord) (s : State) : (writeEnds b r x s).cs = (writeStored b r x s).cs := by
  rw [writeEnds_eq]
  split
  · split <;> simp
  · rfl

theorem writeEnds_inactive (b : BankNo) (r x : CharRecord) (s : State) (h : s.cs.isActive b = false) :
    (writeEnds b r x s).ldu = s.ldu := by
  rw [writeEnds_eq, h]
  rfl

/-- R73, R197: a record written into the active bank is a change of bank. -/
theorem writeEnds_active (b : BankNo) (r : CharRecord) (s : State) (h : s.cs.isActive b = true) :
    (writeEnds b r r s).ldu.ioff = 0 ∧ (writeEnds b r r s).ldu.clampMark = false := by
  have active : (writeStored b r r s).cs.characterization = some r := by
    simp [writeStored, post_eq, h, Cs.characterization]
  rw [writeEnds_eq, h, bankChange_some _ r active]
  simp [recompute_ldu]

/-- R197: behind the notice of a completed write waits one CURRENT_LIMIT at most. -/
theorem writeEnds_adds (b : BankNo) (r x : CharRecord) (s : State) :
    Eu.Adds 1 (writeStored b r x s).eu (writeEnds b r x s).eu := by
  rw [writeEnds_eq]
  split
  · split
    · exact bankChange_adds _
    · exact bankLost_adds _
  · exact Eu.Adds.refl 1 _

/-- R197: with room for both, BANK_WRITTEN has joined. -/
theorem writeEnds_told (b : BankNo) (r x : CharRecord) (s : State) (room : s.room 2) :
    Notice.bankWritten b (if x = r then .written else .failed) ∈ (finish (writeEnds b r x s)).eu.notices := by
  obtain ⟨settled, room⟩ := room
  obtain ⟨notices, l, outbox, few⟩ := writeEnds_adds b r x s
  have empty : s.eu.outbox = [] := settled
  have stored : (writeStored b r x s).eu.outbox = [⟨.cs, [], .bankWritten b (if x = r then .written else .failed)⟩] := by
    simp [writeStored, post_eq, empty]
  rw [stored] at outbox
  refine mem_finish_notices _ ⟨.cs, [], .bankWritten b (if x = r then .written else .failed)⟩ ?_ ?_
  · rw [outbox]
    simp
  · rw [outbox, notices, (writeEnds_frame b r x s).1]
    simp only [List.singleton_append, List.length_cons]
    exact le_trans (Nat.add_le_add_left (by omega) _) room

theorem Cs.isActive_iff (c : Cs) (b : BankNo) : c.isActive b = true ↔ ∃ a, c.active = some a ∧ a.bank = b := by
  unfold Cs.isActive
  cases c.active <;> simp

/-- Settles O53: by what the store was doing. -/
theorem storeCompletionsEndTheOperation : Obligations.StoreCompletionsEndTheOperation := by
  intro s x set
  have write : exec (.storeWriteComplete x) s = execStoreWriteComplete x s := rfl
  have lock : exec (.storeLockComplete set) s = execStoreLockComplete set s := rfl
  rw [write, lock]
  refine ⟨fun idle => ?_, fun b r writing => ?_, fun b locking room => ?_⟩
  · rw [execStoreWriteComplete, execStoreLockComplete, idle]
    exact ⟨rfl, rfl⟩
  · have told := writeEnds_told b r x s
    have cs := writeEnds_cs b r x s
    have inactive := writeEnds_inactive b r x s
    have active := writeEnds_active b r s
    obtain ⟨mc, pt, mon, ct, tcu, wsg, wgc, pu, cl, lines, -⟩ := writeEnds_frame b r x s
    refine ⟨finish (writeEnds b r x s), by rw [execStoreWriteComplete, writing], ?_⟩
    simp only [finish_frame, cs, writeStored, post_frame, State.setCs_cs, Three.get_put, if_true]
    refine ⟨trivial, trivial, trivial, fun h => h, fun c hc => if_neg hc, fun a ha other => ?_, fun a ha same => ?_, told, mc,
      pt, mon, ct, tcu, wsg, wgc, pu, cl, lines⟩
    · have elsewhere : s.cs.isActive b = false := by
        rw [Bool.eq_false_iff, ne_eq, Cs.isActive_iff]
        rintro ⟨a', ha', rfl⟩
        exact other (by rw [Option.some.inj (ha.symm.trans ha')])
      exact ⟨by rw [elsewhere]; rfl, inactive elsewhere⟩
    · have here : s.cs.isActive b = true := (Cs.isActive_iff _ _).2 ⟨a, ha, same⟩
      refine ⟨?_, fun other => by simp [here, other]⟩
      rintro rfl
      exact ⟨by simp [here], active here⟩
  · have empty : s.eu.outbox = [] := room.1
    have one : (lockEnds b set s).eu.outbox = [⟨.cs, [], .bankWritten b (if set then .locked else .failed)⟩] := by
      simp [lockEnds, post_eq, empty]
    have ends : execStoreLockComplete set s = .next (finish (lockEnds b set s)) := by rw [execStoreLockComplete, locking]
    rw [ends, finish_one _ _ one room.2, ← empty]
    rfl

end Sys2Proof.Machine
end

section
/-! SUPPORT. What the handlings after a completion's judgement leave of the Event Unit: the senses and the window
latches stand, and a notice that waited is queued at the end of the step unless one was dropped (R172, R177, R178). -/

namespace Sys2Proof.Machine

/-- A notice is in the queue, or waits to join it. -/
def Eu.holds (u : Eu) (n : Notice) : Prop := n ∈ u.notices ∨ ∃ x ∈ u.outbox, x.notice = n

/-- What the Event Unit keeps through a step's handlings and its end. -/
structure Eu.Carries (u v : Eu) : Prop where
  senses : v.senses = u.senses
  windows : ∀ c : Channel, v.latches.get c.event = u.latches.get c.event
  counted : min 255 u.dropped ≤ v.dropped
  held : u.dropped < 255 → v.dropped = u.dropped → ∀ n, u.holds n → v.holds n

theorem Eu.Carries.refl (u : Eu) : u.Carries u := ⟨rfl, fun _ => rfl, by omega, fun _ _ _ h => h⟩

theorem Eu.Carries.trans {u v w : Eu} (h : u.Carries v) (k : v.Carries w) : u.Carries w := by
  refine ⟨k.senses.trans h.senses, fun c => (k.windows c).trans (h.windows c), ?_, fun few same n hn => ?_⟩
  · have := h.counted
    have := k.counted
    omega
  · have := h.counted
    have := k.counted
    have middle : v.dropped = u.dropped := by omega
    exact k.held (by omega) (by omega) n (h.held few middle n hn)

theorem Eu.Follows.carries {x u : Eu} (h : x.Follows u) : u.Carries x := by
  refine ⟨h.senses, fun c => h.aside _ (eventAside_window c), by rw [h.dropped]; omega, fun _ _ n hn => ?_⟩
  rcases hn with queued | ⟨p, mem, rfl⟩
  · exact .inl (h.notices ▸ queued)
  · obtain ⟨y, hy, same⟩ := List.mem_map.1 (h.outbox.subset (List.mem_map_of_mem mem))
    exact .inr ⟨y, hy, same⟩

/-- R178: a drop shows in the dropped count while that is below 255. -/
theorem Eu.drop_counted (u : Eu) : min 255 u.dropped ≤ u.drop.dropped ∧ (u.dropped < 255 → u.drop.dropped ≠ u.dropped) := by
  unfold Eu.drop
  dsimp only [Eu.countDrop]
  split
  · dsimp only
    omega
  · split <;> (dsimp only; omega)

/-- A notice that is taken from the outbox joins, or is dropped. -/
theorem Eu.join_carries (u : Eu) (p q : List Posted) (z : Posted) (depth : Nat) (ho : u.outbox = p ++ z :: q) :
    u.Carries (({ u with outbox := p ++ q } : Eu).join depth z.notice) := by
  obtain ⟨-, senses, -, outbox⟩ := Eu.join_frame { u with outbox := p ++ q } depth z.notice
  have windows (c : Channel) :
      (({ u with outbox := p ++ q } : Eu).join depth z.notice).latches.get c.event = u.latches.get c.event := by
    rcases Eu.join_latches { u with outbox := p ++ q } depth z.notice with same | raised
    · rw [same]
    · rw [raised, PerEvent.get_put, if_neg (ne_of_eventAside (eventAside_window c) rfl)]
  by_cases room : u.notices.length < depth
  · have joined := Eu.join_room { u with outbox := p ++ q } depth z.notice room
    refine ⟨senses, windows, by rw [joined]; dsimp only; omega, fun _ _ n hn => ?_⟩
    rw [joined]
    rcases hn with queued | ⟨x, mem, rfl⟩
    · exact .inl (List.mem_append_left _ queued)
    · rw [ho] at mem
      by_cases taken : x = z
      · exact .inl (by simp [taken])
      · exact .inr ⟨x, by simpa [taken] using mem, rfl⟩
  · have dropped : ({ u with outbox := p ++ q } : Eu).join depth z.notice = ({ u with outbox := p ++ q } : Eu).drop := by
      rw [Eu.join, if_neg room]
    obtain ⟨counted, more⟩ := Eu.drop_counted { u with outbox := p ++ q }
    refine ⟨senses, windows, by rw [dropped]; exact counted, fun few same => absurd same ?_⟩
    rw [dropped]
    exact more few

theorem Eu.drain_carries (depth : Nat) : ∀ (k : Nat) (u : Eu) (free : Nat), u.Carries (Eu.drain k depth u free).1 := by
  intro k
  induction k with
  | zero => exact fun u _ => Eu.Carries.refl u
  | succ k ih =>
    intro u free
    by_cases empty : u.outbox = []
    · rw [Eu.drain_nil _ _ _ _ empty]
      exact Eu.Carries.refl u
    · obtain ⟨p, z, q, free', ho, -, taken⟩ := Eu.drain_takes k depth u free empty
      rw [taken]
      exact (Eu.join_carries u p q z depth ho).trans (ih _ free')

theorem finish_carries (s : State) : s.eu.Carries (finish s).eu := Eu.drain_carries _ _ _ _

theorem recompute_carries {u : Eu} (s : State) (h : u.Carries s.eu) : u.Carries (recompute s).eu :=
  h.trans (Eu.ite_trigger_follows _ _ rfl _).carries

/-- A change of mode keeps it too: its handlings are moves, but for the notice of the change and the levels. -/
theorem changeMode_carries (m : Mode) (g : SelfTest) (s : State) : s.eu.Carries (changeMode m g s).eu := by
  rw [changeMode_eq]
  have entered : s.eu.Carries (enterMode m g s).eu := (Eu.post_follows _ _ _).carries
  have reacted : Moves (enterMode m g s) (wgcModeReaction (tcuModeReaction s.mc.mode m (enterMode m g s))) :=
    ((Moves.refl _).tcuModeReaction _ _).wgcModeReaction
  have kept := entered.trans reacted.eu_follows.carries
  unfold lduModeReaction
  split <;> exact recompute_carries _ kept

/-- R173: a trigger sets no other latch. -/
theorem Eu.trigger_latch_other (u : Eu) (e d : Event) (h : d ≠ e) : (u.trigger e).latches.get d = u.latches.get d := by
  unfold Eu.trigger
  split
  · rfl
  · dsimp only
    split <;> simp [Eu.post, h]

theorem Eu.trigger_apc_carries (u : Eu) : u.Carries (u.trigger .apcLimit) := by
  obtain ⟨-, senses, -, notices, dropped⟩ := Eu.trigger_frame u .apcLimit
  obtain ⟨-, l, outbox, -⟩ := u.trigger_adds .apcLimit
  refine ⟨senses, fun c => u.trigger_latch_other _ _ ?_, by rw [dropped]; omega, fun _ _ n hn => ?_⟩
  · cases c <;> decide
  · unfold Eu.holds
    rw [notices, outbox]
    exact hn.imp_right fun ⟨x, mem, same⟩ => ⟨x, List.mem_append_left _ mem, same⟩

theorem apcUpdate_carries (v : Nat) (s : State) : s.eu.Carries (apcUpdate v s).eu := by
  unfold apcUpdate
  split
  · exact Eu.Carries.refl _
  · refine recompute_carries _ ?_
    dsimp only [State.setEu_eu]
    split
    · exact s.eu.trigger_apc_carries
    · exact Eu.Carries.refl _

theorem Stir.carries {s t : State} (h : Stir s t) : s.eu.Carries t.eu := by
  cases h with
  | move _ h => exact h.eu_follows.carries
  | track p _ _ => exact Eu.Carries.refl _
  | lock p _ => exact recompute_carries _ (Eu.Carries.refl _)
  | compute => exact recompute_carries _ (Eu.Carries.refl _)
  | apc v => exact apcUpdate_carries v s
  | mode m g => exact changeMode_carries m g s
  | finish => exact finish_carries s

theorem Stirs.carries {s t : State} (h : Stirs s t) : s.eu.Carries t.eu :=
  h.keeps (P := fun t => s.eu.Carries t.eu) (fun _ _ k ih => ih.trans k.carries) (Eu.Carries.refl _)

end Sys2Proof.Machine
end

section
/-! SUPPORT. A completion: what MON stores, what EU judges, and obligation O9 (R40 to R43, R172). -/

namespace Sys2Proof.Machine

theorem correct_eq (m : Mon) (c : Channel) (raw : RawCount) :
    (m.offsets.get c.index).correct raw.toNat = m.correctedValue c raw := by
  have small : raw.toNat < 4096 := raw.isLt
  cases sign : (m.offsets.get c.index).sign with
  | plus => simp only [Offset.correct, Mon.correctedValue, sign]
  | minus =>
    simp only [Offset.correct, Mon.correctedValue, sign]
    omega

/-- R42: a judgement is high exactly above an enabled window. -/
theorem Window.judge_high_iff (w : Window) (v : Nat) : w.judge v = .high ↔ w.enabled = true ∧ w.high < v := by
  unfold Window.judge
  split
  · next off => simp [off]
  · next on =>
    simp only [Bool.not_eq_false] at on
    split
    · next above => simp [on, above]
    · next within => split <;> simp [on, within]

theorem outOfWindow_iff (m : Mon) (c : Channel) (v : Nat) :
    ((m.windows.get c.index).judge v).out = true ↔ m.outOfWindow c v := by
  unfold Window.judge Mon.outOfWindow
  split
  · next off => simp [off, Judgement.out]
  · next on =>
    simp only [Bool.not_eq_false] at on
    split
    · next above => simp [on, above, Judgement.out]
    · next within =>
      split
      · next below => simp [on, below, Judgement.out]
      · next inside => simp [on, within, inside, Judgement.out]

theorem exec_completion_none (s : State) (raw : RawCount) (h : s.mon.inFlight = none) :
    exec (.conversionComplete raw) s = .next s := by
  show execConversionComplete raw s = _
  rw [execConversionComplete, h]

/-- R41: the completion is taken with its corrected value and the judgement of it. -/
theorem exec_completion (s : State) (raw : RawCount) (c : Channel) (h : s.mon.inFlight = some c) :
    exec (.conversionComplete raw) s = .next (conclude (deliver c (s.mon.correctedValue c raw)
      ((s.mon.windows.get c.index).judge (s.mon.correctedValue c raw)) (sampled c raw.toNat s))) := by
  show execConversionComplete raw s = _
  rw [execConversionComplete, h]
  dsimp only
  rw [takeCompletion_eq, correct_eq]

theorem event_ne {c d : Channel} (h : d ≠ c) : d.event ≠ c.event := by
  revert h
  cases c <;> cases d <;> decide

/-- R172: the judgement sets the sense of its channel alone. -/
theorem Eu.judged_senses (u : Eu) (c : Channel) (j : Judgement) :
    (u.judged c j).senses = u.senses.put c.index (if j.out then .outside else .inside) := by
  unfold Eu.judged
  dsimp only
  generalize (if j.out = true then WindowSense.outside else WindowSense.inside) = now
  split <;> simp

/-- R172: a judgement triggers the channel's event exactly at a move from in to out. -/
theorem Eu.judged_triggers (u : Eu) (c : Channel) (j : Judgement) (h : u.senses.get c.index = .inside ∧ j.out = true) :
    u.judged c j = ({ u with senses := u.senses.put c.index .outside } : Eu).trigger c.event := by
  simp [Eu.judged, h]

theorem Eu.judged_quiet (u : Eu) (c : Channel) (j : Judgement) (h : u.senses.get c.index = .outside ∨ j.out = false) :
    (u.judged c j) = { u with senses := u.senses.put c.index (if j.out then .outside else .inside) } := by
  rcases h with out | inside
  · simp [Eu.judged, out]
  · simp [Eu.judged, inside]

theorem Eu.judged_latch_other (u : Eu) (c : Channel) (j : Judgement) (e : Event) (h : e ≠ c.event) :
    (u.judged c j).latches.get e = u.latches.get e := by
  unfold Eu.judged
  dsimp only
  generalize (if j.out = true then WindowSense.outside else WindowSense.inside) = now
  split
  · exact Eu.trigger_latch_other _ _ _ h
  · rfl

theorem senseOf_window (u : Eu) (c : Channel) : u.senseOf c.event = some (.window (u.senses.get c.index)) := by
  cases c <;> rfl

/-- R173: where the latch was clear and the event is unmasked, the trigger's notice waits. -/
theorem Eu.judged_raises (u : Eu) (c : Channel) (j : Judgement) (h : u.senses.get c.index = .inside ∧ j.out = true)
    (clear : u.latches.get c.event = false) (unmasked : u.unmasked.get c.event = true) :
    (u.judged c j).holds (.eventRaised c.event (some (.window .outside))) := by
  rw [Eu.judged_triggers u c j h,
    Eu.trigger_unmasked { u with senses := u.senses.put c.index .outside } c.event clear unmasked]
  refine .inr ⟨_, List.mem_append_right _ (List.mem_singleton_self _), ?_⟩
  rw [senseOf_window]
  simp

/-- Settles O9. -/
theorem completionIsCorrectedStoredAndJudged : Obligations.CompletionIsCorrectedStoredAndJudged := by
  refine ⟨exec_completion_none, fun s raw c h => ?_⟩
  have out := outOfWindow_iff s.mon c (s.mon.correctedValue c raw)
  generalize hj : (s.mon.windows.get c.index).judge (s.mon.correctedValue c raw) = j at out
  have given : (sampled c raw.toNat s).eu = s.eu.judged c j := by
    rw [sampled, correct_eq, hj]
    rfl
  have carried := ((Stirs.refl (sampled c raw.toNat s)).deliver c (s.mon.correctedValue c raw) j).conclude.carries
  rw [given] at carried
  have acts := exec_completion s raw c h
  rw [hj] at acts
  have frame := conclude_frame (deliver c (s.mon.correctedValue c raw) j (sampled c raw.toNat s))
  simp only [deliver_frame] at frame
  obtain ⟨mon, pu, cl, cs, lines, -⟩ := frame
  have empty : (conclude (deliver c (s.mon.correctedValue c raw) j (sampled c raw.toNat s))).eu.outbox = [] :=
    (finish_eu _).1
  generalize conclude (deliver c (s.mon.correctedValue c raw) j (sampled c raw.toNat s)) = t at *
  obtain ⟨senses, windows, -, held⟩ := carried
  rw [Eu.judged_senses] at senses
  rw [(s.eu.judged_frame c j).2] at held
  refine ⟨t, acts, ?_, fun d hd => ?_, fun ho => ?_, fun ho => ?_, fun hs ho => ⟨?_, fun clear unmasked few same => ?_⟩,
    fun ho => ?_, fun d hd => ?_, pu, cl, cs, lines⟩
  · rw [mon, sampled, correct_eq]
    rfl
  · rw [senses, Eight.get_put, if_neg fun same => hd (Channel.index_inj same)]
  · rw [senses, Eight.get_put, if_pos rfl, if_pos (out.2 ho)]
  · rw [senses, Eight.get_put, if_pos rfl, if_neg (mt out.1 ho)]
  · rw [windows, Eu.judged_triggers _ _ _ ⟨hs, out.2 ho⟩, Eu.trigger_latched]
  · rcases held few same _ (s.eu.judged_raises c j ⟨hs, out.2 ho⟩ clear unmasked) with queued | ⟨x, mem, -⟩
    · exact queued
    · rw [empty] at mem
      exact absurd mem (by simp)
  · have quiet : s.eu.senses.get c.index = .outside ∨ j.out = false :=
      ho.imp_right fun inside => by simpa using mt out.1 inside
    rw [windows, Eu.judged_quiet _ _ _ quiet]
  · rw [windows, Eu.judged_latch_other _ _ _ _ (event_ne hd)]

end Sys2Proof.Machine
end

section
/-! SUPPORT. What a sample is gathered for (R104, R140), and obligation O10. -/

namespace Sys2Proof.Machine

/-- R140: a value joins the return level of a block being written. -/
theorem wgcReturn_eq (v : Nat) (s : State) :
    wgcReturn v s = s.setWgc (if s.wgc.headWrites = true then
      { s.wgc with returns := { sum := s.wgc.returns.sum + v, count := s.wgc.returns.count + 1 } } else s.wgc) := by
  unfold wgcReturn
  split <;> rfl

theorem tcuSample_none (c : Channel) (v : Nat) (s : State) (h : s.tcu.trial = none) : tcuSample c v s = s := by
  rw [tcuSample, h]

theorem tcuSample_waits (c : Channel) (v : Nat) (s : State) (x : Trial) (h : s.tcu.trial = some x)
    (hx : x.sub ≠ .measuring) : tcuSample c v s = s := by
  rw [tcuSample, h]
  exact if_neg hx

/-- R104: the step that a value of one of the three channels leaves. -/
def TrialStep.gather (c : Channel) (v : Nat) (g : TrialStep) : TrialStep :=
  if c = .rsum then { g with rsum := { sum := g.rsum.sum + v, count := g.rsum.count + 1 } }
  else if c = .rtop then { g with rtop := { sum := g.rtop.sum + v, count := g.rtop.count + 1 } }
  else { g with rbot := { sum := g.rbot.sum + v, count := g.rbot.count + 1 } }

theorem tcuSample_measures (c : Channel) (v : Nat) (s : State) (x : Trial) (h : s.tcu.trial = some x)
    (hx : x.sub = .measuring) (hc : c = .rsum ∨ c = .rtop ∨ c = .rbot) :
    tcuSample c v s = setTrial { x with steps := x.steps.modify (x.index - 1) (TrialStep.gather c v) } s := by
  rw [tcuSample, h]
  dsimp only
  rw [if_pos hx]
  rcases hc with rfl | rfl | rfl <;> rfl

/-- A sample changes TCU alone. -/
theorem tcuSample_eq (c : Channel) (v : Nat) (s : State) : tcuSample c v s = s.setTcu (tcuSample c v s).tcu := by
  unfold tcuSample
  split
  · rfl
  · split <;> rfl

/-- R35: the delivery of a sample: WGC takes RSUM, and TCU takes the three channels of the read signal. -/
theorem deliver_sample (c : Channel) (v : Nat) (j : Judgement) (s : State) (hc : c = .rsum ∨ c = .rtop ∨ c = .rbot) :
    deliver c v j s = tcuSample c v (if c = .rsum then wgcReturn v s else s) := by
  rcases hc with rfl | rfl | rfl <;> rfl

theorem deliver_sample_wgc (c : Channel) (v : Nat) (j : Judgement) (s : State)
    (hc : c = .rsum ∨ c = .rtop ∨ c = .rbot ∨ c = .aux) :
    (deliver c v j s).wgc = if c = .rsum ∧ s.wgc.headWrites = true then
      { s.wgc with returns := { sum := s.wgc.returns.sum + v, count := s.wgc.returns.count + 1 } } else s.wgc := by
  rcases hc with rfl | rfl | rfl | rfl
  · rw [deliver_sample .rsum v j s (.inl rfl), tcuSample_eq, State.setTcu_wgc, if_pos rfl, wgcReturn_eq]
    simp
  · rw [deliver_sample .rtop v j s (.inr (.inl rfl)), tcuSample_eq]
    simp
  · rw [deliver_sample .rbot v j s (.inr (.inr rfl)), tcuSample_eq]
    simp
  · simp [deliver]

/-- The delivery of a sample changes WGC and TCU alone. -/
theorem deliver_sample_eq (c : Channel) (v : Nat) (j : Judgement) (s : State)
    (hc : c = .rsum ∨ c = .rtop ∨ c = .rbot ∨ c = .aux) :
    deliver c v j s = (s.setWgc (deliver c v j s).wgc).setTcu (deliver c v j s).tcu := by
  have sampled (hc : c = .rsum ∨ c = .rtop ∨ c = .rbot) :
      deliver c v j s = (s.setWgc (deliver c v j s).wgc).setTcu (deliver c v j s).tcu := by
    rw [deliver_sample c v j s hc, tcuSample_eq]
    split
    · rw [wgcReturn_eq]
      rfl
    · rfl
  rcases hc with h | h | h | rfl
  · exact sampled (.inl h)
  · exact sampled (.inr (.inl h))
  · exact sampled (.inr (.inr h))
  · rfl

/-- What TCU is after the delivery of a sample, by what the trial does. -/
theorem deliver_sample_tcu (c : Channel) (v : Nat) (j : Judgement) (s : State)
    (hc : c = .rsum ∨ c = .rtop ∨ c = .rbot ∨ c = .aux) :
    (s.tcu.trial = none ∨ c = .aux → (deliver c v j s).tcu = s.tcu) ∧
      (∀ x, s.tcu.trial = some x → x.sub ≠ .measuring → (deliver c v j s).tcu = s.tcu) ∧
      (∀ x, s.tcu.trial = some x → x.sub = .measuring → c ≠ .aux → (deliver c v j s).tcu =
        { s.tcu with trial := some { x with steps := x.steps.modify (x.index - 1) (TrialStep.gather c v) } }) := by
  by_cases aux : c = .aux
  · subst aux
    exact ⟨fun _ => rfl, fun _ _ _ => rfl, fun _ _ _ h => absurd rfl h⟩
  · have three : c = .rsum ∨ c = .rtop ∨ c = .rbot := by tauto
    rw [deliver_sample c v j s three]
    have same : (if c = .rsum then wgcReturn v s else s).tcu = s.tcu := by
      split <;> simp
    generalize (if c = .rsum then wgcReturn v s else s) = u at same
    rw [← same]
    refine ⟨fun h => ?_, fun x hx hs => ?_, fun x hx hs _ => ?_⟩
    · rw [tcuSample_none c v u (h.resolve_right aux)]
    · rw [tcuSample_waits c v u x hx hs]
    · rw [tcuSample_measures c v u x hx hs three]
      rfl

/-- The end of a step keeps what was changed before it. -/
theorem finish_within (s t : State) (h : t = { s with mon := t.mon, eu := t.eu, wgc := t.wgc, tcu := t.tcu }) :
    finish t = { s with
      mon := (finish t).mon, eu := (finish t).eu, wgc := (finish t).wgc, tcu := (finish t).tcu
      free := (finish t).free } :=
  congrArg (fun x => (x.setEu (finish t).eu).setFree (finish t).free) h

/-- Settles O10. -/
theorem samplesAreGathered : Obligations.SamplesAreGathered := by
  rintro s raw c v h hr rfl hc
  have acts := exec_completion s raw c h
  generalize (s.mon.windows.get c.index).judge (s.mon.correctedValue c raw) = j at acts
  have wgc := deliver_sample_wgc c (s.mon.correctedValue c raw) j (sampled c raw.toNat s) hc
  have tcu := deliver_sample_tcu c (s.mon.correctedValue c raw) j (sampled c raw.toNat s) hc
  have within := deliver_sample_eq c (s.mon.correctedValue c raw) j (sampled c raw.toNat s) hc
  generalize deliver c (s.mon.correctedValue c raw) j (sampled c raw.toNat s) = t at *
  have request : t.mc.request = none := by
    rw [within]
    exact hr
  have mine : t = { s with mon := t.mon, eu := t.eu, wgc := t.wgc, tcu := t.tcu } := by
    rw [within]
    rfl
  rw [conclude_none _ request] at acts
  exact ⟨_, acts, finish_within s t mine, wgc, tcu⟩

end Sys2Proof.Machine
end

section
/-! SUPPORT. The levels LDU computes, and the event of an entry into the limited condition (R53 to R59). -/

namespace Sys2Proof.Machine

theorem newlyLimited_iff (m : Mode) (old new : Levels) : newlyLimited m old new = true ↔ old.entersLimit m new := by
  unfold newlyLimited Levels.entersLimit
  simp only [Bool.or_eq_true, Bool.and_eq_true, Bool.not_eq_true', decide_eq_true_eq]
  tauto

/-- R58: at an entry into the limited condition a computation of the levels triggers CURRENT_LIMIT. -/
theorem recompute_enters (s : State) (h : s.ldu.levels.entersLimit s.mc.mode s.levelsNow) :
    (recompute s).eu = s.eu.trigger .currentLimit := by
  rw [recompute_eu, if_pos ((newlyLimited_iff _ _ _).2 h)]

/-- R58: otherwise the Event Unit stands. -/
theorem recompute_enters_not (s : State) (h : ¬ s.ldu.levels.entersLimit s.mc.mode s.levelsNow) :
    (recompute s).eu = s.eu := by
  rw [recompute_eu, if_neg (mt (newlyLimited_iff _ _ _).1 h)]

/-- A computation of the levels latches CURRENT_LIMIT as it is to, if what was done before and after it left that latch, the
levels and the mode. -/
theorem limitIsLatched_of {s t : State} (u : State) (levels : u.ldu.levels = s.ldu.levels) (mode : u.mc.mode = s.mc.mode)
    (before : u.eu.latches.get .currentLimit = s.eu.latches.get .currentLimit) (now : t.ldu.levels = u.levelsNow)
    (after : t.eu.latches.get .currentLimit = (recompute u).eu.latches.get .currentLimit) : LimitIsLatched s t := by
  unfold LimitIsLatched
  rw [now, after, ← levels, ← mode, ← before]
  exact ⟨fun enters => by rw [recompute_enters u enters, Eu.trigger_latched], fun not => by rw [recompute_enters_not u not]⟩

/-- R173: what the end of a step makes of one trigger of an event that carries no sense. -/
theorem finish_trigger (v : State) (u : Eu) (e : Event) (hv : v.eu = u.trigger e) (plain : ∀ x : Eu, x.senseOf e = none)
    (empty : u.outbox = []) (room : u.notices.length < v.mc.noticeDepth) :
    (u.latches.get e = true → (finish v).eu = u) ∧
      (u.latches.get e = false → u.unmasked.get e = false → (finish v).eu = { u with latches := u.latches.put e true }) ∧
      (u.latches.get e = false → u.unmasked.get e = true → (finish v).eu = { u with
        latches := u.latches.put e true, notices := u.notices ++ [.eventRaised e none] }) := by
  refine ⟨fun set => ?_, fun clear masked => ?_, fun clear unmasked => ?_⟩
  · rw [Eu.trigger_set u e set] at hv
    rw [finish_quiet v (by rw [hv, empty]), hv]
  · rw [Eu.trigger_masked u e clear masked] at hv
    rw [finish_quiet v (by rw [hv]; exact empty), hv]
  · rw [Eu.trigger_unmasked u e clear unmasked, plain] at hv
    rw [finish_one v ⟨.event e, [], .eventRaised e none⟩ (by rw [hv, Eu.post]; simp [empty]) (by rw [hv]; exact room)]
    simp [hv, Eu.post, empty]

/-- R55, R57 to R59: what LDU makes of one power. -/
theorem computeLevel_converts (r : CharRecord) (t ioff : Int) (power : Nat) :
    (computeLevel r t ioff power).converts r t ioff power := by
  by_cases zero : power = 0
  · refine ⟨?_, fun _ => ?_, fun some => absurd zero (by omega)⟩ <;> rw [computeLevel, if_pos zero]
    · exact zero.symm
    · exact ⟨rfl, rfl, rfl⟩
  · refine ⟨?_, fun z => absurd z zero, fun _ sum hsum => ?_⟩ <;> rw [computeLevel, if_neg zero]
    have same : unclampedCurrent r t ioff power = sum := hsum.symm
    rw [same]
    have lifted : (((clampInt 0 r.imax sum).toNat : Nat) : Int) = clampInt 0 r.imax sum :=
      Int.toNat_of_nonneg (le_max_left _ _)
    refine ⟨lifted, rfl, ?_⟩
    show ((min 4095 (divRoundNat (clampInt 0 r.imax sum).toNat 50) : Nat) : Int) = _
    rw [Nat.cast_min, ← divRound_natCast]
    rfl

theorem levelsNow_powers (s : State) :
    s.levelsNow.read.power = s.ldu.readPower.get s.pt.surface ∧ s.levelsNow.peak.power = (powersOf s.ldu.writeSet).peak ∧
      s.levelsNow.bias.power = (powersOf s.ldu.writeSet).bias ∧
      s.levelsNow.cool.power = (powersOf s.ldu.writeSet).cool := by
  have power (r : CharRecord) (p : Nat) : (computeLevel r s.temperature s.ldu.ioff p).power = p :=
    (computeLevel_converts r s.temperature s.ldu.ioff p).1
  unfold State.levelsNow computeLevels
  dsimp only
  split
  · exact ⟨rfl, rfl, rfl, rfl⟩
  · split
    · exact ⟨rfl, rfl, rfl, rfl⟩
    · split
      · exact ⟨power _ _, rfl, rfl, rfl⟩
      · exact ⟨power _ _, power _ _, power _ _, power _ _⟩

/-- R53, R54: with an active bank and the laser on, each level comes from its own power, but in SELFTEST. -/
theorem levelsNow_on (s : State) (r : CharRecord) (h : s.cs.characterization = some r) (on : s.mc.mode.laserOff = false) :
    s.levelsNow.read = computeLevel r s.temperature s.ldu.ioff (s.ldu.readPower.get s.pt.surface) ∧
      (s.mc.mode ≠ .selftest →
        s.levelsNow.peak = computeLevel r s.temperature s.ldu.ioff (powersOf s.ldu.writeSet).peak ∧
        s.levelsNow.bias = computeLevel r s.temperature s.ldu.ioff (powersOf s.ldu.writeSet).bias ∧
        s.levelsNow.cool = computeLevel r s.temperature s.ldu.ioff (powersOf s.ldu.writeSet).cool) ∧
      (s.mc.mode = .selftest → ∀ l ∈ [s.levelsNow.peak, s.levelsNow.bias, s.levelsNow.cool],
        l = { s.levelsNow.read with power := l.power }) := by
  have lit : ¬ s.mc.mode.laserOff = true := by simp [on]
  unfold State.levelsNow computeLevels
  rw [h]
  dsimp only
  rw [if_neg lit]
  by_cases self : s.mc.mode = .selftest
  · rw [if_pos self]
    exact ⟨rfl, fun not => absurd self not, fun _ => by simp⟩
  · rw [if_neg self]
    exact ⟨rfl, fun _ => ⟨rfl, rfl, rfl⟩, fun is => absurd is self⟩

end Sys2Proof.Machine
end

section
/-! SUPPORT. SET_READ_POWER and SET_APC (R67, R70), and obligation O15. -/

namespace Sys2Proof.Machine

/-- R70: LDU with a read power stored. -/
def powered (f : Surface) (p : Nat) (s : State) : State :=
  recompute (s.setLdu { s.ldu with readPower := s.ldu.readPower.put f p })

theorem powered_ldu (f : Surface) (p : Nat) (s : State) :
    (powered f p s).ldu = { s.ldu with
      readPower := s.ldu.readPower.put f p, levels := (powered f p s).levelsNow } := rfl

theorem powered_frame (f : Surface) (p : Nat) (s : State) :
    (powered f p s).mc = s.mc ∧ (powered f p s).pt = s.pt ∧ (powered f p s).mon = s.mon ∧ (powered f p s).ct = s.ct ∧
      (powered f p s).tcu = s.tcu ∧ (powered f p s).wsg = s.wsg ∧ (powered f p s).wgc = s.wgc ∧
      (powered f p s).pu = s.pu ∧ (powered f p s).cs = s.cs ∧ (powered f p s).lines = s.lines ∧
      (powered f p s).free = s.free :=
  ⟨rfl, rfl, rfl, rfl, rfl, rfl, rfl, rfl, rfl, rfl, rfl⟩

/-- R58: the Event Unit once a read power is stored. -/
theorem powered_eu (f : Surface) (p : Nat) (s : State) :
    (s.ldu.levels.entersLimit s.mc.mode (powered f p s).ldu.levels → (powered f p s).eu = s.eu.trigger .currentLimit) ∧
      (¬ s.ldu.levels.entersLimit s.mc.mode (powered f p s).ldu.levels → (powered f p s).eu = s.eu) :=
  ⟨recompute_enters (s.setLdu { s.ldu with readPower := s.ldu.readPower.put f p }),
    recompute_enters_not (s.setLdu { s.ldu with readPower := s.ldu.readPower.put f p })⟩

theorem setReadPower_wrongMode (f : ReadPowerFields) (s : State) (h : s.cs.characterization = none) :
    setReadPower f s = refuse .wrongMode s := by
  rw [setReadPower, h]

theorem setReadPower_badValue (f : ReadPowerFields) (s : State) (h : s.cs.characterization ≠ none) (hf : 2 ≤ f.surface) :
    setReadPower f s = refuse .badValue s := by
  obtain ⟨r, hr⟩ := Option.ne_none_iff_exists'.1 h
  rw [setReadPower, hr, nameAt_eq_none Surface.all f.surface hf]

theorem setReadPower_taken (f : Surface) (p : Nat) (r : CharRecord) (s : State) (h : s.cs.characterization = some r) :
    setReadPower ⟨f.code, p⟩ s =
      ({ powered f (max 100 (min r.maxRead p)) s with
          eu := (finish (powered f (max 100 (min r.maxRead p)) s)).eu
          free := (finish (powered f (max 100 (min r.maxRead p)) s)).free },
        { status := .ok, clamped := decide (max 100 (min r.maxRead p) ≠ p)
          body := surfaceByte f ++ natBytes 2 (max 100 (min r.maxRead p)) }) := by
  rw [setReadPower, h]
  dsimp only
  rw [nameAt_surface]
  rfl

theorem setApc_taken (on : Bool) (s : State) :
    setApc on.toNat s = (s.setLdu { s.ldu with apcOn := on }, plain .ok) := by
  rw [setApc, flagOf_toNat]

/-- Settles O15. -/
theorem laserSettingsAreTaken : Obligations.LaserSettingsAreTaken := by
  refine ⟨fun s w hw => ?_, fun s p hs hp => ⟨fun r f hr => ?_, fun f hf hn => ?_, fun f hf hn hl => ?_, fun on => ?_⟩⟩
  · subst hw
    obtain ⟨read, peak, bias, cool⟩ := levelsNow_powers s
    refine ⟨read, peak, bias, cool, fun r hr hm => ?_, fun off => levelsNow_off s (off.imp_right fun h => ?_)⟩
    · have on : s.mc.mode.laserOff = false := by rcases hm with h | h | h <;> rw [h] <;> rfl
      obtain ⟨level, own, self⟩ := levelsNow_on s r hr on
      refine ⟨level ▸ computeLevel_converts r s.temperature s.ldu.ioff _, fun not => ?_, self⟩
      obtain ⟨hp, hb, hc⟩ := own not
      rw [hp, hb, hc]
      exact ⟨computeLevel_converts r _ _ _, computeLevel_converts r _ _ _, computeLevel_converts r _ _ _⟩
    · rcases h with h | h | h <;> rw [h] <;> rfl
  · have code : f.code < 256 := by have := f.code_lt; omega
    have acts := exec_acts (exec_setReadPower ⟨f.code, p⟩ s code (by simpa using hp)) hs (by simp)
      (setReadPower_taken f p r (acceptFrame _ s) hr) rfl
    generalize hq : max 100 (min r.maxRead p) = q at acts ⊢
    generalize ha : acceptFrame (2 + (ReadPowerFields.bytes ⟨f.code, p⟩).length) s = a at acts
    have event : a.eu = s.eu := by rw [← ha]; rfl
    have ldu : a.ldu = s.ldu := by rw [← ha]; rfl
    have frame : a.mc = s.mc ∧ a.pt = s.pt ∧ a.mon = s.mon ∧ a.ct = s.ct ∧ a.tcu = s.tcu ∧ a.wsg = s.wsg ∧ a.wgc = s.wgc ∧
        a.pu = s.pu ∧ a.cs = s.cs ∧ a.lines = s.lines ∧ a.free = s.free := by
      rw [← ha]
      exact ⟨rfl, rfl, rfl, rfl, rfl, rfl, rfl, rfl, rfl, rfl, rfl⟩
    clear ha
    obtain ⟨enters, stands⟩ := powered_eu f q a
    have latched : LimitIsLatched a (finish (powered f q a)) :=
      limitIsLatched_of (a.setLdu { a.ldu with readPower := a.ldu.readPower.put f q }) rfl rfl rfl rfl
        (finish_latch_other _ _ (by decide))
    have stored := powered_ldu f q a
    have kept := powered_frame f q a
    generalize powered f q a = u at *
    obtain ⟨mc, pt, mon, ct, tcu, wsg, wgc, pu, cs, lines, free⟩ := frame
    rw [mc, pt, mon, ct, tcu, wsg, wgc, pu, cs, lines, free] at kept
    unfold LimitIsLatched at latched
    rw [event, ldu, mc] at latched enters stands
    rw [ldu] at stored
    obtain ⟨mc', pt', mon', ct', tcu', wsg', wgc', pu', cs', lines', free'⟩ := kept
    refine ⟨_, acts, stored, rfl, mc', pt', mon', ct', tcu', wsg', wgc', pu', cs', lines', latched, fun settled not => ?_,
      fun room ent => ?_⟩
    · have quiet := finish_quiet u (by rw [stands not]; exact settled)
      exact ⟨(congrArg State.eu quiet).trans (stands not), (congrArg State.free quiet).trans free'⟩
    · exact finish_trigger u s.eu .currentLimit (enters ent) (fun _ => rfl) room.1 (by rw [mc']; exact room.2)
  · exact exec_refused (exec_setReadPower ⟨f, p⟩ s hf (by simpa using hp)) hs (by simp)
      (setReadPower_wrongMode ⟨f, p⟩ (acceptFrame _ s) hn)
  · exact exec_refused (exec_setReadPower ⟨f, p⟩ s hf (by simpa using hp)) hs (by simp)
      (setReadPower_badValue ⟨f, p⟩ (acceptFrame _ s) hn hl)
  · exact exec_acts (exec_setApc on.toNat s (by cases on <;> decide)) hs (by simp) (setApc_taken on (acceptFrame _ s)) rfl

end Sys2Proof.Machine
end

section
/-! SUPPORT. A TEMP completion: temperature, levels and records (R45, R62, R89), and obligation O13. -/

namespace Sys2Proof.Machine

theorem recompute_latch_other (s : State) (e : Event) (h : e ≠ .currentLimit) :
    (recompute s).eu.latches.get e = s.eu.latches.get e := by
  rw [recompute_eu]
  split
  · exact Eu.trigger_latch_other _ _ _ h
  · rfl

theorem Ct.record_mem (c : Ct) (k : CalKey) : c.record k ∈ c.allRecords := by
  obtain ⟨f, v, z⟩ := k
  have zones (t : Eight CalRecord) (i : Fin 8) : t.get i ∈ t.toList := by
    fin_cases i <;> simp [Eight.get, Eight.toList]
  have classes (t : Four (Eight CalRecord)) (i : Fin 4) : t.get i ∈ t.toList := by
    fin_cases i <;> simp [Four.get, Four.toList]
  refine List.mem_flatMap.2 ⟨(c.records.get f).get v.index, ?_, zones _ z⟩
  cases f
  · exact List.mem_append_left _ (classes _ _)
  · exact List.mem_append_right _ (classes _ _)

/-- R89: a VALID record goes stale exactly further than the stale span from the temperature. -/
theorem goesStale_valid (x : CalFields) (t : Int) (span : Nat) :
    CalRecord.goesStale { state := .valid, fields := some x } t span = true ↔ (span : Int) < |x.calTemp - t| := by
  rw [CalRecord.goesStale, decide_eq_true_eq, Int.natCast_natAbs]

theorem goesStale_other (r : CalRecord) (t : Int) (span : Nat) (h : r.state ≠ .valid) : r.goesStale t span = false := by
  unfold CalRecord.goesStale
  split
  · next hs _ => exact absurd hs h
  · rfl

/-- R89: what the judgement of the records leaves of the table and the latch. -/
theorem judgeStale_spec (s : State) :
    (∀ (k : CalKey) (x : CalFields), s.ct.record k = { state := .valid, fields := some x } →
      (s.ct.staleSpan : Int) < |x.calTemp - s.temperature| →
      (judgeStale s).ct.record k = { state := .stale, fields := some x } ∧
        (judgeStale s).eu.latches.get .calStale = true) ∧
    (∀ (k : CalKey) (x : CalFields), s.ct.record k = { state := .valid, fields := some x } →
      |x.calTemp - s.temperature| ≤ (s.ct.staleSpan : Int) → (judgeStale s).ct.record k = s.ct.record k) ∧
    (∀ k : CalKey, (s.ct.record k).state ≠ .valid → (judgeStale s).ct.record k = s.ct.record k) := by
  refine ⟨fun k x hk far => ?_, fun k x hk near => ?_, fun k hk => ?_⟩
  · have stale := (goesStale_valid x s.temperature s.ct.staleSpan).2 far
    refine ⟨by rw [judgeStale_record, hk, CalRecord.judged, if_pos stale], ?_⟩
    have some : s.ct.allRecords.any (fun r => r.goesStale s.temperature s.ct.staleSpan) = true :=
      List.any_eq_true.2 ⟨_, s.ct.record_mem k, by rw [hk]; exact stale⟩
    show (if _ then s.eu.trigger .calStale else s.eu).latches.get .calStale = true
    rw [if_pos some]
    exact s.eu.trigger_latched .calStale
  · have fresh := mt (goesStale_valid x s.temperature s.ct.staleSpan).1 (not_lt.2 near)
    rw [judgeStale_record, hk, CalRecord.judged, if_neg fresh]
  · rw [judgeStale_record, CalRecord.judged, goesStale_other _ _ _ hk]
    rfl

theorem judgeStale_latch_other (s : State) (e : Event) (h : e ≠ .calStale) :
    (judgeStale s).eu.latches.get e = s.eu.latches.get e := by
  show (if _ then s.eu.trigger .calStale else s.eu).latches.get e = _
  split
  · exact Eu.trigger_latch_other _ _ _ h
  · rfl

/-- EU's judgement of a completion latches the channel's event at most. -/
theorem sampled_latch_other (c : Channel) (raw : Nat) (s : State) (e : Event) (h : e ≠ c.event) :
    (sampled c raw s).eu.latches.get e = s.eu.latches.get e := Eu.judged_latch_other _ _ _ _ h

theorem sampled_temp (raw : RawCount) (s : State) :
    (sampled .temp raw.toNat s).temperature =
      clampInt (-400) 1250 (250 + divRound (((s.mon.correctedValue .temp raw : Int) - 1000) * 9) 8) := by
  rw [← correct_eq]
  rfl

/-- Settles O13. -/
theorem temperatureCompletionActsOnLevelsAndRecords : Obligations.TemperatureCompletionActsOnLevelsAndRecords := by
  intro s raw h hr
  have acts := exec_completion s raw .temp h
  have delivered (v : Nat) (j : Judgement) :
      deliver .temp v j (sampled .temp raw.toNat s) = judgeStale (recompute (sampled .temp raw.toNat s)) := rfl
  rw [delivered, conclude_none (judgeStale (recompute (sampled .temp raw.toNat s))) hr] at acts
  have measured := sampled_temp raw s
  have latch := sampled_latch_other .temp raw.toNat s .currentLimit (by decide)
  have frame : (sampled .temp raw.toNat s).mc = s.mc ∧ (sampled .temp raw.toNat s).ldu = s.ldu ∧
      (sampled .temp raw.toNat s).ct = s.ct ∧ (sampled .temp raw.toNat s).wgc = s.wgc ∧
      (sampled .temp raw.toNat s).tcu = s.tcu ∧ (sampled .temp raw.toNat s).wsg = s.wsg ∧
      (sampled .temp raw.toNat s).pt = s.pt := ⟨rfl, rfl, rfl, rfl, rfl, rfl, rfl⟩
  generalize sampled .temp raw.toNat s = u at *
  obtain ⟨mc, ldu, ct, wgc, tcu, wsg, pt⟩ := frame
  obtain ⟨far, near, other⟩ := judgeStale_spec (recompute u)
  have records : (recompute u).ct = s.ct := ct
  rw [records] at far near other
  refine ⟨_, acts, measured, ?_, ?_, fun k x hk hf => ?_, near, other, ?_, ?_, ?_, mc, wgc, tcu, wsg, pt⟩
  · rw [← ldu]
    rfl
  · refine limitIsLatched_of u (by rw [ldu]) (by rw [mc]) latch rfl ?_
    rw [finish_latch_other _ _ (by decide), judgeStale_latch_other _ _ (by decide)]
  · obtain ⟨stale, latched⟩ := far k x hk hf
    exact ⟨stale, finish_latched _ _ latched⟩
  · rw [← ct]
    rfl
  · rw [← ct]
    rfl
  · rw [← ct]
    rfl

end Sys2Proof.Machine
end

section
/-! SUPPORT. APC (R64 to R66), and obligation O12. -/

namespace Sys2Proof.Machine

/-- R65: Ioff as an update would move it. -/
def apcWanted (v : Nat) (r : CharRecord) (s : State) : Int :=
  s.ldu.ioff - apcFall r s.temperature (s.ldu.readPower.get s.pt.surface) v

/-- R65, R66: LDU with the offset moved, before the levels are computed. -/
def trimmed (v : Nat) (r : CharRecord) (s : State) : State :=
  (s.setLdu { s.ldu with
    ioff := clampInt (-20000) 20000 (apcWanted v r s)
    clampMark := decide (clampInt (-20000) 20000 (apcWanted v r s) ≠ apcWanted v r s) }).setEu
    (if decide (clampInt (-20000) 20000 (apcWanted v r s) ≠ apcWanted v r s) && !s.ldu.clampMark then
      s.eu.trigger .apcLimit else s.eu)

theorem apcUpdate_eq (v : Nat) (r : CharRecord) (s : State) (h : s.cs.characterization = some r) :
    apcUpdate v s = recompute (trimmed v r s) := by
  rw [apcUpdate, h]
  rfl

theorem trimmed_latches (v : Nat) (r : CharRecord) (s : State) :
    (clampInt (-20000) 20000 (apcWanted v r s) ≠ apcWanted v r s → s.ldu.clampMark = false →
      (trimmed v r s).eu.latches.get .apcLimit = true) ∧
    (clampInt (-20000) 20000 (apcWanted v r s) = apcWanted v r s ∨ s.ldu.clampMark = true →
      (trimmed v r s).eu.latches.get .apcLimit = s.eu.latches.get .apcLimit) ∧
    (trimmed v r s).eu.latches.get .currentLimit = s.eu.latches.get .currentLimit := by
  unfold trimmed
  dsimp only [State.setEu_eu]
  refine ⟨fun held clear => ?_, fun h => ?_, ?_⟩
  · rw [if_pos (by simp [held, clear])]
    exact s.eu.trigger_latched .apcLimit
  · rw [if_neg (by rcases h with free | set <;> simp [*])]
  · split
    · exact Eu.trigger_latch_other _ _ _ (by decide)
    · rfl

/-- R11, R69: a value that is not above its window reaches LDU alone. -/
theorem deliver_fmon_within (v : Nat) (j : Judgement) (s : State) (hj : j ≠ .high) :
    deliver .fmon v j s = lduFmon v s := by
  have noFault (u : State) : faultCause j u = false := by simp [faultCause, hj]
  show deliverFmon v j s = _
  simp only [deliverFmon, mcFmon, noFault, Bool.and_false, Bool.false_eq_true, if_false]

/-- R64: a value without an update reaches MC alone. -/
theorem deliver_fmon_untrimmed (v : Nat) (j : Judgement) (s : State) (h : apcUpdates s = false) :
    deliver .fmon v j s = mcFmon j s := by
  show deliverFmon v j s = _
  simp only [deliverFmon, lduFmon, h, Bool.false_and, Bool.false_eq_true, if_false]

/-- What LDU keeps of APC (R65, R66), with the latch of its event. -/
def sameTrim (s t : State) : Prop :=
  t.ldu.ioff = s.ldu.ioff ∧ t.ldu.clampMark = s.ldu.clampMark ∧
    t.eu.latches.get .apcLimit = s.eu.latches.get .apcLimit

/-- R64: a change of mode leaves APC's offset, mark and latch. -/
theorem changeMode_sameTrim (m : Mode) (g : SelfTest) (s : State) : sameTrim s (changeMode m g s) := by
  rw [changeMode_eq]
  have reacted : Moves (enterMode m g s) (wgcModeReaction (tcuModeReaction s.mc.mode m (enterMode m g s))) :=
    ((Moves.refl _).tcuModeReaction _ _).wgcModeReaction
  obtain ⟨-, -, ioff, mark⟩ := reacted.ldu_frame
  have latch := reacted.eu_follows.aside .apcLimit rfl
  generalize wgcModeReaction (tcuModeReaction s.mc.mode m (enterMode m g s)) = u at *
  unfold lduModeReaction
  split <;> exact ⟨ioff, mark, (recompute_latch_other _ _ (by decide)).trans latch⟩

theorem mcFmon_sameTrim (j : Judgement) (s : State) : sameTrim s (mcFmon j s) := by
  unfold mcFmon
  split
  · obtain ⟨ioff, mark, latch⟩ := changeMode_sameTrim .fault SelfTest.usual s
    exact ⟨ioff, mark, (Eu.trigger_latch_other _ _ _ (by decide)).trans latch⟩
  · exact ⟨rfl, rfl, rfl⟩

theorem conclude_sameTrim (s : State) : sameTrim s (conclude s) := by
  have judged : sameTrim s (judgeExit s) := by
    unfold judgeExit
    split
    · exact ⟨rfl, rfl, rfl⟩
    · split
      · exact changeMode_sameTrim _ _ s
      · exact ⟨rfl, rfl, rfl⟩
  obtain ⟨ioff, mark, latch⟩ := judged
  exact ⟨ioff, mark, (finish_latch_other _ _ (by decide)).trans latch⟩

theorem sameTrim.trans {s t u : State} (h : sameTrim s t) (k : sameTrim t u) : sameTrim s u :=
  ⟨k.1.trans h.1, k.2.1.trans h.2.1, k.2.2.trans h.2.2⟩

/-- R45: another channel's completion leaves the temperature. -/
theorem sampled_temperature (c : Channel) (raw : Nat) (s : State) (h : c ≠ .temp) :
    (sampled c raw s).temperature = s.temperature := by
  have measured : (sampled c raw s).mon.measured = s.mon.measured := by simp [sampled, Mon.advance, Mon.store, h]
  unfold State.temperature
  rw [measured]
  rfl

theorem apcUpdates_iff (s : State) :
    apcUpdates s = true ↔ s.ldu.apcOn = true ∧ s.cs.characterization ≠ none ∧ s.mc.mode.laserOff = false ∧
      s.wgc.gate ≠ .opened := by
  simp [apcUpdates, Option.isSome_iff_ne_none, and_assoc]

/-- R65, R66: what an update leaves of APC's offset, mark and latch. -/
def TrimsTo (wanted : Int) (s t : State) : Prop :=
  t.ldu.ioff = clampInt (-20000) 20000 wanted ∧
    t.ldu.clampMark = decide (clampInt (-20000) 20000 wanted ≠ wanted) ∧
    (clampInt (-20000) 20000 wanted ≠ wanted → s.ldu.clampMark = false → t.eu.latches.get .apcLimit = true) ∧
    (clampInt (-20000) 20000 wanted = wanted ∨ s.ldu.clampMark = true →
      t.eu.latches.get .apcLimit = s.eu.latches.get .apcLimit)

theorem trimmed_frame (v : Nat) (r : CharRecord) (s : State) :
    (trimmed v r s).mc = s.mc ∧ (trimmed v r s).wgc = s.wgc ∧ (trimmed v r s).ct = s.ct ∧ (trimmed v r s).tcu = s.tcu ∧
      (trimmed v r s).wsg = s.wsg ∧ (trimmed v r s).ldu.levels = s.ldu.levels ∧
      (trimmed v r s).ldu.readPower = s.ldu.readPower ∧ (trimmed v r s).ldu.apcOn = s.ldu.apcOn ∧
      (trimmed v r s).ldu.writeSet = s.ldu.writeSet ∧ (trimmed v r s).ldu.driven = s.ldu.driven :=
  ⟨rfl, rfl, rfl, rfl, rfl, rfl, rfl, rfl, rfl, rfl⟩

theorem trimmed_trims (v : Nat) (r : CharRecord) (s : State) :
    TrimsTo (apcWanted v r s) s (finish (recompute (trimmed v r s))) := by
  obtain ⟨held, free, -⟩ := trimmed_latches v r s
  have latch : (finish (recompute (trimmed v r s))).eu.latches.get .apcLimit = (trimmed v r s).eu.latches.get .apcLimit :=
    (finish_latch_other _ _ (by decide)).trans (recompute_latch_other _ _ (by decide))
  exact ⟨rfl, rfl, fun h1 h2 => latch.trans (held h1 h2), fun h => latch.trans (free h)⟩

/-- R64, R69: an FMON completion that makes an update, and nothing more, ends so. -/
theorem exec_apc (s : State) (raw : RawCount) (r : CharRecord) (h : s.mon.inFlight = some .fmon)
    (hr : s.mc.request = none)
    (within : ¬ ((s.mon.windows.get Channel.fmon.index).enabled = true ∧
      (s.mon.windows.get Channel.fmon.index).high < s.mon.correctedValue .fmon raw))
    (active : s.cs.characterization = some r) (updates : apcUpdates s = true) :
    exec (.conversionComplete raw) s =
      .next (finish (recompute (trimmed (s.mon.correctedValue .fmon raw) r (sampled .fmon raw.toNat s)))) := by
  have updates' : apcUpdates (sampled .fmon raw.toNat s) = true := updates
  have request : (recompute (trimmed (s.mon.correctedValue .fmon raw) r (sampled .fmon raw.toNat s))).mc.request =
      none := hr
  rw [exec_completion s raw .fmon h, deliver_fmon_within _ _ _ (mt (Window.judge_high_iff _ _).1 within), lduFmon,
    if_pos updates', apcUpdate_eq _ r (sampled .fmon raw.toNat s) active, conclude_none _ request]

/-- Settles O12. -/
theorem apcTrimsTheOffset : Obligations.ApcTrimsTheOffset := by
  refine ⟨fun s raw r h hr within on active lit shut => ?_, fun s raw h off => ?_⟩
  · have updates := (apcUpdates_iff s).2 ⟨on, Option.ne_none_iff_exists'.2 ⟨r, active⟩, lit, shut⟩
    have acts := exec_apc s raw r h hr within active updates
    generalize s.mon.correctedValue .fmon raw = v at *
    have temperature := sampled_temperature .fmon raw.toNat s (by decide)
    have apc := sampled_latch_other .fmon raw.toNat s .apcLimit (by decide)
    have current := sampled_latch_other .fmon raw.toNat s .currentLimit (by decide)
    have frame : (sampled .fmon raw.toNat s).mc = s.mc ∧ (sampled .fmon raw.toNat s).ldu = s.ldu ∧
        (sampled .fmon raw.toNat s).pt = s.pt ∧ (sampled .fmon raw.toNat s).ct = s.ct ∧
        (sampled .fmon raw.toNat s).wgc = s.wgc ∧ (sampled .fmon raw.toNat s).tcu = s.tcu ∧
        (sampled .fmon raw.toNat s).wsg = s.wsg := ⟨rfl, rfl, rfl, rfl, rfl, rfl, rfl⟩
    generalize sampled .fmon raw.toNat s = u at *
    obtain ⟨mc, ldu, pt, ct, wgc, tcu, wsg⟩ := frame
    have trims := trimmed_trims v r u
    obtain ⟨-, -, limit⟩ := trimmed_latches v r u
    obtain ⟨mc', wgc', ct', tcu', wsg', levels, readPower, apcOn, writeSet, driven⟩ := trimmed_frame v r u
    unfold TrimsTo apcWanted at trims
    rw [temperature, ldu, pt, apc] at trims
    generalize trimmed v r u = w at *
    refine ⟨_, acts, ?_, ?_, rfl, ?_, ?_, ?_, ?_, mc'.trans mc, wgc'.trans wgc, ct'.trans ct, tcu'.trans tcu, wsg'.trans wsg⟩
    · rintro x rfl
      exact trims
    · exact limitIsLatched_of w (by rw [levels, ldu]) (by rw [mc', mc]) (limit.trans current) rfl
        (finish_latch_other _ _ (by decide))
    · exact readPower.trans (by rw [ldu])
    · exact apcOn.trans (by rw [ldu])
    · exact writeSet.trans (by rw [ldu])
    · exact driven.trans (by rw [ldu])
  · have acts := exec_completion s raw .fmon h
    have quiet : apcUpdates (sampled .fmon raw.toNat s) = false := by
      rw [← Bool.not_eq_true, apcUpdates_iff]
      rintro ⟨on, active, lit, shut⟩
      rcases off with off | none | dark | opened
      · exact absurd (on.symm.trans off) (by simp)
      · exact active none
      · exact absurd (lit.symm.trans dark) (by simp)
      · exact shut opened
    rw [deliver_fmon_untrimmed _ _ _ quiet] at acts
    have judged : sameTrim s (sampled .fmon raw.toNat s) :=
      ⟨rfl, rfl, sampled_latch_other .fmon raw.toNat s .apcLimit (by decide)⟩
    exact ⟨_, acts, (judged.trans (mcFmon_sameTrim _ _)).trans (conclude_sameTrim _)⟩

end Sys2Proof.Machine
end

section
/-! SUPPORT. The tracker, arrival by arrival (R20 to R26), and obligations O54 and O55. -/

namespace Sys2Proof.Machine

theorem Mode.takesPort_iff (m : Mode) : Mode.takesPort m = true ↔ m = .read ∨ m = .record := by
  cases m <;> simp [Mode.takesPort]

/-- R21: the port is taken in READ and RECORD. -/
theorem exec_record (s : State) (v : Bool) (f : Surface) (a : Nat) (h : s.mc.mode = .read ∨ s.mc.mode = .record) :
    exec (.positionRecord v f a) s = .next (conclude (takeArrival (s.ct.arrival v f a) s)) := by
  have hx : exec (.positionRecord v f a) s = execPositionRecord v f a s := rfl
  rw [hx, execPositionRecord, if_pos ((Mode.takesPort_iff _).2 h)]

theorem exec_record_ignored (s : State) (v : Bool) (f : Surface) (a : Nat) (h : s.mc.mode ≠ .read)
    (h' : s.mc.mode ≠ .record) : exec (.positionRecord v f a) s = .next s := by
  have hx : exec (.positionRecord v f a) s = execPositionRecord v f a s := rfl
  rw [hx, execPositionRecord, if_neg (mt (Mode.takesPort_iff _).1 (not_or.2 ⟨h, h'⟩))]

theorem arrival_valid (c : Ct) (f : Surface) (a : Nat) (ha : a < c.blocks) (hf : c.hasSurface f = true) :
    c.arrival true f a = some (f, a) := by
  rw [Ct.arrival, if_pos ⟨rfl, ha, hf⟩]

theorem arrival_invalid (c : Ct) (v : Bool) (f : Surface) (a : Nat)
    (h : v = false ∨ c.blocks ≤ a ∨ c.hasSurface f = false) : c.arrival v f a = none := by
  rw [Ct.arrival, if_neg]
  rintro ⟨valid, low, present⟩
  rcases h with off | high | missing
  · exact absurd (valid.symm.trans off) (by decide)
  · omega
  · exact absurd (present.symm.trans missing) (by decide)

/-! ### What becomes of the tracker -/

theorem lockOn_pt (f : Surface) (a : Nat) (s : State) :
    (lockOn f a s).pt = { s.pt with
      state := .locked, surface := f, current := a, predicted := successor s.ct.blocks a, coast := 0 } := by
  unfold lockOn
  dsimp only
  split <;> rfl

theorem advance_pt (a c : Nat) (b : BoundaryKind) (s : State) :
    (advance a c b s).pt = { s.pt with current := a, predicted := successor s.ct.blocks a, coast := c } := by
  simp [advance]

theorem jumpTo_pt (f : Surface) (a : Nat) (s : State) :
    (jumpTo f a s).pt = { s.pt with state := .acquiring, candSurface := f, candAddress := a, coast := 0 } := by
  simp [jumpTo, acquire]

theorem loseLock_pt (s : State) : (loseLock s).pt = { s.pt with state := .lost, coast := 0 } := by
  simp [loseLock]

/-- R28: the report leaves the latch that PT's own handling has set. -/
theorem deliverReport_latched (r : PositionReport) (e : Event) (s : State) :
    (deliverReport r (trigger e s)).eu.latches.get e = true :=
  ((Moves.refl (trigger e s)).deliverReport r).eu_follows.latched e (s.eu.trigger_latched e)

/-- R22 to R26: what a valid arrival makes of the tracker. -/
theorem takeArrival_valid (s : State) (f : Surface) (a : Nat) :
    (s.pt.state = .lost → takeArrival (some (f, a)) s = acquire f a s) ∧
    (s.pt.state = .acquiring → s.pt.candSurface = f → a = successor s.ct.blocks s.pt.candAddress →
      takeArrival (some (f, a)) s = lockOn f a s) ∧
    (s.pt.state = .acquiring → s.pt.candSurface ≠ f ∨ a ≠ successor s.ct.blocks s.pt.candAddress →
      takeArrival (some (f, a)) s = acquire f a s) ∧
    (s.pt.state = .locked → s.pt.surface = f → s.pt.predicted = a →
      takeArrival (some (f, a)) s = advance a 0 .valid s) ∧
    (s.pt.state = .locked → s.pt.surface ≠ f ∨ s.pt.predicted ≠ a → takeArrival (some (f, a)) s = jumpTo f a s) := by
  unfold takeArrival
  refine ⟨fun lost => ?_, fun acq same next => ?_, fun acq other => ?_, fun lock same next => ?_, fun lock other => ?_⟩
  · rw [lost]
  · rw [acq]
    exact if_pos ⟨same.symm, next⟩
  · rw [acq]
    exact if_neg fun ⟨same, next⟩ => other.elim (fun h => h same.symm) fun h => h next
  · rw [lock]
    exact if_pos ⟨same.symm, next.symm⟩
  · rw [lock]
    exact if_neg fun ⟨same, next⟩ => other.elim (fun h => h same.symm) fun h => h next.symm

/-- R22, R25: what an invalid arrival makes of it. -/
theorem takeArrival_invalid (s : State) :
    (s.pt.state = .lost → takeArrival none s = s) ∧
    (s.pt.state = .acquiring → takeArrival none s = s.setPt { s.pt with state := .lost }) ∧
    (s.pt.state = .locked → s.pt.coast < 3 →
      takeArrival none s = advance s.pt.predicted (s.pt.coast + 1) .coasted s) ∧
    (s.pt.state = .locked → 3 ≤ s.pt.coast → takeArrival none s = loseLock s) := by
  unfold takeArrival
  refine ⟨fun lost => ?_, fun acq => ?_, fun lock few => ?_, fun lock many => ?_⟩
  · rw [lost]
  · rw [acq]
  · rw [lock]
    exact if_pos few
  · rw [lock]
    exact if_neg (not_lt.2 many)

theorem conclude_arrival (v : Option (Surface × Nat)) (s : State) (h : s.mc.request = none) :
    conclude (takeArrival v s) = finish (takeArrival v s) :=
  conclude_none _ (by rw [(takeArrival_frame v s).1, h])

/-- Settles O54. -/
theorem trackerTakesThePort : Obligations.TrackerTakesThePort := by
  refine ⟨fun s v f a h h' => exec_record_ignored s v f a h h', fun s f a h hr => ?_⟩
  obtain ⟨vLost, vLocks, vOther, vNext, vJump⟩ := takeArrival_valid s f a
  obtain ⟨iLost, iAcquiring, iCoasts, iLoses⟩ := takeArrival_invalid s
  obtain ⟨mc, mon, pu, cl, cs, lines, -⟩ := takeArrival_frame (s.ct.arrival true f a) s
  obtain ⟨mc', mon', pu', cl', cs', lines', -⟩ := takeArrival_frame none s
  have good := exec_record s true f a h
  have bad := exec_record s false f a h
  rw [conclude_arrival _ s hr] at good bad
  rw [arrival_invalid s.ct false f a (.inl rfl)] at bad
  refine ⟨_, _, good, bad, fun ha hf => ?_, fun off => ?_, fun lost => ?_, fun acq => ?_, fun lock few => ?_,
    fun lock many => ?_, mc, mc', mon, mon', pu, pu', cl, cl', cs, cs', lines, lines'⟩
  · rw [arrival_valid s.ct f a ha hf]
    refine ⟨fun lost => ?_, fun acq same next => ?_, fun acq other => ?_, fun lock same next => ?_, fun lock other => ?_⟩
    · rw [vLost lost]
      rfl
    · rw [vLocks acq same next]
      exact lockOn_pt f a s
    · rw [vOther acq other]
      rfl
    · rw [vNext lock same next]
      exact advance_pt a 0 .valid s
    · rw [vJump lock other]
      exact ⟨jumpTo_pt f a s, finish_latched _ _ (deliverReport_latched _ _ _)⟩
  · rw [arrival_invalid s.ct true f a (.inr off)]
  · rw [iLost lost]
    rfl
  · rw [iAcquiring acq]
    rfl
  · rw [iCoasts lock few]
    exact advance_pt _ _ .coasted s
  · rw [iLoses lock many]
    exact ⟨loseLock_pt s, finish_latched _ _ (deliverReport_latched _ _ _)⟩

theorem exec_generated_stopped (s : State) (h : s.pt.genRunning = false) : exec .generatedArrival s = .next s := by
  have hx : exec .generatedArrival s = execGeneratedArrival s := rfl
  rw [hx, execGeneratedArrival, if_neg (by simp [h])]

/-- R32: the state after the generator's arrival, whose next address has moved on. -/
def generated (s : State) : State :=
  (takeArrival (some (s.pt.genSurface, s.pt.genNext)) s).setPt
    { (takeArrival (some (s.pt.genSurface, s.pt.genNext)) s).pt with genNext := successor s.ct.blocks s.pt.genNext }

theorem generated_frame (s : State) :
    (generated s).mc = s.mc ∧ (generated s).mon = s.mon ∧ (generated s).pu = s.pu ∧ (generated s).cl = s.cl ∧
      (generated s).cs = s.cs ∧ (generated s).lines = s.lines := by
  simp [generated]

theorem exec_generated (s : State) (h : s.pt.genRunning = true) (hr : s.mc.request = none) :
    exec .generatedArrival s = .next (finish (generated s)) := by
  have hx : exec .generatedArrival s = execGeneratedArrival s := rfl
  have request : (generated s).mc.request = none := by rw [(generated_frame s).1, hr]
  rw [hx, execGeneratedArrival, if_pos h]
  exact congrArg _ (conclude_none _ request)

/-- No arrival touches what SELFTEST has set. -/
theorem takeArrival_generator (v : Option (Surface × Nat)) (s : State) :
    (takeArrival v s).pt.genRunning = s.pt.genRunning ∧ (takeArrival v s).pt.genSurface = s.pt.genSurface ∧
      (takeArrival v s).pt.genInterval = s.pt.genInterval := by
  unfold takeArrival
  split
  · exact ⟨rfl, rfl, rfl⟩
  · exact ⟨rfl, rfl, rfl⟩
  · exact ⟨rfl, rfl, rfl⟩
  · split
    · rw [lockOn_pt]
      exact ⟨rfl, rfl, rfl⟩
    · exact ⟨rfl, rfl, rfl⟩
  · split
    · rw [advance_pt]
      exact ⟨rfl, rfl, rfl⟩
    · rw [jumpTo_pt]
      exact ⟨rfl, rfl, rfl⟩
  · split
    · rw [advance_pt]
      exact ⟨rfl, rfl, rfl⟩
    · rw [loseLock_pt]
      exact ⟨rfl, rfl, rfl⟩

/-- Settles O55. -/
theorem generatorDeliversItsNextAddress : Obligations.GeneratorDeliversItsNextAddress := by
  refine ⟨exec_generated_stopped, fun s h hr => ?_⟩
  have acts := exec_generated s h hr
  obtain ⟨mc, mon, pu, cl, cs, lines⟩ := generated_frame s
  obtain ⟨running, surface, interval⟩ := takeArrival_generator (some (s.pt.genSurface, s.pt.genNext)) s
  obtain ⟨vLost, vLocks, -, vNext, -⟩ := takeArrival_valid s s.pt.genSurface s.pt.genNext
  have pt : (finish (generated s)).pt = { (takeArrival (some (s.pt.genSurface, s.pt.genNext)) s).pt with
      genNext := successor s.ct.blocks s.pt.genNext } := rfl
  refine ⟨_, acts, rfl, running.trans h, surface, interval, fun lost => ?_, fun acq same next => ?_,
    fun lock same next => ?_, mc, mon, pu, cl, cs, lines⟩
  · rw [pt, vLost lost]
    exact ⟨rfl, rfl, rfl⟩
  · rw [pt, vLocks acq same next, lockOn_pt]
    exact ⟨rfl, rfl, rfl, rfl⟩
  · rw [pt, vNext lock same next, advance_pt]
    exact ⟨lock, rfl, rfl⟩

end Sys2Proof.Machine
end

section
/-! SUPPORT. SEGMENT: its checks, and how the segment joins the queue (R133, R134, R136), and obligations O32 and O33. -/

namespace Sys2Proof.Machine

/-- R8: where no change is pending, or recording has not stopped, a step ends with the joining of its notices. -/
theorem conclude_waits (s : State) (h : s.mc.request = none ∨ s.stopped = false) : conclude s = finish s := by
  rcases h with none | going
  · exact conclude_none s none
  · rw [conclude, following_self _ _ _ (judgeExit_waits s going)]

/-- What a command does is what its owner does, whatever the link holds meanwhile. -/
theorem exec_as {c : Instr} {kind : Byte} {body : Body} {owner : Owner} {s : State}
    (hx : exec c s = command kind body (some owner) s) (h : s.takesFrames) (hb : body.length ≤ 62) :
    ∃ l, ∀ (t : State) (a : Answer), owner (s.setCl l) = (t, a) → t.cl = l →
      exec c s = .next (answeredBy kind body t a) :=
  ⟨_, fun _ _ ho ht => exec_acts hx h hb ho ht⟩

/-- A step that generates nothing ends as it stands. -/
theorem finish_settled {s : State} (settled : s.settled) {t : State} (h : t.eu = s.eu) : finish t = t :=
  finish_quiet t (by rw [h]; exact settled)

/-- R177: with room, the one notice that a step generates joins. -/
theorem finish_post {s : State} (room : s.room 1) (p : Poster) (n : Notice) {t : State} (he : t.eu = s.eu)
    (hm : t.mc = s.mc) : finish (post p n t) = t.setEu { s.eu with notices := s.eu.notices ++ [n] } := by
  obtain ⟨settled, free⟩ := room
  have outbox : s.eu.outbox = [] := settled
  rw [finish_one (post p n t) ⟨p, [], n⟩ (by rw [post_eq]; simp [he, outbox]) (by rw [post_eq]; simpa [he, hm] using free)]
  show t.setEu { t.eu with notices := _, outbox := [] } = _
  rw [← outbox, post_eq, State.setEu_eu, he]

/-- The values of SEGMENT that its command can carry. -/
def SegmentFields.carried (f : SegmentFields) : Prop :=
  f.tag < 256 ^ 2 ∧ f.surface < 256 ∧ f.link < 256 ∧ f.count < 256 ^ 2 ∧ ∀ a, f.start = some a → a < 256 ^ 3

theorem exec_segment_carried (f : SegmentFields) (s : State) (h : f.carried) :
    exec (.segment f.bytes) s = command 28 f.bytes (some (segment f)) s := by
  obtain ⟨tag, surface, link, count, start⟩ := h
  exact exec_segment f s tag surface link count start

/-- R134, check 2. -/
theorem segmentOf_some (f : SegmentFields) (s : State) (g : Surface) (l : SegLink) (a : Nat) (hg : f.surface = g.code)
    (hl : f.link = l.code) (start : s.wgc.startFor l g f.start = some a) (present : s.ct.hasSurface g = true)
    (count : 1 ≤ f.count ∧ f.count ≤ 256) (fits : a + f.count - 1 < s.ct.blocks) :
    segmentOf f s = some { tag := f.tag, surface := g, link := l, start := a, count := f.count, done := 0,
                           state := .queued, reason := none, damaged := none, largest := 0, limitMark := false } := by
  have range : inRange 1 256 f.count = true := inRange_eq_true count
  rw [segmentOf, hg, hl, nameAt_surface, nameAt_link]
  dsimp only
  rw [start]
  simp [present, range, fits]

theorem segmentOf_unnamed (f : SegmentFields) (s : State) (h : 2 ≤ f.surface ∨ 2 ≤ f.link) : segmentOf f s = none := by
  unfold segmentOf
  split
  · next g l hg hl =>
    exfalso
    rcases h with surface | link
    · exact absurd (hg.symm.trans (nameAt_eq_none Surface.all f.surface surface)) (by simp)
    · exact absurd (hl.symm.trans (nameAt_eq_none SegLink.all f.link link)) (by simp)
  · rfl

theorem segmentOf_none (f : SegmentFields) (s : State) (g : Surface) (l : SegLink) (hg : f.surface = g.code)
    (hl : f.link = l.code)
    (h : s.wgc.startFor l g f.start = none ∨ s.ct.hasSurface g = false ∨ f.count = 0 ∨ 256 < f.count ∨
      ∃ a, s.wgc.startFor l g f.start = some a ∧ s.ct.blocks ≤ a + f.count - 1) : segmentOf f s = none := by
  rw [segmentOf, hg, hl, nameAt_surface, nameAt_link]
  dsimp only
  split
  · rfl
  · next a start =>
    refine if_neg fun checks => ?_
    simp only [Bool.and_eq_true, inRange, decide_eq_true_eq] at checks
    obtain ⟨⟨present, count⟩, fits⟩ := checks
    rcases h with none | missing | zero | many | ⟨b, hb, long⟩
    · exact absurd (start.symm.trans none) (by simp)
    · exact absurd (present.symm.trans missing) (by decide)
    · omega
    · omega
    · obtain rfl := Option.some.inj (start.symm.trans hb)
      omega

theorem segment_wrongMode (f : SegmentFields) (s : State) (h : s.mc.mode ≠ .record ∧ s.mc.mode ≠ .selftest) :
    segment f s = refuse .wrongMode s := by
  have unwritten : s.mc.mode.mayWrite = false := by
    rw [← Bool.not_eq_true, Mode.mayWrite_iff]
    tauto
  rw [segment, if_pos unwritten]

theorem segment_badValue (f : SegmentFields) (s : State) (may : s.mc.mode.mayWrite = true) (h : segmentOf f s = none) :
    segment f s = refuse .badValue s := by
  rw [segment, if_neg (by simp [may]), h]

/-- R134: the checks after the second, in their order. -/
theorem segment_checked (f : SegmentFields) (s : State) (g : Segment) (may : s.mc.mode.mayWrite = true)
    (h : segmentOf f s = some g) :
    (s.mc.segDepth ≤ s.wgc.queue.length → segment f s = refuse .full s) ∧
    (s.wgc.queue.length < s.mc.segDepth → s.wgc.arm = false → segment f s = refuse .notArmed s) ∧
    (s.wgc.queue.length < s.mc.segDepth → s.wgc.arm = true → s.pu.sense = .asserted →
      segment f s = refuse .inhibited s) ∧
    (s.wgc.queue.length < s.mc.segDepth → s.wgc.arm = true → s.pu.sense = .released →
      s.runProtected g.surface g.start g.last = true →
      segment f s = (s.setWgc { s.wgc with arm := false }, plain .isProtected)) ∧
    (s.wgc.queue.length < s.mc.segDepth → s.wgc.arm = true → s.pu.sense = .released →
      s.runProtected g.surface g.start g.last = false →
      segment f s = (conclude (enqueue g s),
        okBody (natBytes 2 g.tag ++ surfaceByte g.surface ++ natBytes 3 g.start ++ natBytes 3 g.last ++
          natBytes 1 (s.wgc.queue.length + 1) ++ natBytes 1 (enqueue g s).wgc.tailState.code))) := by
  rw [segment, if_neg (by simp [may]), h]
  dsimp only
  refine ⟨fun full => if_pos full, fun room off => ?_, fun room on held => ?_, fun room on free prot => ?_,
    fun room on free bare => ?_⟩
  · rw [if_neg (by omega), if_pos off]
  · rw [if_neg (by omega), if_neg (by simp [on]), if_pos held]
  · rw [if_neg (by omega), if_neg (by simp [on]), if_neg (by simp [free]), if_pos prot]
  · rw [if_neg (by omega), if_neg (by simp [on]), if_neg (by simp [free]), if_neg (by simp [bare])]

/-- Settles O33, by the checks of SEGMENT in their order. -/
theorem segmentRefusals : Obligations.SegmentRefusals := by
  refine ⟨fun s f hs ht hf hl hc ha bad => ?_, fun s f g l hs ht hg hl hc ha => ?_⟩
  · have segment := exec_segment_carried f s ⟨ht, hf, hl, hc, ha⟩
    exact ⟨fun h => exec_refused segment hs f.bytes_length_le (segment_wrongMode f (acceptFrame _ s) h),
      fun h => exec_refused segment hs f.bytes_length_le
        (segment_badValue f (acceptFrame _ s) ((Mode.mayWrite_iff _).2 h) (segmentOf_unnamed f _ bad))⟩
  · have surface : f.surface < 256 := by rw [hg]; have := g.code_lt; omega
    have link : f.link < 256 := by rw [hl]; have := l.code_lt; omega
    have segment := exec_segment_carried f s ⟨ht, surface, link, hc, ha⟩
    have short := f.bytes_length_le
    refine ⟨fun h => exec_refused segment hs short (segment_wrongMode f (acceptFrame _ s) h), fun h => ?_⟩
    have may := (Mode.mayWrite_iff _).2 h
    refine ⟨fun bad => ?_, fun a start count long => ?_, fun a start present low high fits => ?_⟩
    · exact exec_refused segment hs short (segment_badValue f (acceptFrame _ s) may
        (segmentOf_none f (acceptFrame _ s) g l hg hl (by tauto)))
    · exact exec_refused segment hs short (segment_badValue f (acceptFrame _ s) may
        (segmentOf_none f (acceptFrame _ s) g l hg hl (.inr (.inr (.inr (.inr ⟨a, start, long⟩))))))
    · obtain ⟨full, unarmed, inhibited, held, -⟩ := segment_checked f (acceptFrame (2 + f.bytes.length) s) _ may
        (segmentOf_some f (acceptFrame _ s) g l a hg hl start present ⟨low, high⟩ fits)
      exact ⟨fun h => exec_refused segment hs short (full h), fun h off => exec_refused segment hs short (unarmed h off),
        fun h on asserted => exec_refused segment hs short (inhibited h on asserted),
        fun h on released prot => exec_acts segment hs short (held h on released prot) rfl⟩

/-- R134: where the queue holds a segment, the new one joins its tail. -/
theorem enqueue_behind (g : Segment) (s : State) (h : s.wgc.queue ≠ []) :
    enqueue g s = s.setWgc { s.wgc with arm := false, queue := s.wgc.queue ++ [g] } := by
  rw [enqueue, if_neg h]

/-- R136: into an empty queue it comes as the new head. -/
theorem enqueue_head (g : Segment) (s : State) (h : s.wgc.queue = []) :
    enqueue g s = newHead (s.setWgc { s.wgc with arm := false, queue := [g] }) := by
  rw [enqueue, if_pos h, h]
  rfl

/-- R134: recording that has not stopped goes on as a segment joins. -/
theorem enqueue_waits (g : Segment) (s : State) (hg : g.state = .queued) (h : s.mc.request = none ∨ s.stopped = false) :
    (enqueue g s).mc.request = none ∨ (enqueue g s).stopped = false := by
  refine h.imp (fun none => by rw [(enqueue_frame g s).1, none]) fun going => ?_
  unfold State.stopped at going ⊢
  cases hq : s.wgc.queue with
  | nil =>
    have tcu : (enqueue g s).tcu = s.tcu := by rw [enqueue_head g s hq]; simp
    rw [hq] at going
    have trial : s.tcu.trial.isNone = false := by simpa using going
    rw [tcu, trial, Bool.and_false]
  | cons x rest =>
    have writes : g.state.writes = false := by rw [hg]; rfl
    rw [enqueue_behind g s (by simp [hq])]
    simpa [writes] using going

theorem tailState_append (w : Wgc) (q : List Segment) (g : Segment) (h : w.queue = q ++ [g]) : w.tailState = g.state := by
  simp [Wgc.tailState, h]

/-- A SEGMENT passes its checks: the segment as it joins, in a step that ends without a change of mode. -/
structure SegmentJoins (f : SegmentFields) (g : Segment) (s : State) : Prop where
  may : s.mc.mode.mayWrite = true
  named : segmentOf f s = some g
  room : s.wgc.queue.length < s.mc.segDepth
  armed : s.wgc.arm = true
  released : s.pu.sense = .released
  bare : s.runProtected g.surface g.start g.last = false
  going : s.mc.request = none ∨ s.stopped = false
  settled : s.settled
  queued : g.state = .queued
  undone : g.done = 0

/-- The reply of a SEGMENT that joins. -/
def segmentAnswer (g : Segment) (places : Nat) (x : SegState) : Answer :=
  okBody (natBytes 2 g.tag ++ surfaceByte g.surface ++ natBytes 3 g.start ++ natBytes 3 g.last ++
    natBytes 1 (places + 1) ++ natBytes 1 x.code)

namespace SegmentJoins

variable {f : SegmentFields} {g : Segment} {s : State}

theorem taken (h : SegmentJoins f g s) :
    segment f s = (finish (enqueue g s), segmentAnswer g s.wgc.queue.length (enqueue g s).wgc.tailState) := by
  have checked := (segment_checked f s g h.may h.named).2.2.2.2 h.room h.armed h.released h.bare
  rwa [conclude_waits _ (enqueue_waits g s h.queued h.going)] at checked

theorem next (h : SegmentJoins f g s) : g.next = g.start := by rw [Segment.next, h.undone, Nat.add_zero]

theorem behind (h : SegmentJoins f g s) (some : s.wgc.queue ≠ []) :
    segment f s = (s.setWgc { s.wgc with arm := false, queue := s.wgc.queue ++ [g] },
      segmentAnswer g s.wgc.queue.length .queued) := by
  rw [h.taken, enqueue_behind g s some, finish_settled h.settled, tailState_append _ s.wgc.queue g rfl, h.queued]
  rfl

/-- R137: it takes an idle gate. -/
theorem waits (h : SegmentJoins f g s) (empty : s.wgc.queue = []) (unmarked : s.wgc.exitMark = false)
    (idle : s.wgc.gate = .idle) :
    segment f s = ({ s with
      wgc := { s.wgc with
        arm := false, gate := .waiting, user := some .segment, wait := 0, queue := [{ g with state := .waiting }] }
      wsg := s.wsg.stop
      ldu := { s.ldu with driven := .read } }, segmentAnswer g 0 .waiting) := by
  rw [h.taken, enqueue_head g s empty, newHead_waits (s.setWgc { s.wgc with arm := false, queue := [g] }) g [] rfl
    h.queued unmarked idle h.may (by rw [h.next]; exact h.bare), finish_settled h.settled, empty]
  · rfl
  · rfl

/-- R136: while a trial holds the gate it stays QUEUED. -/
theorem held (h : SegmentJoins f g s) (empty : s.wgc.queue = []) (unmarked : s.wgc.exitMark = false)
    (busy : s.wgc.gate ≠ .idle) :
    segment f s = (s.setWgc { s.wgc with arm := false, queue := [g] }, segmentAnswer g 0 .queued) := by
  rw [h.taken, enqueue_head g s empty, newHead_held (s.setWgc { s.wgc with arm := false, queue := [g] }) g [] rfl
    unmarked (.inl busy), finish_settled h.settled, empty, tailState_append _ [] g rfl, h.queued]
  · rfl
  · rfl

/-- R154: with an exit pending it is SUSPENDED. -/
theorem suspended (h : SegmentJoins f g s) (empty : s.wgc.queue = []) (marked : s.wgc.exitMark = true)
    (ready : s.room 1) :
    segment f s = ({ s with
      wgc := { s.wgc with arm := false, queue := [{ g with state := .suspended, reason := some .mode }] }
      eu := { s.eu with notices := s.eu.notices ++ [.segmentSuspended g.tag g.start g.count .mode] } },
      segmentAnswer g 0 .suspended) := by
  have head : enqueue g s = post .wgc (.segmentSuspended g.tag g.start g.count .mode)
      (s.setWgc { s.wgc with arm := false, queue := [{ g with state := .suspended, reason := some .mode }] }) := by
    rw [enqueue_head g s empty, newHead_exit (s.setWgc { s.wgc with arm := false, queue := [g] }) g [] rfl h.queued marked,
      suspendHead_cons .mode _ g [] rfl, h.next, Segment.remaining, h.undone, Nat.sub_zero]
    rfl
  rw [h.taken, head, finish_post ready, empty]
  · rfl
  · rfl
  · rfl

end SegmentJoins

/-- Settles O32: the segment that passes the checks joins, and its end of the step adds nothing but a suspension. -/
theorem segmentJoinsTheQueue : Obligations.SegmentJoinsTheQueue := by
  intro s f g hs settled going ht hf hl hm start low present count count' fits room armed released bare hg
  have given : ∀ a, f.start = some a → a < 256 ^ 3 := by
    intro a ha
    rw [ha] at start
    cases link : g.link with
    | fresh =>
      rw [link] at start
      obtain rfl := Option.some.inj start
      exact low
    | append =>
      rw [link] at start
      exact absurd start (by simp [Wgc.startFor])
  have surface : f.surface < 256 := by rw [hf]; have := g.surface.code_lt; omega
  have link : f.link < 256 := by rw [hl]; have := g.link.code_lt; omega
  have segment := exec_segment_carried f s ⟨ht, surface, link, by omega, given⟩
  have short := f.bytes_length_le
  have last : g.start + f.count - 1 = g.last := by rw [hg]; rfl
  have tag : f.tag = g.tag := by rw [hg]
  have total : f.count = g.count := by rw [hg]
  obtain ⟨l, acts⟩ := exec_as segment hs short
  have joins : SegmentJoins f g (s.setCl l) := by
    refine ⟨(Mode.mayWrite_iff _).2 hm, ?_, room, armed, released, by rw [← last]; exact bare, going, settled,
      by rw [hg], by rw [hg]⟩
    rw [hg]
    exact segmentOf_some f (s.setCl l) g.surface g.link g.start hf hl start present ⟨count, count'⟩ fits
  rw [last, tag, total]
  exact ⟨fun some => acts _ _ (joins.behind some) rfl, fun empty unmarked idle => acts _ _ (joins.waits empty unmarked idle) rfl,
    fun empty unmarked busy => acts _ _ (joins.held empty unmarked busy) rfl,
    fun empty marked ready => acts _ _ (joins.suspended empty marked ready) rfl⟩

end Sys2Proof.Machine
end

section
/-! SUPPORT. PAUSE, RESUME and ABORT_SEGMENT (R137, R143, R147 to R149), and obligations O34, O35 and O36. -/

namespace Sys2Proof.Machine

/-- R141, R143: a head that gives the gate back: WGC, WSG and LDU with the gate IDLE. -/
def offGate (s : State) : State :=
  { s with wgc := { s.wgc with gate := .idle, user := none }, wsg := s.wsg.stop, ldu := { s.ldu with driven := .read } }

theorem shutGate_none (s : State) : shutGate none s = offGate s := rfl

/-- The queue with this segment at its head. -/
def State.heads (s : State) (g : Segment) (rest : List Segment) : State := s.setWgc { s.wgc with queue := g :: rest }

theorem suspendHead_heads (why : SegReason) (s : State) (g : Segment) (rest : List Segment) (h : s.wgc.queue = g :: rest) :
    suspendHead why s = post .wgc (.segmentSuspended g.tag g.next g.remaining why)
      (s.heads { g with state := .suspended, reason := some why } rest) := suspendHead_cons why s g rest h

/-- R143: what PAUSE, and an exit, make of the head, by its state. -/
theorem pauseHead_cases (why : SegReason) (s : State) (g : Segment) (rest : List Segment) (h : s.wgc.queue = g :: rest) :
    (g.state = .writing → pauseHead why s = s.heads { g with state := .suspending, reason := some why } rest) ∧
    (g.state = .suspending ∨ g.state = .suspended ∨ g.state = .halted → pauseHead why s = s) ∧
    (g.state = .waiting → pauseHead why s = post .wgc (.segmentSuspended g.tag g.next g.remaining why)
      ((offGate s).heads { g with state := .suspended, reason := some why } rest)) ∧
    (g.state = .queued → pauseHead why s = post .wgc (.segmentSuspended g.tag g.next g.remaining why)
      (s.heads { g with state := .suspended, reason := some why } rest)) := by
  unfold pauseHead
  rw [h]
  dsimp only
  refine ⟨fun hs => ?_, fun hs => ?_, fun hs => ?_, fun hs => ?_⟩
  · rw [hs]
    simp [Wgc.mapHead, h, State.heads]
  · rcases hs with hs | hs | hs <;> rw [hs]
  · rw [hs]
    exact suspendHead_heads why (offGate s) g rest h
  · rw [hs]
    exact suspendHead_heads why s g rest h

theorem pause_nil (s : State) (h : s.wgc.queue = []) : pause s = refuse .nothingPending s := by
  rw [pause, h]

/-- R143: the reply of PAUSE shows what has become of the head. -/
theorem pause_cons (s : State) (g x : Segment) (rest tail : List Segment) (h : s.wgc.queue = g :: rest)
    (hr : s.mc.request = none) (after : (pauseHead .command s).wgc.queue = x :: tail) :
    pause s = (finish (pauseHead .command s), okBody (natBytes 2 g.tag ++ natBytes 1 x.state.code)) := by
  rw [pause, h]
  dsimp only
  rw [after, conclude_none _ (by rw [(pauseHead_frame .command s).1, hr])]

theorem pause_writing (s : State) (g : Segment) (rest : List Segment) (h : s.wgc.queue = g :: rest)
    (hr : s.mc.request = none) (settled : s.settled) (hs : g.state = .writing) :
    pause s = (s.heads { g with state := .suspending, reason := some .command } rest,
      okBody (natBytes 2 g.tag ++ natBytes 1 3)) := by
  have paused := (pauseHead_cases .command s g rest h).1 hs
  rw [pause_cons s g _ rest rest h hr (by rw [paused]; rfl), paused, finish_settled settled]
  · rfl
  · rfl

theorem pause_stands (s : State) (g : Segment) (rest : List Segment) (h : s.wgc.queue = g :: rest)
    (hr : s.mc.request = none) (settled : s.settled) (hs : g.state = .suspending ∨ g.state = .suspended ∨ g.state = .halted) :
    pause s = (s, okBody (natBytes 2 g.tag ++ natBytes 1 g.state.code)) := by
  have paused := (pauseHead_cases .command s g rest h).2.1 hs
  rw [pause_cons s g g rest rest h hr (by rw [paused, h]), paused, finish_settled settled rfl]

theorem pause_waiting (s : State) (g : Segment) (rest : List Segment) (h : s.wgc.queue = g :: rest)
    (hr : s.mc.request = none) (room : s.room 1) (hs : g.state = .waiting) :
    pause s = (((offGate s).heads { g with state := .suspended, reason := some .command } rest).setEu
      { s.eu with notices := s.eu.notices ++ [.segmentSuspended g.tag g.next g.remaining .command] },
      okBody (natBytes 2 g.tag ++ natBytes 1 4)) := by
  have paused := (pauseHead_cases .command s g rest h).2.2.1 hs
  rw [pause_cons s g _ rest rest h hr (by rw [paused]; rfl), paused, finish_post room]
  · rfl
  · rfl
  · rfl

theorem pause_queued (s : State) (g : Segment) (rest : List Segment) (h : s.wgc.queue = g :: rest)
    (hr : s.mc.request = none) (room : s.room 1) (hs : g.state = .queued) :
    pause s = ((s.heads { g with state := .suspended, reason := some .command } rest).setEu
      { s.eu with notices := s.eu.notices ++ [.segmentSuspended g.tag g.next g.remaining .command] },
      okBody (natBytes 2 g.tag ++ natBytes 1 4)) := by
  have paused := (pauseHead_cases .command s g rest h).2.2.2 hs
  rw [pause_cons s g _ rest rest h hr (by rw [paused]; rfl), paused, finish_post room]
  · rfl
  · rfl
  · rfl

/-! ### RESUME -/

/-- R147: the refusals of RESUME, in the order of its checks. -/
theorem resume_refusals (s : State) :
    (s.mc.mode.mayWrite = false → resume s = refuse .wrongMode s) ∧
    (s.mc.mode.mayWrite = true → s.wgc.queue = [] → resume s = refuse .nothingPending s) ∧
    (∀ (g : Segment) (rest : List Segment), s.mc.mode.mayWrite = true → s.wgc.queue = g :: rest →
      (g.state ≠ .suspended → g.state ≠ .halted → resume s = refuse .nothingPending s) ∧
      (g.state = .suspended ∨ g.state = .halted → s.wgc.user = some .trial ∨ s.wgc.exitMark = true →
        resume s = refuse .busy s)) := by
  unfold resume
  refine ⟨fun hm => if_pos hm, fun hm hq => ?_, fun g rest hm hq => ⟨fun h1 h2 => ?_, fun hs busy => ?_⟩⟩
  · rw [if_neg (by simp [hm]), hq]
  · rw [if_neg (by simp [hm]), hq]
    exact if_pos ⟨h1, h2⟩
  · rw [if_neg (by simp [hm]), hq]
    dsimp only
    rw [if_neg (by tauto)]
    by_cases trial : s.wgc.user = some .trial
    · exact if_pos trial
    · rw [if_neg trial]
      exact if_pos (busy.resolve_left trial)

/-- A head that RESUME may continue: no trial holds the gate, no exit is pending, and the step ends without a change of
mode. -/
structure Resumes (s : State) : Prop where
  may : s.mc.mode.mayWrite = true
  idle : s.wgc.gate = .idle
  user : s.wgc.user = none
  unmarked : s.wgc.exitMark = false
  request : s.mc.request = none

theorem resume_suspended (s : State) (g : Segment) (rest : List Segment) (h : Resumes s) (hq : s.wgc.queue = g :: rest)
    (hs : g.state = .suspended) :
    resume s = (finish (continueStopped s), okBody (natBytes 2 g.tag ++ natBytes 3 g.next)) := by
  rw [resume, if_neg (by simp [h.may]), hq]
  dsimp only
  rw [if_neg (by simp [hs]), if_neg (by simp [h.user]), if_neg (by simp [h.unmarked]), if_pos hs,
    conclude_none _ (by rw [(continueStopped_frame s).1, h.request])]

theorem resume_halted (s : State) (g : Segment) (rest : List Segment) (h : Resumes s) (hq : s.wgc.queue = g :: rest)
    (hs : g.state = .halted) :
    (s.wgc.arm = false → resume s = refuse .notArmed s) ∧
      (s.wgc.arm = true → resume s = (finish (resumeHalted g s).1, (resumeHalted g s).2)) := by
  rw [resume, if_neg (by simp [h.may]), hq]
  dsimp only
  rw [if_neg (by simp [hs]), if_neg (by simp [h.user]), if_neg (by simp [h.unmarked]), if_neg (by simp [hs])]
  refine ⟨fun off => if_pos off, fun on => ?_⟩
  rw [if_neg (by simp [on]), conclude_none _ (by rw [(resumeHalted_frame g s).1, h.request])]

/-- The head as it proceeds once its reason and damaged block are gone. -/
def Segment.renewed (g : Segment) : Segment := { g with state := .queued, reason := none, damaged := none }

theorem continueStopped_cons (s : State) (g : Segment) (rest : List Segment) (hq : s.wgc.queue = g :: rest) :
    continueStopped s = newHead (s.heads g.renewed rest) := by
  simp [continueStopped, Wgc.mapHead, hq, State.heads, Segment.renewed]

/-- WGC's part of a head that takes the gate, with what was done to the queue before. -/
def takesGate (s : State) (g : Segment) (rest : List Segment) : State :=
  { s with
    wgc := { s.wgc with
      gate := .waiting, user := some .segment, wait := 0, queue := { g with state := .waiting } :: rest }
    wsg := s.wsg.stop
    ldu := { s.ldu with driven := .read } }

theorem newHead_takesGate (s : State) (g : Segment) (rest : List Segment) (h : Resumes s) (hs : g.state = .queued)
    (bare : s.runProtected g.surface g.next g.last = false) : newHead (s.heads g rest) = takesGate s g rest := by
  rw [newHead_waits (s.heads g rest) g rest rfl hs h.unmarked h.idle h.may bare]
  rfl

/-- R137: a stopped head that is continued takes the gate. -/
theorem continueStopped_waits (s : State) (g : Segment) (rest : List Segment) (h : Resumes s)
    (hq : s.wgc.queue = g :: rest) (bare : s.runProtected g.surface g.next g.last = false) :
    continueStopped s = takesGate s g.renewed rest := by
  rw [continueStopped_cons s g rest hq]
  exact newHead_takesGate s g.renewed rest h rfl bare

theorem resume_waits (s : State) (g : Segment) (rest : List Segment) (h : Resumes s) (settled : s.settled)
    (hq : s.wgc.queue = g :: rest) (hs : g.state = .suspended)
    (bare : s.runProtected g.surface g.next g.last = false) :
    resume s = (takesGate s g.renewed rest, okBody (natBytes 2 g.tag ++ natBytes 3 g.next)) := by
  rw [resume_suspended s g rest h hq hs, continueStopped_waits s g rest h hq bare, finish_settled settled]
  rfl

/-- R137: a head whose rest is protected is removed. -/
theorem resume_refused (s : State) (g : Segment) (h : Resumes s) (room : s.room 1) (hq : s.wgc.queue = [g])
    (hs : g.state = .suspended) (bare : s.runProtected g.surface g.next g.last = true) :
    resume s = ((s.setWgc { s.wgc with queue := [] }).setEu
      { s.eu with notices := s.eu.notices ++ [.segmentRefused g.tag] },
      okBody (natBytes 2 g.tag ++ natBytes 3 g.next)) := by
  rw [resume_suspended s g [] h hq hs, continueStopped_cons s g [] hq,
    newHead_refused (s.heads g.renewed []) g.renewed [] rfl rfl h.unmarked h.idle h.may bare, newHead_nil _ rfl,
    finish_post room]
  · rfl
  · rfl
  · rfl

/-- Settles O34. -/
theorem pauseAndResumeTheHead : Obligations.PauseAndResumeTheHead := by
  refine ⟨fun s hs hq => ?_, fun s g rest hs settled hr hq => ?_, fun s hs => ?_⟩
  · exact exec_refused (exec_pause_nil s) hs (by simp) (pause_nil (acceptFrame _ s) hq)
  · obtain ⟨l, acts⟩ := exec_as (exec_pause_nil s) hs (by simp)
    obtain ⟨k, resumed⟩ := exec_as (exec_resume_nil s) hs (by simp)
    refine ⟨fun hg => acts _ _ (pause_writing (s.setCl l) g rest hq hr settled hg) rfl,
      fun hg => acts _ _ (pause_stands (s.setCl l) g rest hq hr settled hg) rfl,
      fun hg room => acts _ _ (pause_waiting (s.setCl l) g rest hq hr room hg) rfl,
      fun hg room => acts _ _ (pause_queued (s.setCl l) g rest hq hr room hg) rfl,
      fun hg undamaged hm idle user unmarked bare => ?_, fun hg room alone hm idle user unmarked held => ?_⟩
    · have same : g.renewed = { g with state := .queued, reason := none } := by rw [Segment.renewed, ← undamaged]
      have resumes : Resumes (s.setCl k) := ⟨(Mode.mayWrite_iff _).2 hm, idle, user, unmarked, hr⟩
      have taken := resume_waits (s.setCl k) g rest resumes settled hq hg bare
      rw [same] at taken
      exact resumed _ _ taken rfl
    · subst alone
      have resumes : Resumes (s.setCl k) := ⟨(Mode.mayWrite_iff _).2 hm, idle, user, unmarked, hr⟩
      exact resumed _ _ (resume_refused (s.setCl k) g resumes room hq hg held) rfl
  · obtain ⟨wrong, nothing, head⟩ := resume_refusals (acceptFrame (2 + ([] : Body).length) s)
    have resume := exec_resume_nil s
    refine ⟨fun h1 h2 => ?_, fun hm => ?_⟩
    · have unwritten : s.mc.mode.mayWrite = false := by
        rw [← Bool.not_eq_true, Mode.mayWrite_iff]
        tauto
      exact exec_refused resume hs (by simp) (wrong unwritten)
    · have may := (Mode.mayWrite_iff _).2 hm
      refine ⟨fun hq => exec_refused resume hs (by simp) (nothing may hq), fun g rest hq => ?_⟩
      obtain ⟨off, busy⟩ := head g rest may hq
      exact ⟨fun h1 h2 => exec_refused resume hs (by simp) (off h1 h2),
        fun hg held => exec_refused resume hs (by simp) (busy hg held)⟩

/-! ### A HALTED head -/

/-- R148: what RESUME makes of a HALTED head, by its damaged block and the media. -/
theorem resumeHalted_cases (s : State) (g : Segment) :
    (g.damaged = none → resumeHalted g s = (continueStopped (s.setWgc { s.wgc with arm := false }),
      okBody (natBytes 2 g.tag ++ natBytes 3 g.next ++ flagByte false))) ∧
    (∀ a, g.damaged = some a → s.ct.writeOnce = false → resumeHalted g s =
      (continueStopped (s.setWgc { s.wgc with arm := false }),
        okBody (natBytes 2 g.tag ++ natBytes 3 a ++ flagByte false))) ∧
    (∀ a, g.damaged = some a → s.ct.writeOnce = true → g.done + 1 ≠ g.count → resumeHalted g s =
      (continueStopped (countDamaged a (s.setWgc { s.wgc with arm := false })),
        okBody (natBytes 2 g.tag ++ natBytes 3 (a + 1) ++ flagByte false))) ∧
    (∀ a, g.damaged = some a → s.ct.writeOnce = true → g.done + 1 = g.count → resumeHalted g s =
      (newHead (completeHead (countDamaged a (s.setWgc { s.wgc with arm := false }))),
        okBody (natBytes 2 g.tag ++ natBytes 3 (a + 1) ++ flagByte true))) := by
  unfold resumeHalted
  refine ⟨fun hd => ?_, fun a hd media => ?_, fun a hd media more => ?_, fun a hd media whole => ?_⟩
  · rw [hd]
  · rw [hd]
    exact if_neg (by simp [media])
  · rw [hd]
    dsimp only
    rw [if_pos media, if_neg more]
  · rw [hd]
    dsimp only
    rw [if_pos media, if_pos whole]

theorem writeOnce_media (c : Ct) (d : Disc) (h : c.disc = some d) : c.writeOnce = decide (d.media = .writeOnce) := by
  rw [Ct.writeOnce, h]

theorem countDamaged_cons (a : Nat) (s : State) (g : Segment) (rest : List Segment) (hq : s.wgc.queue = g :: rest) :
    countDamaged a s = s.setWgc
      { s.wgc with append := some (g.surface, a), queue := { g with done := g.done + 1 } :: rest } := by
  simp [countDamaged, Wgc.mapHead, hq]

theorem completeHead_cons (s : State) (g : Segment) (rest : List Segment) (hq : s.wgc.queue = g :: rest) :
    completeHead s = post .wgc (.segmentDone g.tag g.done g.last s.wgc.correction g.largest)
      (s.setWgc { s.wgc with queue := rest }) := by
  simp [completeHead, hq, dropHead]

theorem Resumes.disarmed {s : State} (h : Resumes s) : Resumes (s.setWgc { s.wgc with arm := false }) :=
  ⟨h.may, h.idle, h.user, h.unmarked, h.request⟩

/-- R147: a HALTED head whose damaged block, if any, is to be written again takes the gate, with the latch cleared. -/
theorem resume_rewrites (s : State) (g : Segment) (rest : List Segment) (h : Resumes s) (settled : s.settled)
    (hq : s.wgc.queue = g :: rest) (hs : g.state = .halted) (on : s.wgc.arm = true)
    (hd : g.damaged = none ∨ (g.damaged = some g.next ∧ s.ct.writeOnce = false))
    (bare : s.runProtected g.surface g.next g.last = false) :
    resume s = (takesGate (s.setWgc { s.wgc with arm := false }) g.renewed rest,
      okBody (natBytes 2 g.tag ++ natBytes 3 g.next ++ flagByte false)) := by
  obtain ⟨whole, again, -, -⟩ := resumeHalted_cases s g
  have result : resumeHalted g s = (continueStopped (s.setWgc { s.wgc with arm := false }),
      okBody (natBytes 2 g.tag ++ natBytes 3 g.next ++ flagByte false)) := by
    rcases hd with none | ⟨cut, media⟩
    · exact whole none
    · exact again _ cut media
  rw [(resume_halted s g rest h hq hs).2 on, result,
    continueStopped_waits (s.setWgc { s.wgc with arm := false }) g rest h.disarmed hq bare]
  dsimp only
  rw [finish_settled settled]
  rfl

/-- R148: on write-once media the damaged block counts as done, and the head goes on behind it. -/
theorem resume_counts (s : State) (g : Segment) (h : Resumes s) (settled : s.settled)
    (hq : s.wgc.queue = [g]) (hs : g.state = .halted) (on : s.wgc.arm = true) (hd : g.damaged = some g.next)
    (media : s.ct.writeOnce = true) (more : g.done + 1 < g.count)
    (bare : s.runProtected g.surface (g.next + 1) g.last = false) :
    resume s = (takesGate (s.setWgc { s.wgc with arm := false, append := some (g.surface, g.next) })
      { g.renewed with done := g.done + 1 } [],
      okBody (natBytes 2 g.tag ++ natBytes 3 (g.next + 1) ++ flagByte false)) := by
  have counts : Resumes (s.setWgc { s.wgc with
      arm := false, append := some (g.surface, g.next), queue := [{ g with done := g.done + 1 }] }) :=
    ⟨h.may, h.idle, h.user, h.unmarked, h.request⟩
  have counted : countDamaged g.next (s.setWgc { s.wgc with arm := false }) = s.setWgc { s.wgc with
      arm := false, append := some (g.surface, g.next), queue := [{ g with done := g.done + 1 }] } :=
    countDamaged_cons g.next (s.setWgc { s.wgc with arm := false }) g [] hq
  rw [(resume_halted s g [] h hq hs).2 on, (resumeHalted_cases s g).2.2.1 _ hd media (by omega), counted,
    continueStopped_waits _ { g with done := g.done + 1 } [] counts rfl bare]
  dsimp only
  rw [finish_settled settled]
  · rfl
  · rfl

/-- R148: where that completes the segment it is done. -/
theorem resume_completes (s : State) (g : Segment) (h : Resumes s) (room : s.room 1) (hq : s.wgc.queue = [g])
    (hs : g.state = .halted) (on : s.wgc.arm = true) (hd : g.damaged = some g.next) (media : s.ct.writeOnce = true)
    (whole : g.done + 1 = g.count) :
    resume s = ((s.setWgc { s.wgc with arm := false, append := some (g.surface, g.next), queue := [] }).setEu
      { s.eu with notices := s.eu.notices ++ [.segmentDone g.tag g.count g.last s.wgc.correction g.largest] },
      okBody (natBytes 2 g.tag ++ natBytes 3 (g.next + 1) ++ flagByte true)) := by
  rw [(resume_halted s g [] h hq hs).2 on, (resumeHalted_cases s g).2.2.2 _ hd media whole,
    countDamaged_cons g.next (s.setWgc { s.wgc with arm := false }) g [] hq,
    completeHead_cons _ { g with done := g.done + 1 } [] rfl, newHead_nil _ rfl]
  dsimp only
  rw [finish_post room, whole]
  · rfl
  · rfl
  · rfl

/-- Settles O35. -/
theorem resumeOfAHaltedHead : Obligations.ResumeOfAHaltedHead := by
  refine ⟨fun s g d hs room hr hm hq hg damaged idle user unmarked disc => ?_,
    fun s g rest hs settled hr hm hq hg damaged idle user unmarked => ?_⟩
  · obtain ⟨l, acts⟩ := exec_as (exec_resume_nil s) hs (by simp)
    have resumes : Resumes (s.setCl l) := ⟨(Mode.mayWrite_iff _).2 hm, idle, user, unmarked, hr⟩
    have media := writeOnce_media s.ct d disc
    refine ⟨fun off => acts _ _ ((resume_halted (s.setCl l) g [] resumes hq hg).1 off) rfl, fun on rewritable bare => ?_,
      fun on once more bare => ?_, fun on once whole => ?_⟩
    · rw [rewritable] at media
      exact acts _ _ (resume_rewrites (s.setCl l) g [] resumes room.1 hq hg on (.inr ⟨damaged, media⟩) bare) rfl
    · rw [once] at media
      exact acts _ _ (resume_counts (s.setCl l) g resumes room.1 hq hg on damaged media more bare) rfl
    · rw [once] at media
      exact acts _ _ (resume_completes (s.setCl l) g resumes room hq hg on damaged media whole) rfl
  · obtain ⟨l, acts⟩ := exec_as (exec_resume_nil s) hs (by simp)
    have resumes : Resumes (s.setCl l) := ⟨(Mode.mayWrite_iff _).2 hm, idle, user, unmarked, hr⟩
    exact ⟨fun off => acts _ _ ((resume_halted (s.setCl l) g rest resumes hq hg).1 off) rfl,
      fun on bare => acts _ _ (resume_rewrites (s.setCl l) g rest resumes settled hq hg on (.inl damaged) bare) rfl⟩

/-! ### ABORT_SEGMENT -/

theorem abortSegment_nil (s : State) (h : s.wgc.queue = []) : abortSegment s = refuse .nothingPending s := by
  rw [abortSegment, h]

/-- R149: the state in which the head that is aborted has given back what it held. -/
def abortShut (g : Segment) (s : State) : State :=
  if g.state.writes then clearReturns (offGate s) else if g.state = .waiting then offGate s else s

/-- R149: the only segment is removed, and nothing follows it. -/
theorem abortSegment_alone (s : State) (g : Segment) (h : s.wgc.queue = [g]) (hr : s.mc.request = none) (room : s.room 1) :
    abortSegment s = (((abortShut g s).setWgc { (abortShut g s).wgc with queue := [] }).setEu
        { s.eu with notices := s.eu.notices ++
          [.segmentHalted g.tag .aborted g.done (if g.state.writes then some g.next else none)] },
      okBody (natBytes 2 g.tag ++ natBytes 2 g.done ++ presence [g.state.writes] ++
        optionalBytes (natBytes 3) (if g.state.writes then some g.next else none))) := by
  have frame : (abortShut g s).wgc.queue = s.wgc.queue ∧ (abortShut g s).eu = s.eu ∧ (abortShut g s).mc = s.mc := by
    unfold abortShut
    split
    · exact ⟨rfl, rfl, rfl⟩
    · split <;> exact ⟨rfl, rfl, rfl⟩
  obtain ⟨queue, eu, mc⟩ := frame
  have dropped : dropHead (abortShut g s) = (abortShut g s).setWgc { (abortShut g s).wgc with queue := [] } := by
    rw [dropHead, queue, h]
    rfl
  have aborted : abortHead g s = post .wgc
      (.segmentHalted g.tag .aborted g.done (if g.state.writes then some g.next else none)) (dropHead (abortShut g s)) := by
    refine newHead_nil _ ?_
    show (dropHead (abortShut g s)).wgc.queue = []
    rw [dropped]
    rfl
  have request : (abortHead g s).mc.request = none := by rw [(abortHead_frame g s).1, hr]
  have cut : (if g.state.writes = true then some g.next else none).isSome = g.state.writes := by
    cases g.state.writes <;> rfl
  rw [abortSegment, h]
  dsimp only
  rw [conclude_none _ request, aborted, dropped, finish_post room]
  · rw [cut]
  · exact eu
  · exact mc

/-- Settles O36. -/
theorem abortSegmentRemovesTheHead : Obligations.AbortSegmentRemovesTheHead := by
  refine ⟨fun s hs hq => exec_refused (exec_abortSegment_nil s) hs (by simp) (abortSegment_nil (acceptFrame _ s) hq),
    fun s g hs room hr hq => ?_⟩
  obtain ⟨l, acts⟩ := exec_as (exec_abortSegment_nil s) hs (by simp)
  have taken := abortSegment_alone (s.setCl l) g hq hr room
  refine ⟨fun hg => ?_, fun hg => ?_, fun hg => ?_⟩
  · have writes : g.state.writes = true := by rcases hg with hg | hg <;> rw [hg] <;> rfl
    rw [abortShut, writes] at taken
    exact acts _ _ taken rfl
  · have writes : g.state.writes = false := by rw [hg]; rfl
    rw [abortShut, writes, if_neg (by simp), if_pos hg] at taken
    exact acts _ _ taken rfl
  · have writes : g.state.writes = false := by rcases hg with hg | hg | hg <;> rw [hg] <;> rfl
    have off : ¬ g.state = .waiting := by rcases hg with hg | hg | hg <;> rw [hg] <;> simp
    rw [abortShut, writes, if_neg (by simp), if_neg off] at taken
    exact acts _ _ taken rfl

end Sys2Proof.Machine
end

section
/-! SUPPORT. CALIBRATE by its ten checks (R97 to R99), and obligation O24. -/

namespace Sys2Proof.Machine

/-- R97, check 2, for the fields behind surface and zone. -/
def CalibrateFields.ranged (f : CalibrateFields) : Prop :=
  (5 ≤ f.steps ∧ f.steps ≤ 15) ∧ (1000 ≤ f.start ∧ f.start ≤ 80000) ∧ (100 ≤ f.step ∧ f.step ≤ 5000) ∧
    (∀ x, f.target = some x → -200 ≤ x ∧ x ≤ 200) ∧ (∀ x, f.bias = some x → x ≤ 1000) ∧ (∀ x, f.cool = some x → x ≤ 1000)

theorem surface_of_nameAt {n : Nat} {h : Surface} (hn : nameAt Surface.all n = some h) : n = h.code := by
  match n with
  | 0 => obtain rfl := Option.some.inj hn; rfl
  | 1 => obtain rfl := Option.some.inj hn; rfl
  | k + 2 => exact absurd hn (by rw [nameAt_eq_none Surface.all (k + 2) (Nat.le_add_left 2 k)]; simp)

theorem calibrateTarget_some_iff (f : CalibrateFields) (s : State) (g : Surface) (z : Fin 8) :
    calibrateTarget f s = some (g, z) ↔
      f.surface = g.code ∧ f.zone = z ∧ s.ct.hasSurface g = true ∧ f.ranged := by
  have checks (h : Surface) : (s.ct.hasSurface h && inRange 5 15 f.steps && inRange 1000 80000 f.start &&
      inRange 100 5000 f.step && (f.target.all (inRangeInt (-200) 200)) && (f.bias.all (inRange 0 1000)) &&
      (f.cool.all (inRange 0 1000))) = true ↔ s.ct.hasSurface h = true ∧ f.ranged := by
    simp only [Bool.and_eq_true, CalibrateFields.ranged, inRange, inRangeInt, decide_eq_true_eq, and_assoc, Option.all_eq_true,
      zero_le, true_and]
  unfold calibrateTarget
  cases hn : nameAt Surface.all f.surface with
  | none =>
    refine iff_of_false (by simp) ?_
    rintro ⟨named, -⟩
    rw [named, nameAt_surface] at hn
    exact absurd hn (by simp)
  | some h =>
    have code : f.surface = h.code := surface_of_nameAt hn
    dsimp only
    by_cases hz : f.zone < 8
    · rw [dif_pos hz]
      by_cases hc : s.ct.hasSurface h = true ∧ f.ranged
      · rw [if_pos ((checks h).2 hc)]
        constructor
        · rintro same
          obtain ⟨rfl, rfl⟩ := Prod.mk.inj (Option.some.inj same)
          exact ⟨code, rfl, hc⟩
        · rintro ⟨named, zone, -⟩
          obtain rfl : h = g := Surface.code_inj (code.symm.trans named)
          exact congrArg some (Prod.ext rfl (Fin.ext zone))
      · rw [if_neg (mt (checks h).1 hc)]
        refine iff_of_false (by simp) ?_
        rintro ⟨named, -, present, ranged⟩
        obtain rfl : h = g := Surface.code_inj (code.symm.trans named)
        exact hc ⟨present, ranged⟩
    · rw [dif_neg hz]
      refine iff_of_false (by simp) ?_
      rintro ⟨-, zone, -⟩
      exact hz (by rw [zone]; exact z.isLt)

/-- R97, check 2. -/
theorem calibrateTarget_none (f : CalibrateFields) (s : State)
    (h : ∀ (g : Surface) (z : Fin 8), ¬ (f.surface = g.code ∧ f.zone = z ∧ s.ct.hasSurface g = true ∧ f.ranged)) :
    calibrateTarget f s = none := by
  cases ht : calibrateTarget f s with
  | none => rfl
  | some p => exact absurd ((calibrateTarget_some_iff f s p.1 p.2).1 ht) (h p.1 p.2)

theorem calibrate_refused (f : CalibrateFields) (s : State) (why : Status) (h : calibrateCheck f s = .error why) :
    calibrate f s = refuse why s := by
  rw [calibrate, h]

theorem calibrateCheck_wrongMode (f : CalibrateFields) (s : State) (h : s.mc.mode ≠ .record) :
    calibrateCheck f s = .error .wrongMode := by
  rw [calibrateCheck, if_pos h]

theorem calibrateCheck_badValue (f : CalibrateFields) (s : State) (hm : s.mc.mode = .record)
    (h : calibrateTarget f s = none) : calibrateCheck f s = .error .badValue := by
  rw [calibrateCheck, if_neg (not_not.2 hm), h]

/-- R97: the checks behind the second, in their order: gate, line and test area. -/
theorem calibrateCheck_gate (f : CalibrateFields) (s : State) (g : Surface) (z : Fin 8) (hm : s.mc.mode = .record)
    (h : calibrateTarget f s = some (g, z)) :
    (s.wgc.gate ≠ .idle → calibrateCheck f s = .error .busy) ∧
    (s.wgc.gate = .idle → s.pu.sense = .asserted → calibrateCheck f s = .error .inhibited) ∧
    (s.wgc.gate = .idle → s.pu.sense = .released → s.tcu.areas.get g = none →
      calibrateCheck f s = .error .testAreaFull) := by
  rw [calibrateCheck, if_neg (not_not.2 hm), h]
  dsimp only
  refine ⟨fun busy => if_pos busy, fun idle held => ?_, fun idle free unset => ?_⟩
  · rw [if_neg (not_not.2 idle), if_pos held]
  · rw [if_neg (not_not.2 idle), if_neg (by simp [free]), unset]

/-- R97: the state in which CALIBRATE comes to the checks of its blocks. -/
structure Calibrates (f : CalibrateFields) (g : Surface) (z : Fin 8) (a : TestArea) (s : State) : Prop where
  mode : s.mc.mode = .record
  named : calibrateTarget f s = some (g, z)
  idle : s.wgc.gate = .idle
  released : s.pu.sense = .released
  area : s.tcu.areas.get g = some a

namespace Calibrates

variable {f : CalibrateFields} {g : Surface} {z : Fin 8} {a : TestArea} {s : State}

/-- What is left of the ten checks. -/
theorem check (h : Calibrates f g z a s) :
    calibrateCheck f s =
      if a.remaining < f.steps then .error .testAreaFull
      else if s.runProtected g a.next (a.next + f.steps - 1) then .error .isProtected
      else if s.wsg.complete s.wsg.speed = false then .error .noStrategy
      else if s.mon.serves [.rsum, .rtop, .rbot, .terr] = false then .error .scanRequired
      else if 80000 < f.start + (f.steps - 1) * f.step then .error .badValue
      else match resolve f (s.ct.record { surface := g, speed := s.wsg.speed, zone := z }) with
        | none => .error .noCalibration
        | some (target, bias, cool) =>
          .ok { key := { surface := g, speed := s.wsg.speed, zone := z }, start := f.start, step := f.step,
                target := target, bias := bias, cool := cool, first := a.next,
                saved := s.ct.record { surface := g, speed := s.wsg.speed, zone := z }, sub := .writeWait, index := 0,
                wait := 0, steps := List.replicate f.steps TrialStep.fresh, inhibitMark := false,
                modeMark := s.mc.request.isSome } := by
  rw [calibrateCheck, if_neg (not_not.2 h.mode), h.named]
  dsimp only
  rw [if_neg (not_not.2 h.idle), if_neg (by simp [h.released]), h.area] <;> rfl

/-- R97, checks 5 to 8, in their order. -/
theorem refused (h : Calibrates f g z a s) :
    (a.remaining < f.steps → calibrate f s = refuse .testAreaFull s) ∧
    (f.steps ≤ a.remaining → s.runProtected g a.next (a.next + f.steps - 1) = true →
      calibrate f s = refuse .isProtected s) ∧
    (f.steps ≤ a.remaining → s.runProtected g a.next (a.next + f.steps - 1) = false →
      s.wsg.complete s.wsg.speed = false → calibrate f s = refuse .noStrategy s) ∧
    (f.steps ≤ a.remaining → s.runProtected g a.next (a.next + f.steps - 1) = false →
      s.wsg.complete s.wsg.speed = true → s.mon.serves [.rsum, .rtop, .rbot, .terr] = false →
      calibrate f s = refuse .scanRequired s) := by
  refine ⟨fun short => ?_, fun room prot => ?_, fun room bare missing => ?_, fun room bare loaded off => ?_⟩ <;>
    refine calibrate_refused f s _ ?_ <;> rw [h.check]
  · rw [if_pos short]
  · rw [if_neg (by omega), if_pos prot]
  · rw [if_neg (by omega), if_neg (by simp [bare]), if_pos missing]
  · rw [if_neg (by omega), if_neg (by simp [bare]), if_neg (by simp [loaded]), if_pos off]

/-- R97: what is left once area, protection, strategy and scan have been checked. -/
theorem served (h : Calibrates f g z a s) (room : f.steps ≤ a.remaining)
    (bare : s.runProtected g a.next (a.next + f.steps - 1) = false) (loaded : s.wsg.complete s.wsg.speed = true)
    (scanned : s.mon.serves [.rsum, .rtop, .rbot, .terr] = true) :
    (80000 < f.start + (f.steps - 1) * f.step → calibrate f s = refuse .badValue s) ∧
    (f.start + (f.steps - 1) * f.step ≤ 80000 →
      (resolve f (s.ct.record { surface := g, speed := s.wsg.speed, zone := z }) = none →
        calibrate f s = refuse .noCalibration s) ∧
      ∀ (target : Int) (bias cool : Nat),
        resolve f (s.ct.record { surface := g, speed := s.wsg.speed, zone := z }) = some (target, bias, cool) →
        calibrateCheck f s = .ok
          { key := { surface := g, speed := s.wsg.speed, zone := z }, start := f.start, step := f.step,
            target := target, bias := bias, cool := cool, first := a.next,
            saved := s.ct.record { surface := g, speed := s.wsg.speed, zone := z }, sub := .writeWait, index := 0,
            wait := 0, steps := List.replicate f.steps TrialStep.fresh, inhibitMark := false,
            modeMark := s.mc.request.isSome }) := by
  have check := h.check
  rw [if_neg (by omega), if_neg (by simp [bare]), if_neg (by simp [loaded]), if_neg (by simp [scanned])] at check
  refine ⟨fun high => calibrate_refused f s _ (by rw [check, if_pos high]), fun low => ⟨fun none => ?_,
    fun target bias cool known => ?_⟩⟩
  · exact calibrate_refused f s _ (by rw [check, if_neg (by omega), none])
  · rw [check, if_neg (by omega), known]

end Calibrates

/-- R98: without a usable record, all three are to be given. -/
theorem resolve_none (f : CalibrateFields) (r : CalRecord) (absent : f.target = none ∨ f.bias = none ∨ f.cool = none)
    (h : r.state = .empty ∨ r.state = .trial) : resolve f r = none := by
  have unusable : r.usable = none := by
    unfold CalRecord.usable
    rcases h with h | h <;> rw [h]
  unfold resolve
  split
  · next ht hb hc => simp [ht, hb, hc] at absent
  · rw [unusable, Option.map_none]

/-- R98: each is the command's, or the record's where absent. -/
theorem resolve_some (f : CalibrateFields) (r : CalRecord) (x : CalFields)
    (h : r = { state := .valid, fields := some x } ∨ r = { state := .stale, fields := some x } ∨
      (f.target ≠ none ∧ f.bias ≠ none ∧ f.cool ≠ none)) :
    resolve f r = some (f.target.getD x.target, f.bias.getD x.bias, f.cool.getD x.cool) := by
  unfold resolve
  split
  · next ht hb hc => rw [ht, hb, hc]; rfl
  · next absent =>
    have usable : r.usable = some x := by
      rcases h with rfl | rfl | ⟨ht, hb, hc⟩
      · rfl
      · rfl
      · obtain ⟨t, ht⟩ := Option.ne_none_iff_exists'.1 ht
        obtain ⟨b, hb⟩ := Option.ne_none_iff_exists'.1 hb
        obtain ⟨c, hc⟩ := Option.ne_none_iff_exists'.1 hc
        exact absurd hc (absent t b c ht hb)
    rw [usable, Option.map_some]

/-- R99: the trial takes the record and the gate. -/
theorem calibrate_taken (f : CalibrateFields) (s : State) (t : Trial) (h : calibrateCheck f s = .ok t) :
    calibrate f s = ({ s with
      tcu := { s.tcu with trial := some t }
      ct := s.ct.putRecord t.key { (s.ct.record t.key) with state := .trial }
      wgc := { s.wgc with gate := .waiting, user := some .trial }
      wsg := s.wsg.stop
      ldu := { s.ldu with driven := .read } },
      { status := .pending, clamped := false, body := calibrateBody t }) := by
  rw [calibrate, h]
  rfl

theorem CalibrateFields.ranged_fits (f : CalibrateFields) (g : Surface) (z : Fin 8) (h : f.ranged) (hg : f.surface = g.code)
    (hz : f.zone = z) : f.fits := by
  obtain ⟨steps, start, step, target, bias, cool⟩ := h
  refine ⟨by rw [hg]; have := g.code_lt; omega, by rw [hz]; have := z.isLt; omega, by omega, by omega, by omega,
    fun x hx => ?_, fun x hx => ?_, fun x hx => ?_⟩
  · have := target x hx
    omega
  · have := bias x hx
    omega
  · have := cool x hx
    omega

/-- Settles O24, by the ten checks in their order. -/
theorem calibrateBeginsATrial : Obligations.CalibrateBeginsATrial := by
  refine ⟨fun s f hs fits => ⟨fun hm => ?_, fun hm bad => ?_⟩, ?_⟩
  · exact exec_refused (exec_calibrate f s fits) hs f.bytes_length_le
      (calibrate_refused f (acceptFrame _ s) _ (calibrateCheck_wrongMode f (acceptFrame _ s) hm))
  · refine exec_refused (exec_calibrate f s fits) hs f.bytes_length_le (calibrate_refused f (acceptFrame _ s) _
      (calibrateCheck_badValue f (acceptFrame _ s) hm (calibrateTarget_none f _ ?_)))
    rintro g z ⟨hg, hz, present, steps, start, step, target, bias, cool⟩
    have surface := g.code_lt
    have zone := z.isLt
    rcases bad with h | ⟨h, hh, missing⟩ | h | h | h | h | h | h | h | ⟨x, hx, h⟩ | ⟨x, hx, h⟩ | ⟨x, hx, h⟩
    · omega
    · obtain rfl : h = g := Surface.code_inj (hh.symm.trans hg)
      exact absurd (present.symm.trans missing) (by decide)
    · omega
    · omega
    · omega
    · omega
    · omega
    · omega
    · omega
    · have := target x hx
      omega
    · have := bias x hx
      omega
    · have := cool x hx
      omega
  · intro s g z steps start step target bias cool body hs hm present low high start0 start1 step0 step1 hb hc ht hbody
    have ranged : CalibrateFields.ranged ⟨g.code, z, steps, start, step, target, bias, cool⟩ :=
      ⟨⟨low, high⟩, ⟨start0, start1⟩, ⟨step0, step1⟩, ht, hb, hc⟩
    generalize hf : (⟨g.code, z, steps, start, step, target, bias, cool⟩ : CalibrateFields) = f at hbody ranged
    have fields : f.surface = g.code ∧ f.zone = z ∧ f.steps = steps ∧ f.start = start ∧ f.step = step ∧
        f.target = target ∧ f.bias = bias ∧ f.cool = cool := by
      subst hf
      exact ⟨rfl, rfl, rfl, rfl, rfl, rfl, rfl, rfl⟩
    clear hf
    obtain ⟨hg, hz, rfl, rfl, rfl, rfl, rfl, rfl⟩ := fields
    subst hbody
    obtain ⟨l, acts⟩ := exec_as (exec_calibrate f s (f.ranged_fits g z ranged hg hz)) hs f.bytes_length_le
    have named : calibrateTarget f (s.setCl l) = some (g, z) :=
      (calibrateTarget_some_iff f (s.setCl l) g z).2 ⟨hg, hz, present, ranged⟩
    obtain ⟨busy, held, unset⟩ := calibrateCheck_gate f (s.setCl l) g z hm named
    refine ⟨fun h => acts _ _ (calibrate_refused f (s.setCl l) _ (busy h)) rfl,
      fun h1 h2 => acts _ _ (calibrate_refused f (s.setCl l) _ (held h1 h2)) rfl,
      fun h1 h2 h3 => acts _ _ (calibrate_refused f (s.setCl l) _ (unset h1 h2 h3)) rfl, fun a idle released area => ?_⟩
    have calibrates : Calibrates f g z a (s.setCl l) := ⟨hm, named, idle, released, area⟩
    obtain ⟨short, prot, missing, off⟩ := calibrates.refused
    refine ⟨fun h => acts _ _ (short h) rfl, fun h1 h2 => acts _ _ (prot h1 h2) rfl,
      fun h1 h2 h3 => acts _ _ (missing h1 h2 h3) rfl, fun h1 h2 h3 h4 => acts _ _ (off h1 h2 h3 h4) rfl,
      fun h1 h2 h3 h4 => ?_⟩
    obtain ⟨above, within⟩ := calibrates.served h1 h2 h3 h4
    refine ⟨fun h => acts _ _ (above h) rfl, fun h k hk => ?_⟩
    subst hk
    obtain ⟨unknown, known⟩ := within h
    refine ⟨fun absent lacks => acts _ _ (unknown (resolve_none f _ absent lacks)) rfl, fun x t usable ht => ?_⟩
    have check := known _ _ _ (resolve_some f _ x usable)
    subst ht
    have taken := acts _ _ (calibrate_taken f (s.setCl l) _ check) rfl
    refine taken.trans ?_
    simp only [calibrateBody, List.length_replicate]
    rfl

end Sys2Proof.Machine
end

section
/-! SUPPORT. The record-inhibit line (R110, R144, R166), and obligation O44. -/

namespace Sys2Proof.Machine

/-- R144: WGC once the line is asserted; the gate, and with it WSG and the driven level, stands. -/
theorem wgcInhibit_wgc (s : State) :
    (wgcInhibit s).ldu = s.ldu ∧ (wgcInhibit s).wsg = s.wsg ∧ (wgcInhibit s).wgc.arm = false ∧ (wgcInhibit s).wgc.gate = s.wgc.gate ∧
      (∀ g rest, s.wgc.queue = g :: rest → g.state = .writing →
        (wgcInhibit s).wgc.queue = { g with state := .suspending, reason := some .inhibit } :: rest) ∧
      (∀ g rest, s.wgc.queue = g :: rest → g.state ≠ .writing → (wgcInhibit s).wgc.queue = s.wgc.queue) := by
  unfold wgcInhibit
  dsimp only
  split
  · next none =>
    have empty : s.wgc.queue = [] := none
    exact ⟨rfl, rfl, rfl, rfl, fun g rest hq => absurd (empty.symm.trans hq) (by simp),
      fun g rest hq => absurd (empty.symm.trans hq) (by simp)⟩
  · next h tail hq =>
    have head : s.wgc.queue = h :: tail := hq
    split
    · next writes =>
      rw [(pauseHead_cases .inhibit (s.setWgc { s.wgc with arm := false }) h tail hq).1 writes]
      refine ⟨rfl, rfl, rfl, rfl, fun g rest hg _ => ?_, fun g rest hg off => ?_⟩
      · obtain ⟨rfl, rfl⟩ := List.cons.inj (head.symm.trans hg)
        rfl
      · obtain ⟨rfl, rfl⟩ := List.cons.inj (head.symm.trans hg)
        exact absurd writes off
    · next off =>
      refine ⟨rfl, rfl, rfl, rfl, fun g rest hg writes => ?_, fun g rest hg _ => rfl⟩
      obtain ⟨rfl, rfl⟩ := List.cons.inj (head.symm.trans hg)
      exact absurd writes off

/-- R110: TCU once the line is asserted. -/
theorem tcuInhibit_tcu (s : State) (x : Trial) (h : s.tcu.trial = some x) :
    (x.sub = .writeWait ∨ x.sub = .writing →
      (tcuInhibit s).tcu = { s.tcu with trial := some { x with inhibitMark := true } }) ∧
    (x.sub = .readWait ∨ x.sub = .measuring → (tcuInhibit s).tcu = s.tcu) := by
  rw [tcuInhibit, h]
  dsimp only
  refine ⟨fun hs => ?_, fun hs => ?_⟩
  · rw [if_pos hs]
    rfl
  · rw [if_neg (by rcases hs with hs | hs <;> simp [hs])]

/-- The line as PU and EU take it, and the event of the change (R166). -/
def lineSensed (l : Inhibit) (s : State) : State :=
  trigger .inhibitChanged (((s.setLines { s.lines with inhibit := l }).setPu { s.pu with sense := l }).setEu
    { s.eu with inhibitSense := l })

theorem lineSensed_frame (l : Inhibit) (s : State) :
    (lineSensed l s).lines = { s.lines with inhibit := l } ∧ (lineSensed l s).pu = { s.pu with sense := l } ∧
      (lineSensed l s).mc = s.mc ∧ (lineSensed l s).pt = s.pt ∧ (lineSensed l s).mon = s.mon ∧
      (lineSensed l s).ldu = s.ldu ∧ (lineSensed l s).ct = s.ct ∧ (lineSensed l s).wsg = s.wsg ∧
      (lineSensed l s).cl = s.cl ∧ (lineSensed l s).cs = s.cs ∧ (lineSensed l s).wgc = s.wgc ∧
      (lineSensed l s).tcu = s.tcu :=
  ⟨rfl, rfl, rfl, rfl, rfl, rfl, rfl, rfl, rfl, rfl, rfl, rfl⟩

theorem lineSensed_eu (l : Inhibit) (s : State) :
    (lineSensed l s).eu.inhibitSense = l ∧ (lineSensed l s).eu.latches.get .inhibitChanged = true ∧
      (lineSensed l s).eu.senses = s.eu.senses ∧ (lineSensed l s).eu.unmasked = s.eu.unmasked := by
  obtain ⟨unmasked, senses, inhibit, -⟩ := Eu.trigger_frame { s.eu with inhibitSense := l } .inhibitChanged
  exact ⟨inhibit, Eu.trigger_latched _ _, senses, unmasked⟩

/-- R166: what EU has sensed stands at the end of the step. -/
theorem finish_sensed (s t : State) (l : Inhibit) (h : t.eu.Follows (lineSensed l s).eu) :
    (finish t).eu.inhibitSense = l ∧ (finish t).eu.latches.get .inhibitChanged = true ∧
      (finish t).eu.senses = s.eu.senses ∧ (finish t).eu.unmasked = s.eu.unmasked := by
  obtain ⟨-, unmasked, senses, inhibit, -⟩ := finish_eu t
  obtain ⟨i, latch, v, u⟩ := lineSensed_eu l s
  exact ⟨inhibit.trans (h.inhibitSense.trans i), finish_latched t _ (h.latched _ latch),
    senses.trans (h.senses.trans v), unmasked.trans (h.unmasked.trans u)⟩

theorem exec_line (s : State) (l : Inhibit) :
    exec (.inhibitLineChange l) s = .next (if s.lines.inhibit = l then s else lineChanged l s) := rfl

/-- Settles O44. -/
theorem inhibitLineActsOnRecording : Obligations.InhibitLineActsOnRecording := by
  refine fun s => ⟨by rw [exec_line, if_pos rfl], fun l hl => ?_⟩
  have acts := exec_line s l
  rw [if_neg (Ne.symm hl)] at acts
  obtain ⟨lines, pu, mc, pt, mon, ldu, ct, wsg, cl, cs, wgc, tcu⟩ := lineSensed_frame l s
  cases l with
  | released =>
    have changed : lineChanged .released s = finish (lineSensed .released s) := rfl
    obtain ⟨inhibit, latch, senses, unmasked⟩ := finish_sensed s _ .released (Eu.Follows.refl _)
    rw [changed] at acts
    exact ⟨_, acts, lines, pu, inhibit, latch, senses, unmasked, mc, pt, mon, ldu, ct, wsg, cl, cs, fun _ => ⟨wgc, tcu⟩,
      fun h => absurd h (by decide)⟩
  | asserted =>
    have changed : lineChanged .asserted s = finish (tcuInhibit (wgcInhibit (lineSensed .asserted s))) := rfl
    have moved := (Moves.refl (lineSensed .asserted s)).wgcInhibit.tcuInhibit
    obtain ⟨inhibit, latch, senses, unmasked⟩ := finish_sensed s _ .asserted moved.eu_follows
    obtain ⟨ldu', wsg', arm, gate, pauses, stands⟩ := wgcInhibit_wgc (lineSensed .asserted s)
    have marked := tcuInhibit_tcu (wgcInhibit (lineSensed .asserted s))
    have tcu' : (wgcInhibit (lineSensed .asserted s)).tcu = s.tcu := by simp [tcu]
    rw [tcu'] at marked
    rw [wgc] at gate pauses stands
    rw [changed] at acts
    refine ⟨_, acts, by simpa using lines, by simpa using pu, inhibit, latch, senses, unmasked, by simpa using mc,
      by simpa using pt, by simpa using mon, by simpa [ldu] using ldu', by simpa using ct, by simpa [wsg] using wsg', by simpa using cl,
      by simpa using cs, fun h => absurd h (by decide), fun _ => ⟨by simpa using arm, by simpa using gate,
        fun g rest hq hg => by simpa using pauses g rest hq hg, fun g rest hq hg => by simpa using stands g rest hq hg,
        fun x hx hs => ⟨_, rfl, (marked x hx).1 hs, fun clear => ?_, fun set => ?_⟩, fun x hx hs => (marked x hx).2 hs⟩⟩
    · simp [Trial.mark, clear]
    · simp [Trial.mark, set]

end Sys2Proof.Machine
end

section
/-! SUPPORT. WSG's layout: the classes and the pulse train of a mark, the trains that start with a run or ahead of it, and what each event of the stream changes (R121 to R127, log entries 8, 13 and 21). -/

namespace Sys2Proof.Machine

/-! ### The mark and its train -/

theorem layoutLength_eq (n : Nat) (h : 1 ≤ n) : layoutLength n = if n = 1 then 2 else n := by
  unfold layoutLength
  split <;> omega

theorem inLead_iff (e : StrategyEntry) (x : Int) :
    inLead e x = true ↔ e.leadDelay ≤ x ∧ x < e.leadDelay + e.leadWidth := by
  simp [inLead]

theorem inMiddle_iff (e : StrategyEntry) (n : Nat) (x : Int) :
    inMiddle e n x = true ↔ ∃ k : Nat, 2 ≤ k ∧ k + 2 ≤ n ∧ 16 * (k : Int) ≤ x ∧ x < 16 * (k : Int) + e.midWidth := by
  simp only [inMiddle, List.any_eq_true, List.mem_range, Bool.and_eq_true, decide_eq_true_eq]
  constructor
  · rintro ⟨k, -, ⟨⟨low, high⟩, begun⟩, still⟩
    exact ⟨k, low, high, begun, still⟩
  · rintro ⟨k, low, high, begun, still⟩
    exact ⟨k, by omega, ⟨⟨low, high⟩, begun⟩, still⟩

theorem hasTail_iff (e : StrategyEntry) (n : Nat) : hasTail e n = true ↔ 3 ≤ n ∧ 0 < e.tailWidth := by
  simp [hasTail]

theorem inTail_iff (e : StrategyEntry) (n : Nat) (x : Int) :
    inTail e n x = true ↔
      3 ≤ n ∧ 0 < e.tailWidth ∧ 16 * ((n : Int) - 1) ≤ x ∧ x < 16 * ((n : Int) - 1) + e.tailWidth := by
  simp only [inTail, Bool.and_eq_true, hasTail_iff, decide_eq_true_eq, and_assoc]

theorem lastPulseEnd_eq (e : StrategyEntry) (n : Nat) :
    lastPulseEnd e n = (if 3 ≤ n ∧ 0 < e.tailWidth then 16 * ((n : Int) - 1) + e.tailWidth
      else if 4 ≤ n then 16 * ((n : Int) - 2) + e.midWidth else e.leadDelay + e.leadWidth) := by
  simp only [lastPulseEnd, hasTail_iff]

/-- R122: an instant at which one of the mark's pulses stands. -/
def inPulse (e : StrategyEntry) (n : Nat) (x : Int) : Bool := inLead e x || inMiddle e n x || inTail e n x

theorem inPulse_iff (e : StrategyEntry) (n : Nat) (x : Int) :
    inPulse e n x = true ↔ (e.leadDelay ≤ x ∧ x < e.leadDelay + e.leadWidth) ∨
      (∃ k : Nat, 2 ≤ k ∧ k + 2 ≤ n ∧ 16 * (k : Int) ≤ x ∧ x < 16 * (k : Int) + e.midWidth) ∨
      (3 ≤ n ∧ 0 < e.tailWidth ∧ 16 * ((n : Int) - 1) ≤ x ∧ x < 16 * ((n : Int) - 1) + e.tailWidth) := by
  rw [inPulse, Bool.or_eq_true, Bool.or_eq_true, inLead_iff, inMiddle_iff, inTail_iff, or_assoc]

theorem trainLevel_pulse (e : StrategyEntry) (n : Nat) (x : Int) (h : inPulse e n x = true) :
    trainLevel e n x = .peak := if_pos h

theorem trainLevel_gap (e : StrategyEntry) (n : Nat) (x : Int) (h : ¬ inPulse e n x = true)
    (after : lastPulseEnd e n ≤ x) (still : x < lastPulseEnd e n + e.coolWidth) : trainLevel e n x = .cool :=
  (if_neg h).trans (if_pos ⟨after, still⟩)

theorem trainLevel_rest (e : StrategyEntry) (n : Nat) (x : Int) (h : ¬ inPulse e n x = true)
    (outside : x < lastPulseEnd e n ∨ lastPulseEnd e n + e.coolWidth ≤ x) : trainLevel e n x = .bias :=
  (if_neg h).trans (if_neg (by omega))

theorem patternRun_period (i : Nat) : patternRun (i + 16) = patternRun i := by
  have even : (i + 16) % 2 = i % 2 := by omega
  have place : (i + 16) % 16 = i % 16 := by omega
  rw [patternRun, patternRun, even, place]

/-! ### A train that starts -/

/-- R121, R123: the train of a mark of this length with this entry, in the window that begins there. -/
def trainOf (n window start : Nat) (e : StrategyEntry) : Train :=
  { cls := markClass n, length := layoutLength n, window := window, start := start, entry := e }

theorem Wsg.startTrain_loaded (w : Wsg) (n window notBefore : Nat) (e : StrategyEntry) (he : w.entryFor n = some e) :
    w.startTrain n window notBefore =
      { w with train := some (trainOf n window (max notBefore ((window : Int) + min 0 e.leadDelay).toNat) e) } := by
  rw [Wsg.startTrain, he]
  rfl

/-- A mark whose window begins now starts its train now: none starts in the past. -/
theorem Wsg.startTrain_now (w : Wsg) (n window : Nat) (e : StrategyEntry) (he : w.entryFor n = some e) :
    w.startTrain n window window = { w with train := some (trainOf n window window e) } := by
  have here : max window ((window : Int) + min 0 e.leadDelay).toNat = window := by omega
  rw [w.startTrain_loaded n window window e he, here]

theorem Wsg.trainAt_false (w : Wsg) (window : Nat) (h : ∀ x, w.train = some x → x.window ≠ window) :
    w.trainAt window = false := by
  unfold Wsg.trainAt
  split
  · rfl
  · next t ht => simpa using h t ht

theorem Wsg.startAhead_none (w : Wsg) (live : Bool) (h : w.ahead = none) : w.startAhead live = w := by
  unfold Wsg.startAhead
  split
  · next r a _ ha => rw [h] at ha; cases ha
  · rfl

theorem Wsg.startAhead_space (w : Wsg) (live : Bool) (a : Run) (ha : w.ahead = some a) (hk : a.kind = .space) :
    w.startAhead live = w := by
  unfold Wsg.startAhead
  split
  · next r b _ hb =>
    obtain rfl : a = b := Option.some.inj (ha.symm.trans hb)
    split
    · rfl
    · rw [if_neg (by simp [hk])]
  · rfl

/-- R123: the mark held ahead starts its train when the earlier of its window and d has come, and not before. -/
theorem Wsg.startAhead_mark (w : Wsg) (r : PlacedRun) (a : Run) (e : StrategyEntry) (hr : w.run = some r)
    (ha : w.ahead = some a) (hk : a.kind = .mark) (he : w.entryFor a.length = some e)
    (ht : ∀ x, w.train = some x → x.window ≠ r.finish) :
    w.startAhead true = { w with
      train := if (r.finish : Int) + min 0 e.leadDelay ≤ w.now then
          some (trainOf a.length r.finish (max w.now ((r.finish : Int) + min 0 e.leadDelay).toNat) e)
        else w.train } := by
  unfold Wsg.startAhead
  split
  · next r' a' hr' ha' =>
    obtain rfl : r = r' := Option.some.inj (hr.symm.trans hr')
    obtain rfl : a = a' := Option.some.inj (ha.symm.trans ha')
    rw [he]
    dsimp only
    by_cases come : (r.finish : Int) + min 0 e.leadDelay ≤ w.now
    · rw [if_pos ⟨rfl, hk, w.trainAt_false _ ht, come⟩, if_pos come, w.startTrain_loaded _ _ _ e he]
    · rw [if_neg (fun h => come h.2.2.2), if_neg come]
  · next missing => exact absurd ha (missing r a hr)

/-- The run that passes with none held behind the run ahead: a mark starts its train with its window (R123). -/
theorem Wsg.passRun_mark (w : Wsg) (r : PlacedRun) (a : Run) (e : StrategyEntry) (hp : w.pattern = none)
    (hr : w.run = some r) (ha : w.ahead = some a) (hk : a.kind = .mark) (he : w.entryFor a.length = some e)
    (ht : ∀ x, w.train = some x → x.window ≠ r.finish) (hn : w.now = r.finish) :
    w.passRun true = { w with
      ahead := none, run := some { kind := .mark, length := a.length, start := r.finish }
      train := some (trainOf a.length r.finish r.finish e) } := by
  simp only [Wsg.passRun, hr, ha, hp, hk, hn, max_self, w.trainAt_false _ ht, if_pos, and_self, Option.map_none]
  refine (congrArg (Wsg.startAhead · true) (Wsg.startTrain_now _ _ _ e ?_)).trans ?_
  · exact he
  · exact Wsg.startAhead_none _ _ rfl

/-! ### Taking a run -/

theorem Wsg.takeRun_first_mark (w : Wsg) (n : Nat) (e : StrategyEntry) (hr : w.run = none) (hn : 1 ≤ n)
    (he : w.entryFor n = some e) :
    w.takeRun true { kind := .mark, length := n } = { w with
      run := some { kind := .mark, length := n, start := w.now }, train := some (trainOf n w.now w.now e) } := by
  have long : n ≠ 0 := by omega
  simp only [Wsg.takeRun, hr, if_neg long, if_pos, and_self]
  exact Wsg.startTrain_now _ _ _ e he

theorem Wsg.takeRun_first_space (w : Wsg) (live : Bool) (n : Nat) (hr : w.run = none) (hn : 1 ≤ n) :
    w.takeRun live { kind := .space, length := n } =
      { w with run := some { kind := .space, length := n, start := w.now } } := by
  have long : n ≠ 0 := by omega
  simp [Wsg.takeRun, hr, long]

theorem Wsg.takeRun_behind (w : Wsg) (live : Bool) (r : PlacedRun) (a : Run) (hr : w.run = some r)
    (hn : w.ahead = none) (h : 1 ≤ a.length) :
    w.takeRun live a = ({ w with ahead := some a } : Wsg).startAhead live := by
  have long : a.length ≠ 0 := by omega
  simp only [Wsg.takeRun, hr, hn, if_neg long]

theorem Wsg.takeRun_passes (w : Wsg) (live : Bool) (r : PlacedRun) (a b : Run) (hr : w.run = some r)
    (hb : w.ahead = some b) (h : 1 ≤ a.length) :
    w.takeRun live a = ({ w.passRun live with ahead := some a } : Wsg).startAhead live := by
  have long : a.length ≠ 0 := by omega
  simp only [Wsg.takeRun, hr, hb, if_neg long]

/-! ### The events of the stream -/

theorem setStream_opened (w : Wsg) (s : State) (h : s.wgc.gate = .opened) :
    setStream w s = { s with
      wsg := w
      ldu := { s.ldu with driven := w.select } } := by
  have driven : (s.setWsg w).drivenNow = w.select := if_pos h
  rw [setStream, driven]
  rfl

theorem exec_channelRun_open (s : State) (r : Run) (hg : s.wgc.gate = .opened) (hu : s.wgc.user = some .segment) :
    exec (.channelRun r) s = .next { s with
      wsg := s.wsg.takeRun s.streamLive r
      ldu := { s.ldu with driven := (s.wsg.takeRun s.streamLive r).select } } := by
  rw [← setStream_opened _ _ hg]
  exact congrArg Host.Outcome.next (if_pos ⟨hg, hu⟩)

theorem exec_channelRun_closed (s : State) (r : Run) (h : s.wgc.gate ≠ .opened ∨ s.wgc.user ≠ some .segment) :
    exec (.channelRun r) s = .next s :=
  congrArg Host.Outcome.next (if_neg (not_and_or.2 h))

theorem exec_trialPatternRun_open (s : State) (hg : s.wgc.gate = .opened) (hu : s.wgc.user = some .trial) :
    exec .trialPatternRun s = .next { s with
      wsg := s.wsg.passRun true
      ldu := { s.ldu with driven := (s.wsg.passRun true).select } } := by
  rw [← setStream_opened _ _ hg]
  exact congrArg Host.Outcome.next (if_pos ⟨hg, hu⟩)

theorem exec_trialPatternRun_closed (s : State) (h : s.wgc.gate ≠ .opened ∨ s.wgc.user ≠ some .trial) :
    exec .trialPatternRun s = .next s :=
  congrArg Host.Outcome.next (if_neg (not_and_or.2 h))

theorem exec_encoderReady_same (s : State) : exec (.encoderReadyChange s.lines.encoderReady) s = .next s :=
  congrArg Host.Outcome.next (if_pos rfl)

theorem exec_encoderReady (s : State) (ready : Bool) (h : s.lines.encoderReady ≠ ready) :
    exec (.encoderReadyChange ready) s =
      .next (wsgReady ready (s.setLines { s.lines with encoderReady := ready })) :=
  congrArg Host.Outcome.next (if_neg h)

theorem wsgReady_closed (s : State) (ready : Bool) (h : s.wgc.gate ≠ .opened ∨ s.wgc.user ≠ some .segment) :
    wsgReady ready s = s := if_neg (not_and_or.2 h)

theorem wsgReady_open (s : State) (ready : Bool) (hg : s.wgc.gate = .opened) (hu : s.wgc.user = some .segment) :
    wsgReady ready s = { s with
      wsg := if ready then s.wsg.startAhead true else s.wsg.readyFell
      ldu := { s.ldu with driven := (if ready then s.wsg.startAhead true else s.wsg.readyFell).select } } := by
  rw [← setStream_opened _ _ hg]
  exact if_pos ⟨hg, hu⟩

/-! ### The clauses of O30 -/

theorem channelRun_first_mark (s : State) (n : Nat) (e : StrategyEntry) (hg : s.wgc.gate = .opened)
    (hu : s.wgc.user = some .segment) (hl : s.lines.encoderReady = true) (hr : s.wsg.run = none) (hn : 1 ≤ n)
    (he : (s.wsg.entries.get s.wsg.speed.index).get (markClass n).index = some e) :
    exec (.channelRun { kind := .mark, length := n }) s = .next { s with
      wsg := { s.wsg with
        run := some { kind := .mark, length := n, start := s.wsg.now }
        train := some { cls := markClass n, length := layoutLength n, window := s.wsg.now, start := s.wsg.now,
                        entry := e } }
      ldu := { s.ldu with driven := trainLevel e (layoutLength n) 0 } } := by
  have live : s.streamLive = true := by simp [State.streamLive, hl]
  have zero : ((s.wsg.now : Int) - s.wsg.now) = 0 := by omega
  rw [exec_channelRun_open s _ hg hu, live, s.wsg.takeRun_first_mark n e hr hn he]
  simp [Wsg.select, trainOf]

theorem channelRun_first_space (s : State) (n : Nat) (hg : s.wgc.gate = .opened) (hu : s.wgc.user = some .segment)
    (hr : s.wsg.run = none) (ht : s.wsg.train = none) (hn : 1 ≤ n) :
    exec (.channelRun { kind := .space, length := n }) s = .next { s with
      wsg := { s.wsg with run := some { kind := .space, length := n, start := s.wsg.now } }
      ldu := { s.ldu with driven := .bias } } := by
  rw [exec_channelRun_open s _ hg hu, s.wsg.takeRun_first_space _ n hr hn]
  simp [Wsg.select, ht]

theorem channelRun_next (s : State) (r : PlacedRun) (a : Run) (hg : s.wgc.gate = .opened)
    (hu : s.wgc.user = some .segment) (hr : s.wsg.run = some r) (hn : 1 ≤ a.length) :
    ∃ t, exec (.channelRun a) s = .next t ∧ t.ldu = { s.ldu with driven := t.wsg.select } ∧
      t = { s with wsg := t.wsg, ldu := t.ldu } ∧
      (s.wsg.ahead = none → t.wsg = { s.wsg with ahead := some a, train := t.wsg.train } ∧
        (a.kind = .space → t.wsg.train = s.wsg.train)) ∧
      (∀ b : Run, s.wsg.ahead = some b →
        t.wsg = { s.wsg with
          now := max s.wsg.now (r.start + 16 * r.length)
          run := some { kind := if s.streamLive = true then b.kind else .space, length := b.length
                        start := r.start + 16 * r.length }
          pattern := s.wsg.pattern.map (fun i => (i + 1) % 16)
          ahead := some a
          train := t.wsg.train }) := by
  refine ⟨_, exec_channelRun_open s a hg hu, rfl, rfl, fun none => ?_, fun b hb => ?_⟩
  · dsimp only
    rw [s.wsg.takeRun_behind _ r a hr none hn]
    exact ⟨Wsg.startAhead_eq _ _, fun space => by rw [Wsg.startAhead_space _ _ a rfl space]⟩
  · dsimp only
    rw [s.wsg.takeRun_passes _ r a b hr hb hn, Wsg.startAhead_eq, s.wsg.passRun_eq _ r b hr hb]
    rfl

theorem tick_ahead (s : State) (r : PlacedRun) (a : Run) (e : StrategyEntry) (window : Nat) (hp : s.pending = [])
    (hg : s.wgc.gate = .opened) (hr : s.wsg.run = some r) (ha : s.wsg.ahead = some a) (hk : a.kind = .mark)
    (live : s.streamLive = true)
    (he : (s.wsg.entries.get s.wsg.speed.index).get (markClass a.length).index = some e)
    (hw : window = r.start + 16 * r.length) (hn : s.wsg.now + 1 < window)
    (ht : ∀ x, s.wsg.train = some x → x.window ≠ window) :
    ∃ t, step s = .next t ∧
      t.wsg.train = (if (window : Int) + min 0 e.leadDelay ≤ s.wsg.now + 1 then
          some { cls := markClass a.length, length := layoutLength a.length, window := window
                 start := max (s.wsg.now + 1) ((window : Int) + min 0 e.leadDelay).toNat, entry := e }
        else s.wsg.train) := by
  subst hw
  refine ⟨_, by rw [step_empty s hp, tick_opened s hg], ?_⟩
  rw [s.wsg.tick_within _ r hr hn, live]
  exact congrArg Wsg.train (Wsg.startAhead_mark { s.wsg with now := s.wsg.now + 1 } r a e hr ha hk he ht)

theorem tick_mark_begins (s : State) (r : PlacedRun) (a : Run) (e : StrategyEntry) (window : Nat) (hp : s.pending = [])
    (hg : s.wgc.gate = .opened) (pattern : s.wsg.pattern = none) (hr : s.wsg.run = some r)
    (ha : s.wsg.ahead = some a) (hk : a.kind = .mark) (hl : s.lines.encoderReady = true)
    (he : (s.wsg.entries.get s.wsg.speed.index).get (markClass a.length).index = some e)
    (hw : window = r.start + 16 * r.length) (hn : s.wsg.now + 1 = window)
    (ht : ∀ x, s.wsg.train = some x → x.window ≠ window) :
    step s = .next { s with
      wsg := { s.wsg with
        now := window, ahead := none, run := some { kind := .mark, length := a.length, start := window }
        train := some { cls := markClass a.length, length := layoutLength a.length, window := window
                        start := window, entry := e } }
      ldu := { s.ldu with driven := trainLevel e (layoutLength a.length) 0 } } := by
  have live : s.streamLive = true := by simp [State.streamLive, hl]
  have finish : r.finish = window := hw.symm
  rw [step_empty s hp, tick_opened s hg, s.wsg.tick_end_some _ r a hr (by omega) ha, live,
    Wsg.passRun_mark { s.wsg with now := s.wsg.now + 1 } r a e pattern hr ha hk he (finish ▸ ht) (hn.trans hw)]
  simp only [finish, hn]
  simp [Wsg.select, trainOf]

theorem encoderReady_falls (s : State) (r : PlacedRun) (hg : s.wgc.gate = .opened)
    (hu : s.wgc.user = some .segment) (hl : s.lines.encoderReady = true) (hr : s.wsg.run = some r) :
    exec (.encoderReadyChange false) s = .next { s with
      lines := { s.lines with encoderReady := false }
      wsg := { s.wsg with train := none, run := some { r with kind := .space } }
      ldu := { s.ldu with driven := .bias } } := by
  rw [exec_encoderReady s false (by simp [hl]),
    wsgReady_open (s.setLines { s.lines with encoderReady := false }) _ hg hu]
  simp [Wsg.readyFell, Wsg.select, hr]

theorem encoderReady_rises (s : State) (hg : s.wgc.gate = .opened) (hu : s.wgc.user = some .segment)
    (hl : s.lines.encoderReady = false) :
    ∃ t, exec (.encoderReadyChange true) s = .next t ∧
      t = { s with
        lines := { s.lines with encoderReady := true }
        wsg := { s.wsg with train := t.wsg.train }
        ldu := { s.ldu with driven := t.wsg.select } } ∧
      (s.wsg.ahead = none → t.wsg.train = s.wsg.train) ∧
      (∀ (r : PlacedRun) (a : Run) (e : StrategyEntry) (window : Nat), s.wsg.run = some r → s.wsg.ahead = some a →
        a.kind = .mark → (s.wsg.entries.get s.wsg.speed.index).get (markClass a.length).index = some e →
        window = r.start + 16 * r.length → s.wsg.train = none →
        t.wsg.train = (if (window : Int) + min 0 e.leadDelay ≤ s.wsg.now then
            some { cls := markClass a.length, length := layoutLength a.length, window := window
                   start := max s.wsg.now ((window : Int) + min 0 e.leadDelay).toNat, entry := e }
          else none)) := by
  refine ⟨_, (exec_encoderReady s true (by simp [hl])).trans (congrArg _ (wsgReady_open _ _ hg hu)), ?_,
    fun none => ?_, fun r a e window hr ha hk he hw none => ?_⟩
  · dsimp only
    rw [if_pos rfl]
    exact congrArg (fun w => { s with
      lines := { s.lines with encoderReady := true }
      wsg := w
      ldu := { s.ldu with driven := (s.wsg.startAhead true).select } }) (s.wsg.startAhead_eq true)
  · exact congrArg Wsg.train (s.wsg.startAhead_none true none)
  · subst hw
    refine (congrArg Wsg.train (s.wsg.startAhead_mark r a e hr ha hk he (by simp [none]))).trans ?_
    rw [none]
    rfl

theorem trialPatternRun_passes (s : State) (r : PlacedRun) (a : Run) (i : Nat) (hg : s.wgc.gate = .opened)
    (hu : s.wgc.user = some .trial) (hr : s.wsg.run = some r) (ha : s.wsg.ahead = some a)
    (hi : s.wsg.pattern = some i) :
    ∃ t, exec .trialPatternRun s = .next t ∧ t.wsg.pattern = some ((i + 1) % 16) ∧
      t.wsg.run = some { kind := a.kind, length := a.length, start := r.start + 16 * r.length } ∧
      t.wsg.ahead = some (patternRun (i + 2)) ∧ t.wsg.entries = s.wsg.entries ∧
      t = { s with wsg := t.wsg, ldu := { s.ldu with driven := t.wsg.select } } := by
  have passed := s.wsg.passRun_eq true r a hr ha
  rw [hi] at passed
  exact ⟨_, exec_trialPatternRun_open s hg hu, congrArg Wsg.pattern passed, congrArg Wsg.run passed,
    congrArg Wsg.ahead passed, (s.wsg.passRun_streams true).2, rfl⟩

/-- Settles O30: each clause is one of the lemmas above. -/
theorem streamAndPatternAreLaidOut : Obligations.StreamAndPatternAreLaidOut := by
  refine ⟨fun n hn => ⟨rfl, layoutLength_eq n hn⟩, fun e n x last pulse hn hp hl => ?_, by decide, patternRun_period,
    channelRun_first_mark, channelRun_first_space, channelRun_next, tick_ahead, ?_, exec_channelRun_closed,
    exec_encoderReady_same, fun s h => ?_, encoderReady_falls, encoderReady_rises, exec_trialPatternRun_closed,
    trialPatternRun_passes⟩
  · rw [← inPulse_iff] at hp
    rw [← lastPulseEnd_eq] at hl
    subst hl
    exact ⟨fun h => trainLevel_pulse e n x (hp.1 h), fun h => trainLevel_gap e n x (mt hp.2 h),
      fun h => trainLevel_rest e n x (mt hp.2 h)⟩
  · exact fun s r a e window hp hg _ => tick_mark_begins s r a e window hp hg
  · rw [exec_encoderReady s _ (by simp)]
    exact congrArg _ (wsgReady_closed (s.setLines { s.lines with encoderReady := !s.lines.encoderReady }) _ h)

end Sys2Proof.Machine
end

section
/-! SUPPORT. What a handling tells: the notices it is known to have generated, among at most so many (R177). -/

namespace Sys2Proof.Machine

/-- The queue of notices stands; behind those that waited wait n more at most, and these among them. -/
def Eu.Tells (n : Nat) (xs : List Notice) (u v : Eu) : Prop :=
  v.notices = u.notices ∧
    ∃ l : List Posted, v.outbox = u.outbox ++ l ∧ l.length ≤ n ∧ ∀ x ∈ xs, x ∈ l.map Posted.notice

theorem Eu.Tells.nothing (u : Eu) : Eu.Tells 0 [] u u := ⟨rfl, [], by simp⟩

theorem Eu.Tells.of_eq {u v : Eu} (h : v = u) : Eu.Tells 0 [] u v := h ▸ Eu.Tells.nothing u

theorem Eu.Tells.trans {m n : Nat} {xs ys : List Notice} {u v w : Eu} (h : Eu.Tells m xs u v) (k : Eu.Tells n ys v w) :
    Eu.Tells (m + n) (xs ++ ys) u w := by
  obtain ⟨notices, l, outbox, few, told⟩ := h
  obtain ⟨notices', l', outbox', few', told'⟩ := k
  refine ⟨notices'.trans notices, l ++ l', by rw [outbox', outbox, List.append_assoc], ?_, fun x hx => ?_⟩
  · rw [List.length_append]
    omega
  · rw [List.map_append]
    rcases List.mem_append.1 hx with hx | hx
    · exact List.mem_append_left _ (told x hx)
    · exact List.mem_append_right _ (told' x hx)

theorem Eu.Tells.weaken {m n : Nat} {xs ys : List Notice} {u v : Eu} (h : Eu.Tells m xs u v) (hn : m ≤ n)
    (sub : ys ⊆ xs) : Eu.Tells n ys u v := by
  obtain ⟨notices, l, outbox, few, told⟩ := h
  exact ⟨notices, l, outbox, le_trans few hn, fun x hx => told x (sub hx)⟩

theorem Eu.post_tells (u : Eu) (p : Poster) (n : Notice) : Eu.Tells 1 [n] u (u.post p n) :=
  ⟨rfl, [⟨p, [], n⟩], rfl, le_rfl, by simp⟩

theorem Eu.Adds.tells {n : Nat} {u v : Eu} (h : Eu.Adds n u v) : Eu.Tells n [] u v := by
  obtain ⟨notices, l, outbox, few⟩ := h
  exact ⟨notices, l, outbox, few, by simp⟩

theorem Eu.trigger_tells (u : Eu) (e : Event) : Eu.Tells 1 [] u (u.trigger e) := (u.trigger_adds e).tells

/-- R177: what is held back is told all the same. -/
theorem Eu.Tells.hold {n : Nat} {xs : List Notice} {u v : Eu} (h : Eu.Tells n xs u v) (ps : List Poster) :
    Eu.Tells n xs u (v.hold u.outbox.length ps) := by
  obtain ⟨notices, l, outbox, few, told⟩ := h
  refine ⟨notices, l.map (fun x => { x with after := ps ++ x.after }), ?_, by rwa [List.length_map], fun x hx => ?_⟩
  · simp [Eu.hold, outbox]
  · have same : (Posted.notice ∘ fun x : Posted => { x with after := ps ++ x.after }) = Posted.notice := rfl
    rw [List.map_map, same]
    exact told x hx

theorem following_tells {n : Nat} {xs : List Notice} (ps : List Poster) (f : State → State) (s : State)
    (h : Eu.Tells n xs s.eu (f s).eu) : Eu.Tells n xs s.eu (following ps f s).eu := h.hold ps

/-- R177: with room for all that a step can generate, each notice it is known to generate joins. -/
theorem Eu.Tells.joins {n : Nat} {xs : List Notice} {s t : State} (h : Eu.Tells n xs s.eu t.eu) (room : s.room n)
    (hd : t.mc.noticeDepth = s.mc.noticeDepth) (x : Notice) (hx : x ∈ xs) : x ∈ (finish t).eu.notices := by
  obtain ⟨settled, free⟩ := room
  obtain ⟨notices, l, outbox, few, told⟩ := h
  have empty : s.eu.outbox = [] := settled
  rw [empty, List.nil_append] at outbox
  obtain ⟨y, hy, rfl⟩ := List.mem_map.1 (told x hx)
  refine mem_finish_notices t y (outbox ▸ hy) ?_
  rw [notices, outbox, hd]
  omega

end Sys2Proof.Machine
end

section
/-! SUPPORT. A head that halts as the gate closes, and the end of a trial by what its release finds (R107, R141, R145). -/

namespace Sys2Proof.Machine

/-- R132, R145: the gate IDLE, the head HALTED and the latch clear. -/
def headHalted (why : SegReason) (damaged : Option Nat) (g : Segment) (rest : List Segment) (s : State) : State :=
  { s with
    wgc := { s.wgc with
      gate := .idle, user := none, arm := false
      queue := { g with state := .halted, reason := some why, damaged := damaged } :: rest }
    wsg := s.wsg.stop
    ldu := { s.ldu with driven := .read } }

theorem haltHead_shut (why : SegReason) (d : Option Nat) (s : State) (g : Segment) (rest : List Segment)
    (h : s.wgc.queue = g :: rest) :
    haltHead why d (shutGate none s) = post .wgc (.segmentHalted g.tag why g.done d) (headHalted why d g rest s) :=
  haltHead_cons why d (shutGate none s) g rest h

/-- R145: a cause that cuts the block: what was gathered for it is gone too. -/
theorem haltAtOnce_writes (why : SegReason) (s : State) (g : Segment) (rest : List Segment)
    (h : s.wgc.queue = g :: rest) (hw : g.state = .writing ∨ g.state = .suspending) :
    haltAtOnce why s = post .wgc (.segmentHalted g.tag why g.done (some g.next))
      (clearReturns (headHalted why (some g.next) g rest s)) := by
  have writes : g.state.writes = true := by rcases hw with hw | hw <;> rw [hw] <;> rfl
  rw [haltAtOnce, h]
  dsimp only
  rw [if_pos writes]
  exact haltHead_cons why (some g.next) (clearReturns (shutGate none s)) g rest h

theorem haltAtOnce_nil (why : SegReason) (s : State) (h : s.wgc.queue = []) : haltAtOnce why s = s := by
  rw [haltAtOnce, h]

/-- R107: the record, the gate and the context once a trial has ended, its notice waiting. -/
def trialEnded (o : TrialOutcome) (r : Option TrialReason) (p : Option Nat) (t : Trial) (s : State) : State :=
  post .tcu (.calDone (s.calDone t o r p)) ((offGate (settleRecord t p s)).setTcu { s.tcu with trial := none })

theorem settleRecord_eq (t : Trial) (p : Option Nat) (s : State) :
    settleRecord t p s = s.setCt (settleRecord t p s).ct := by
  cases p <;> rfl

/-- R107: the release told, whether the gate was OPEN or not. -/
theorem trialTold_shut (o : TrialOutcome) (r : Option TrialReason) (p : Option Nat) (t : Trial) (s : State) :
    shutGate none (trialTold o r p t s) = post .tcu (.calDone (s.calDone t o r p)) (offGate (settleRecord t p s)) := by
  unfold trialTold
  dsimp only
  cases p <;> split <;> rfl

/-- R107: the release lets the head proceed, and the context goes. -/
theorem endTrial_releases (o : TrialOutcome) (r : Option TrialReason) (p : Option Nat) (t : Trial) (s : State)
    (ht : s.tcu.trial = some t) :
    endTrial o r p s = (following [.tcu] newHead
      (post .tcu (.calDone (s.calDone t o r p)) (offGate (settleRecord t p s)))).setTcu { s.tcu with trial := none } := by
  have tcu : (newHead (post .tcu (.calDone (s.calDone t o r p)) (offGate (settleRecord t p s)))).tcu = s.tcu := by
    rw [(newHead_frame _).2.2.2.2.1, settleRecord_eq]
    rfl
  rw [endTrial_some o r p ht, trialTold_shut, ← tcu]
  rfl

/-- R107: where the release lets no head proceed, the end of the trial is all that happens. -/
theorem endTrial_quiet (o : TrialOutcome) (r : Option TrialReason) (p : Option Nat) (t : Trial) (s : State)
    (ht : s.tcu.trial = some t)
    (stays : newHead (post .tcu (.calDone (s.calDone t o r p)) (offGate (settleRecord t p s))) =
      post .tcu (.calDone (s.calDone t o r p)) (offGate (settleRecord t p s))) :
    endTrial o r p s = trialEnded o r p t s := by
  rw [endTrial_releases o r p t s ht, following_self _ _ _ stays]
  rfl

theorem settleRecord_wgc (t : Trial) (p : Option Nat) (s : State) : (settleRecord t p s).wgc = s.wgc := by
  rw [settleRecord_eq]
  rfl

theorem endTrial_stays (o : TrialOutcome) (r : Option TrialReason) (p : Option Nat) (t : Trial) (s : State)
    (ht : s.tcu.trial = some t) (hq : ∀ g ∈ s.wgc.queue.head?, g.state ≠ .queued) :
    endTrial o r p s = trialEnded o r p t s := by
  have queue : (settleRecord t p s).wgc.queue = s.wgc.queue := congrArg Wgc.queue (settleRecord_wgc t p s)
  refine endTrial_quiet o r p t s ht ?_
  cases h : s.wgc.queue with
  | nil => exact newHead_nil _ (queue.trans h)
  | cons g rest => exact newHead_off _ g rest (queue.trans h) (hq g (by simp [h]))

theorem endTrial_alone (o : TrialOutcome) (r : Option TrialReason) (p : Option Nat) (t : Trial) (s : State)
    (ht : s.tcu.trial = some t) (hq : s.wgc.queue = []) : endTrial o r p s = trialEnded o r p t s :=
  endTrial_stays o r p t s ht (by simp [hq])

/-- What the end of a trial leaves and writes. -/
theorem trialEnded_parts (o : TrialOutcome) (r : Option TrialReason) (p : Option Nat) (t : Trial) (s : State) :
    (trialEnded o r p t s).mc = s.mc ∧ (trialEnded o r p t s).pt = s.pt ∧ (trialEnded o r p t s).mon = s.mon ∧
      (trialEnded o r p t s).ldu = { s.ldu with driven := .read } ∧
      (trialEnded o r p t s).tcu = { s.tcu with trial := none } ∧ (trialEnded o r p t s).wsg = s.wsg.stop ∧
      (trialEnded o r p t s).wgc = { s.wgc with gate := .idle, user := none } ∧ (trialEnded o r p t s).pu = s.pu ∧
      (trialEnded o r p t s).eu = s.eu.post .tcu (.calDone (s.calDone t o r p)) := by
  cases p <;> exact ⟨rfl, rfl, rfl, rfl, rfl, rfl, rfl, rfl, rfl⟩

theorem trialEnded_restores (o : TrialOutcome) (r : Option TrialReason) (t : Trial) (s : State) :
    (trialEnded o r none t s).ct = s.ct.putRecord t.key t.saved := rfl

/-- R177: with room, CAL_DONE joins. -/
theorem trialEnded_joins {s u : State} (o : TrialOutcome) (r : Option TrialReason) (p : Option Nat) (t : Trial)
    (room : s.room 1) (he : u.eu = s.eu) (hm : u.mc = s.mc) :
    (finish (trialEnded o r p t u)).eu.notices = s.eu.notices ++ [.calDone (u.calDone t o r p)] := by
  have same : ((offGate (settleRecord t p u)).setTcu { u.tcu with trial := none }).eu = s.eu := by
    rw [settleRecord_eq]
    exact he
  have depth : ((offGate (settleRecord t p u)).setTcu { u.tcu with trial := none }).mc = s.mc := by
    rw [settleRecord_eq]
    exact hm
  rw [trialEnded, finish_post room _ _ same depth]
  rfl

end Sys2Proof.Machine
end

section
/-! SUPPORT. A boundary of the held position, and the block that acts on it (R24, R25, R27). -/

namespace Sys2Proof.Machine

/-- R24, R25: the kind of the boundary that a record of the predicted block makes. -/
def boundaryKind (v : Bool) : BoundaryKind := if v then .valid else .coasted

/-- R24, R25: the tracker past the predicted block. -/
def passed (v : Bool) (s : State) : State :=
  s.setPt { s.pt with
    current := s.pt.predicted, predicted := successor s.ct.blocks s.pt.predicted
    coast := if v then 0 else s.pt.coast + 1 }

theorem takeArrival_boundary (s : State) (v : Bool) (h : s.passesBoundary v) :
    takeArrival (s.ct.arrival v s.pt.surface s.pt.predicted) s =
      deliverBoundary s.pt.surface s.pt.predicted (boundaryKind v) (passed v s) := by
  obtain ⟨⟨locked, present, fits⟩, kind⟩ := h
  cases v with
  | true =>
    rw [arrival_valid _ _ _ fits present, (takeArrival_valid s _ _).2.2.2.1 locked rfl rfl]
    rfl
  | false =>
    have few : s.pt.coast < 3 := by simpa using kind
    rw [arrival_invalid _ _ _ _ (.inl rfl), (takeArrival_invalid s).2.2.1 locked few]
    rfl

theorem exec_boundary (s : State) (v : Bool) (hm : s.mc.mode = .record) (h : s.passesBoundary v) :
    exec (.positionRecord v s.pt.surface s.pt.predicted) s =
      .next (conclude (deliverBoundary s.pt.surface s.pt.predicted (boundaryKind v) (passed v s))) := by
  rw [exec_record s v _ _ (.inr hm), takeArrival_boundary s v h]

/-- R27: without a change pending the step ends with the two blocks' handlings. -/
theorem exec_boundary_quiet (s : State) (v : Bool) (hm : s.mc.mode = .record) (hr : s.mc.request = none)
    (h : s.passesBoundary v) :
    exec (.positionRecord v s.pt.surface s.pt.predicted) s =
      .next (finish (deliverBoundary s.pt.surface s.pt.predicted (boundaryKind v) (passed v s))) := by
  rw [exec_boundary s v hm h, conclude_none]
  rw [(deliverBoundary_frame _ _ _ _).1]
  exact hr

theorem boundary_keeps (s : State) (v : Bool) (f : Surface) (a : Nat) (k : BoundaryKind) :
    BoundaryKeeps s (finish (deliverBoundary f a k (passed v s))) := by
  obtain ⟨mc, -, mon, pu, cl, cs, lines, pending⟩ := deliverBoundary_frame f a k (passed v s)
  exact ⟨mc, mon, pu, cl, cs, lines, pending⟩

theorem gateRace_false (s : State) (h : s.tcu.trial = none ∨ s.wgc.queue = []) : s.gateRace = false := by
  rcases h with h | h <;> simp [State.gateRace, h]

/-- R27: without a trial WGC alone acts. -/
theorem deliverBoundary_noTrial (f : Surface) (a : Nat) (k : BoundaryKind) (s : State) (h : s.tcu.trial = none) :
    deliverBoundary f a k s = wgcBoundary f a k s := by
  have none : (wgcBoundary f a k s).tcu.trial = none := by rw [(wgcBoundary_frame f a k s).2.2.2.2.1, h]
  rw [deliverBoundary, bothTake, if_neg (by simp [gateRace_false s (.inl h)]), tcuBoundary, none]

theorem wgcBoundary_off (f : Surface) (a : Nat) (k : BoundaryKind) (s : State) (h : s.headOffGate) :
    wgcBoundary f a k s = s := by
  unfold wgcBoundary
  split
  · rfl
  · next g rest hq =>
    have off := h g (by simp [hq])
    cases hg : g.state with
    | waiting => exact absurd hg off.1
    | writing => exact absurd off.2 (by simp [hg, SegState.writes])
    | suspending => exact absurd off.2 (by simp [hg, SegState.writes])
    | queued => rfl
    | suspended => rfl
    | halted => rfl

/-- R27: beside a trial the head is off the gate, so that TCU alone acts, unless it ends the trial for a QUEUED head. -/
theorem deliverBoundary_trial (f : Surface) (a : Nat) (k : BoundaryKind) (s : State) (off : s.headOffGate)
    (stays : s.wgc.queue = [] ∨ ∀ n, (tcuBoundary f a k (s.setFree n)).wgc.queue = s.wgc.queue) :
    ∃ n, deliverBoundary f a k s = tcuBoundary f a k (s.setFree n) := by
  have quiet (n : Nat) : wgcBoundary f a k (s.setFree n) = s.setFree n := wgcBoundary_off f a k (s.setFree n) off
  unfold deliverBoundary bothTake
  cases race : s.gateRace with
  | false =>
    refine ⟨s.free, ?_⟩
    rw [if_neg (by simp)]
    exact congrArg _ (quiet s.free)
  | true =>
    rcases stays with empty | stays
    · rw [gateRace_false s (.inr empty)] at race
      cases race
    · refine ⟨s.free + 1, ?_⟩
      rw [if_pos rfl]
      dsimp only
      rw [draw_eq, quiet]
      split
      · rfl
      · refine following_self _ _ _ (wgcBoundary_off f a k _ ?_)
        rw [State.headOffGate, stays]
        exact off

end Sys2Proof.Machine
end

section
/-! SUPPORT. Boundaries at which a segment or a trial waits (R101, R103, R138), and obligation O20. -/

namespace Sys2Proof.Machine

/-- R101, R103, R138: the boundary at which what waits begins: VALID, on its surface and at its block. -/
def opensAt (f : Surface) (a : Nat) (k : BoundaryKind) (g : Surface) (b : Nat) : Prop := k = .valid ∧ f = g ∧ a = b

/-- A record that does not open what waits, and the boundary it makes. -/
theorem not_opensAt {s : State} {v : Bool} {f : Surface} {a : Nat}
    (h : (v = true ∧ (s.pt.surface ≠ f ∨ s.pt.predicted ≠ a)) ∨ (v = false ∧ s.pt.coast < 3)) :
    ¬ opensAt s.pt.surface s.pt.predicted (boundaryKind v) f a := by
  rintro ⟨valid, surface, block⟩
  rcases h with ⟨-, other⟩ | ⟨rfl, -⟩
  · exact other.elim (· surface) (· block)
  · cases valid

theorem passes_of {s : State} {v : Bool} {p : Prop} (hp : s.holdsPosition)
    (h : (v = true ∧ p) ∨ (v = false ∧ s.pt.coast < 3)) : s.passesBoundary v :=
  ⟨hp, h.imp And.left And.right⟩

theorem wgcBoundary_waits (f : Surface) (a : Nat) (k : BoundaryKind) (s : State) (g : Segment) (rest : List Segment)
    (hq : s.wgc.queue = g :: rest) (hs : g.state = .waiting) (h : ¬ opensAt f a k g.surface g.next) :
    wgcBoundary f a k s = waitOn s := by
  rw [wgcBoundary, hq]
  dsimp only
  rw [hs]
  exact if_neg h

theorem waitOn_within (s : State) (h : s.wgc.wait + 1 ≤ s.wgc.waitLimit) :
    waitOn s = s.setWgc { s.wgc with wait := s.wgc.wait + 1 } := if_neg (Nat.not_lt.2 h)

theorem waitOn_past (s : State) (g : Segment) (rest : List Segment) (hq : s.wgc.queue = g :: rest)
    (h : s.wgc.waitLimit < s.wgc.wait + 1) :
    waitOn s = post .wgc (.segmentHalted g.tag .startNotFound g.done none)
      (headHalted .startNotFound none g rest (s.setWgc { s.wgc with wait := s.wgc.wait + 1 })) :=
  (if_pos h).trans (haltHead_shut .startNotFound none (s.setWgc { s.wgc with wait := s.wgc.wait + 1 }) g rest hq)

/-- R101, R103: a trial that goes on waiting, without a mark that ends it. -/
theorem tcuBoundary_waits (f : Surface) (a : Nat) (k : BoundaryKind) (s : State) (x : Trial)
    (hx : s.tcu.trial = some x) (hm : x.mark = none) (hs : x.sub = .writeWait ∨ x.sub = .readWait)
    (h : ¬ opensAt f a k x.key.surface x.first) : tcuBoundary f a k s = trialWaitOn x s := by
  rw [tcuBoundary, hx]
  dsimp only
  rcases hs with hs | hs
  · rw [hs]
    dsimp only
    rw [trialWriteWait, hm]
    exact if_neg h
  · rw [hs]
    dsimp only
    rw [trialReadWait, if_neg (by simp [hm])]
    exact if_neg h

theorem trialWaitOn_within (x : Trial) (s : State) (h : x.wait + 1 ≤ s.wgc.waitLimit) :
    trialWaitOn x s = setTrial { x with wait := x.wait + 1 } s := if_neg (Nat.not_lt.2 h)

theorem trialWaitOn_past (x : Trial) (s : State) (h : s.wgc.waitLimit < x.wait + 1) :
    trialWaitOn x s = endTrial .startNotFound none none (setTrial { x with wait := x.wait + 1 } s) := if_pos h

theorem segment_counts_boundaries (s : State) (v : Bool) (g : Segment) (rest : List Segment)
    (hm : s.mc.mode = .record) (hr : s.mc.request = none) (ht : s.tcu.trial = none) (hq : s.wgc.queue = g :: rest)
    (hs : g.state = .waiting) (hp : s.holdsPosition)
    (h : (v = true ∧ (s.pt.surface ≠ g.surface ∨ s.pt.predicted ≠ g.next)) ∨ (v = false ∧ s.pt.coast < 3)) :
    ∃ t, exec (.positionRecord v s.pt.surface s.pt.predicted) s = .next t ∧ BoundaryKeeps s t ∧ t.ct = s.ct ∧
      t.tcu = s.tcu ∧
      (s.wgc.wait + 1 ≤ s.wgc.waitLimit →
        t.wgc = { s.wgc with wait := s.wgc.wait + 1 } ∧ t.ldu = s.ldu ∧ t.wsg = s.wsg ∧
        (s.settled → t.eu = s.eu)) ∧
      (s.wgc.waitLimit < s.wgc.wait + 1 →
        t.wgc = { s.wgc with
          wait := s.wgc.wait + 1, gate := .idle, user := none, arm := false
          queue := { g with state := .halted, reason := some .startNotFound, damaged := none } :: rest } ∧
        t.ldu = { s.ldu with driven := .read } ∧ t.wsg = s.wsg.stop ∧
        (s.room 1 → t.eu.notices = s.eu.notices ++ [.segmentHalted g.tag .startNotFound g.done none])) := by
  have taken : deliverBoundary s.pt.surface s.pt.predicted (boundaryKind v) (passed v s) = waitOn (passed v s) := by
    rw [deliverBoundary_noTrial _ _ _ (passed v s) ht]
    exact wgcBoundary_waits _ _ _ (passed v s) g rest hq hs (not_opensAt h)
  refine ⟨_, exec_boundary_quiet s v hm hr (passes_of hp h), boundary_keeps s v _ _ _, ?_⟩
  rw [taken]
  refine ⟨(waitOn_frame _).2.2.2.1, (waitOn_frame _).2.2.2.2.1, fun within => ?_, fun past => ?_⟩
  · rw [waitOn_within (passed v s) within]
    exact ⟨rfl, rfl, rfl, fun settled => by rw [finish_settled settled]; exacts [rfl, rfl]⟩
  · rw [waitOn_past (passed v s) g rest hq past]
    exact ⟨rfl, rfl, rfl, fun room => by rw [finish_post room]; exacts [rfl, rfl, rfl]⟩

theorem trial_counts_boundaries (s : State) (v : Bool) (x : Trial) (hm : s.mc.mode = .record)
    (hr : s.mc.request = none) (off : s.headOffGate) (hx : s.tcu.trial = some x) (mark : x.mark = none)
    (hs : x.sub = .writeWait ∨ x.sub = .readWait) (hp : s.holdsPosition)
    (h : (v = true ∧ (s.pt.surface ≠ x.key.surface ∨ s.pt.predicted ≠ x.first)) ∨ (v = false ∧ s.pt.coast < 3)) :
    ∃ t, exec (.positionRecord v s.pt.surface s.pt.predicted) s = .next t ∧ BoundaryKeeps s t ∧
      (x.wait + 1 ≤ s.wgc.waitLimit →
        t.tcu = { s.tcu with trial := some { x with wait := x.wait + 1 } } ∧ t.ct = s.ct ∧ t.wgc = s.wgc ∧
        t.ldu = s.ldu ∧ t.wsg = s.wsg) ∧
      (s.wgc.waitLimit < x.wait + 1 → s.wgc.queue = [] →
        t.tcu = { s.tcu with trial := none } ∧ t.ct = s.ct.putRecord x.key x.saved ∧
        t.wgc = { s.wgc with gate := .idle, user := none } ∧ t.ldu = { s.ldu with driven := .read } ∧
        t.wsg = s.wsg.stop ∧
        (s.room 1 → t.eu.notices = s.eu.notices ++ [.calDone (s.calDone x .startNotFound none none)])) := by
  have waits (n : Nat) : tcuBoundary s.pt.surface s.pt.predicted (boundaryKind v) ((passed v s).setFree n) =
      trialWaitOn x ((passed v s).setFree n) :=
    tcuBoundary_waits _ _ _ ((passed v s).setFree n) x hx mark hs (not_opensAt h)
  refine ⟨_, exec_boundary_quiet s v hm hr (passes_of hp h), boundary_keeps s v _ _ _, fun within => ?_,
    fun past empty => ?_⟩
  · have counted (n : Nat) := (waits n).trans (trialWaitOn_within x _ within)
    obtain ⟨n, taken⟩ := deliverBoundary_trial s.pt.surface s.pt.predicted (boundaryKind v) (passed v s) off
      (.inr fun n => by rw [counted]; rfl)
    rw [taken, counted]
    exact ⟨rfl, rfl, rfl, rfl, rfl⟩
  · obtain ⟨n, taken⟩ := deliverBoundary_trial s.pt.surface s.pt.predicted (boundaryKind v) (passed v s) off (.inl empty)
    have ended : trialWaitOn x ((passed v s).setFree n) = trialEnded .startNotFound none none
        { x with wait := x.wait + 1 } (setTrial { x with wait := x.wait + 1 } ((passed v s).setFree n)) :=
      (trialWaitOn_past x ((passed v s).setFree n) past).trans (endTrial_alone _ _ _ _ _ rfl empty)
    rw [taken, waits, ended]
    exact ⟨rfl, rfl, rfl, rfl, rfl, fun room => trialEnded_joins _ _ _ _ room rfl rfl⟩

/-- Settles O20. -/
theorem waitingCountsBoundaries : Obligations.WaitingCountsBoundaries :=
  ⟨segment_counts_boundaries, trial_counts_boundaries⟩

end Sys2Proof.Machine
end

section
/-! SUPPORT. The boundaries of a trial that writes (R100 to R102, R127), and obligation O25. -/

namespace Sys2Proof.Machine

/-- R95: the pointer of a set test area moves. -/
theorem setPointer_some (f : Surface) (n : Nat) (s : State) (a : TestArea) (h : s.tcu.areas.get f = some a) :
    setPointer f n s = s.setTcu { s.tcu with areas := s.tcu.areas.put f (some { a with next := n }) } := by
  rw [setPointer, h]
  rfl

/-- R98: the set of step k + 1. -/
theorem setOf_succ (t : Trial) (k p : Nat) (hp : p = t.start + k * t.step) :
    t.setOf (k + 1) =
      { peak := p, bias := divRoundNat (p * t.bias) 1000, cool := divRoundNat (p * t.cool) 1000 } := by
  subst hp
  rfl

/-- R127: the pattern begins with run 1 on the disc and run 2 ahead. -/
theorem beginPattern_runs (w : Wsg) :
    w.beginPattern.pattern = some 0 ∧ w.beginPattern.run = some { kind := .mark, length := 2, start := 0 } ∧
      w.beginPattern.ahead = some { kind := .space, length := 2 } := by
  rw [Wsg.beginPattern, Wsg.startTrain_eq]
  exact ⟨rfl, rfl, rfl⟩

/-- R61, R62: handing a set leaves the levels computed from it, whatever the gate and the stream do next. -/
theorem finish_current {s t : State} (p : PowerSet) (h : Moves (handPowers p s) t) : LevelsCurrent (finish t) :=
  Stir.current (.finish t) (h.keeps (fun _ _ => Move.current) (recompute_current _))

theorem tcuBoundary_opens (f : Surface) (a : Nat) (s : State) (t : Trial) (ht : s.tcu.trial = some t)
    (hm : t.mark = none) (hs : t.sub = .writeWait) (hf : f = t.key.surface) (ha : a = t.first) :
    tcuBoundary f a .valid s = if s.pu.sense = .asserted then abortTrial .inhibit s else trialOpen t s := by
  rw [tcuBoundary, ht]
  dsimp only
  rw [hs]
  dsimp only
  rw [trialWriteWait, hm]
  exact if_pos ⟨rfl, hf, ha⟩

theorem tcuBoundary_steps (f : Surface) (a : Nat) (k : BoundaryKind) (s : State) (t : Trial)
    (ht : s.tcu.trial = some t) (hm : t.mark = none) (hs : t.sub = .writing) (hi : t.index < t.steps.length) :
    tcuBoundary f a k s = trialNextStep t s := by
  rw [tcuBoundary, ht]
  dsimp only
  rw [hs]
  dsimp only
  rw [trialWriting, if_pos hi, hm]

theorem setStream_writeSet (w : Wsg) (s : State) : (setStream w s).ldu.writeSet = s.ldu.writeSet := rfl

theorem setStream_wsg (w : Wsg) (s : State) : (setStream w s).wsg = w := rfl

theorem openGate_writeSet (u : GateUser) (s : State) : (openGate u s).ldu.writeSet = s.ldu.writeSet :=
  setStream_writeSet _ _

/-- R101: what the opening of a trial's gate writes. -/
theorem trialOpen_parts (t : Trial) (s : State) :
    (trialOpen t s).ct = s.ct ∧
      (trialOpen t s).tcu =
        (setPointer t.key.surface (t.first + 1) (setTrial { t with sub := .writing, index := 1, wait := 0 } s)).tcu ∧
      (trialOpen t s).wgc = { s.wgc with gate := .opened, user := some .trial } ∧
      (trialOpen t s).ldu.writeSet = some (t.setOf 1) ∧ (trialOpen t s).wsg = s.wsg.beginPattern := by
  simp [trialOpen, openGate_wgc, openGate_writeSet, openGate_trial_wsg, handPowers_ldu]

/-- R102, R127: what the next step writes. -/
theorem trialNextStep_parts (t : Trial) (s : State) :
    (trialNextStep t s).ct = s.ct ∧
      (trialNextStep t s).tcu =
        (setPointer t.key.surface (t.first + t.index + 1) (setTrial { t with index := t.index + 1 } s)).tcu ∧
      (trialNextStep t s).wgc = s.wgc ∧
      (trialNextStep t s).ldu.writeSet = some (t.setOf (t.index + 1)) ∧
      (trialNextStep t s).wsg = s.wsg.beginPattern := by
  simp [trialNextStep, setStream_writeSet, setStream_wsg, handPowers_ldu]

theorem trialOpen_spec (t : Trial) (s : State) (a : TestArea) (ha : s.tcu.areas.get t.key.surface = some a) :
    (finish (trialOpen t s)).ct = s.ct ∧
      (finish (trialOpen t s)).tcu = {
        areas := s.tcu.areas.put t.key.surface (some { a with next := t.first + 1 })
        trial := some { t with sub := .writing, index := 1, wait := 0 } } ∧
      (finish (trialOpen t s)).wgc = { s.wgc with gate := .opened, user := some .trial } ∧
      (finish (trialOpen t s)).ldu.writeSet =
        some { peak := t.start, bias := divRoundNat (t.start * t.bias) 1000
               cool := divRoundNat (t.start * t.cool) 1000 } ∧
      (finish (trialOpen t s)).wsg.pattern = some 0 ∧
      (finish (trialOpen t s)).wsg.run = some { kind := .mark, length := 2, start := 0 } ∧
      (finish (trialOpen t s)).wsg.ahead = some { kind := .space, length := 2 } ∧
      (finish (trialOpen t s)).ldu.levels = (finish (trialOpen t s)).levelsNow := by
  have current : LevelsCurrent (finish (trialOpen t s)) := finish_current _ ((Moves.refl _).openGate .trial)
  have first : t.setOf 1 = _ := setOf_succ t 0 t.start (by omega)
  obtain ⟨ct, tcu, wgc, powers, wsg⟩ := trialOpen_parts t s
  obtain ⟨pattern, run, ahead⟩ := beginPattern_runs s.wsg
  rw [← wsg] at pattern run ahead
  rw [setPointer_some t.key.surface (t.first + 1) (setTrial { t with sub := .writing, index := 1, wait := 0 } s) a ha]
    at tcu
  exact ⟨ct, tcu, wgc, powers.trans (congrArg some first), pattern, run, ahead, current⟩

theorem trialNextStep_spec (t : Trial) (s : State) (a : TestArea) (ha : s.tcu.areas.get t.key.surface = some a) :
    (finish (trialNextStep t s)).ct = s.ct ∧
      (finish (trialNextStep t s)).tcu = {
        areas := s.tcu.areas.put t.key.surface (some { a with next := t.first + t.index + 1 })
        trial := some { t with index := t.index + 1 } } ∧
      (finish (trialNextStep t s)).wgc = s.wgc ∧
      (∀ p, p = t.start + t.index * t.step →
        (finish (trialNextStep t s)).ldu.writeSet = some { peak := p, bias := divRoundNat (p * t.bias) 1000
                                                           cool := divRoundNat (p * t.cool) 1000 }) ∧
      (finish (trialNextStep t s)).wsg.pattern = some 0 ∧
      (finish (trialNextStep t s)).ldu.levels = (finish (trialNextStep t s)).levelsNow := by
  have current : LevelsCurrent (finish (trialNextStep t s)) :=
    finish_current _ ((Moves.refl _).setStream (Moves.beginPattern_streams _))
  obtain ⟨ct, tcu, wgc, powers, wsg⟩ := trialNextStep_parts t s
  have pattern := (beginPattern_runs s.wsg).1
  rw [← wsg] at pattern
  rw [setPointer_some t.key.surface (t.first + t.index + 1) (setTrial { t with index := t.index + 1 } s) a ha] at tcu
  exact ⟨ct, tcu, wgc, fun p hp => powers.trans (congrArg some (setOf_succ t t.index p hp)), pattern, current⟩

/-- Settles O25: the boundary is TCU's, and its three cases are those of the sub-state. -/
theorem trialWritesStepByStep : Obligations.TrialWritesStepByStep := by
  intro s t a valid hm hr off ht mark area hp
  refine ⟨_, exec_boundary_quiet s valid hm hr hp, boundary_keeps s valid _ _ _, fun hs hv hf ha released => ?_,
    fun hs hv hf ha asserted empty => ?_, fun hs hi => ?_⟩
  · subst hv
    have opened (n : Nat) : tcuBoundary s.pt.surface s.pt.predicted (boundaryKind true) ((passed true s).setFree n) =
        trialOpen t ((passed true s).setFree n) :=
      (tcuBoundary_opens _ _ ((passed true s).setFree n) t ht mark hs hf ha).trans (if_neg (by simp [passed, released]))
    obtain ⟨n, taken⟩ := deliverBoundary_trial s.pt.surface s.pt.predicted (boundaryKind true) (passed true s) off
      (.inr fun n => by rw [opened]; rfl)
    rw [taken, opened]
    exact trialOpen_spec t _ a area
  · subst hv
    obtain ⟨n, taken⟩ := deliverBoundary_trial s.pt.surface s.pt.predicted (boundaryKind true) (passed true s) off
      (.inl empty)
    have ended : tcuBoundary s.pt.surface s.pt.predicted (boundaryKind true) ((passed true s).setFree n) =
        trialEnded .aborted (some .inhibit) none t ((passed true s).setFree n) :=
      (tcuBoundary_opens _ _ ((passed true s).setFree n) t ht mark hs hf ha).trans
        ((if_pos asserted).trans (endTrial_alone _ _ _ _ _ ht empty))
    rw [taken, ended]
    exact ⟨rfl, rfl⟩
  · have stepped (n : Nat) : tcuBoundary s.pt.surface s.pt.predicted (boundaryKind valid) ((passed valid s).setFree n) =
        trialNextStep t ((passed valid s).setFree n) :=
      tcuBoundary_steps _ _ _ ((passed valid s).setFree n) t ht mark hs hi
    obtain ⟨n, taken⟩ := deliverBoundary_trial s.pt.surface s.pt.predicted (boundaryKind valid) (passed valid s) off
      (.inr fun n => by rw [stepped]; rfl)
    rw [taken, stepped]
    exact trialNextStep_spec t _ a area

end Sys2Proof.Machine
end

section
/-! SUPPORT. The boundaries of a trial from the end of its last step written to its fit (R100, R102 to R107), and obligation O27. -/

namespace Sys2Proof.Machine

theorem mark_ne_mode (t : Trial) (h : t.modeMark = false) : t.mark ≠ some .mode := by
  rw [Trial.mark, if_neg (by simp [h])]
  split <;> simp

/-- R102: the boundary that ends the last step: the gate closes and the trial waits to read. -/
theorem tcuBoundary_written (f : Surface) (a : Nat) (k : BoundaryKind) (s : State) (t : Trial)
    (ht : s.tcu.trial = some t) (hs : t.sub = .writing) (hi : t.steps.length ≤ t.index) (hm : t.modeMark = false) :
    tcuBoundary f a k s =
      setTrial { t with sub := .readWait, wait := 0, inhibitMark := false } (shutGate (some .trial) s) := by
  rw [tcuBoundary, ht]
  dsimp only
  rw [hs]
  dsimp only
  rw [trialWriting, if_neg (Nat.not_lt.2 hi)]
  exact if_neg (mark_ne_mode t hm)

/-- R103, R104: the VALID boundary of the first block begins the measurement. -/
theorem tcuBoundary_measures (f : Surface) (a : Nat) (s : State) (t : Trial) (ht : s.tcu.trial = some t)
    (hs : t.sub = .readWait) (hm : t.modeMark = false) (hf : f = t.key.surface) (ha : a = t.first) :
    tcuBoundary f a .valid s = setTrial { t with sub := .measuring, index := 1, wait := 0 } s := by
  rw [tcuBoundary, ht]
  dsimp only
  rw [hs]
  dsimp only
  rw [trialReadWait, if_neg (mark_ne_mode t hm)]
  exact if_pos ⟨rfl, hf, ha⟩

theorem tcuBoundary_measuring (f : Surface) (a : Nat) (k : BoundaryKind) (s : State) (t : Trial)
    (ht : s.tcu.trial = some t) (hs : t.sub = .measuring) : tcuBoundary f a k s = trialMeasuring t s := by
  rw [tcuBoundary, ht]
  dsimp only
  rw [hs]

/-- R104, R105: a boundary closes the step, and the next begins. -/
theorem tcuBoundary_closes (f : Surface) (a : Nat) (k : BoundaryKind) (s : State) (t : Trial)
    (ht : s.tcu.trial = some t) (hs : t.sub = .measuring) (hi : t.index < t.steps.length) (hm : t.modeMark = false) :
    tcuBoundary f a k s = setTrial { t with
      steps := t.steps.modify (t.index - 1) TrialStep.close, index := t.index + 1 } s := by
  rw [tcuBoundary_measuring f a k s t ht hs]
  exact (if_pos hi).trans (if_neg (mark_ne_mode t hm))

/-- R106, R107: the boundary that closes the last step makes the fit, which ends the trial. -/
theorem tcuBoundary_fits (f : Surface) (a : Nat) (k : BoundaryKind) (s : State) (t x : Trial) (outcome : TrialOutcome)
    (power : Option Nat) (ht : s.tcu.trial = some t) (hs : t.sub = .measuring) (hi : t.steps.length ≤ t.index)
    (hq : s.wgc.queue = []) (hx : x = { t with steps := t.steps.modify (t.index - 1) TrialStep.close })
    (hf : fit t.target (validSteps x.results) = (outcome, power)) :
    tcuBoundary f a k s = trialEnded outcome none power x (setTrial x s) := by
  subst hx
  rw [← endTrial_alone outcome none power _ (setTrial _ s) rfl hq, tcuBoundary_measuring f a k s t ht hs]
  refine (if_neg (Nat.not_lt.2 hi)).trans ?_
  unfold trialFit
  dsimp only [Trial.mapStep]
  rw [hf]

theorem trialEnded_ct (o : TrialOutcome) (r : Option TrialReason) (p : Option Nat) (t : Trial) (s : State) :
    (trialEnded o r p t s).ct = (settleRecord t p s).ct := rfl

/-- Settles O27: the boundary is TCU's, and its four cases are those of the sub-state and the step. -/
theorem trialReadsAndEnds : Obligations.TrialReadsAndEnds := by
  intro s t valid hm hr off ht hp
  refine ⟨_, exec_boundary_quiet s valid hm hr hp, boundary_keeps s valid _ _ _, fun hs hi mark => ?_,
    fun hs mark hv hf ha => ?_, fun hs hi mark => ?_, fun hs hi empty x outcome power hx hf => ?_⟩
  · have written (n : Nat) := tcuBoundary_written s.pt.surface s.pt.predicted (boundaryKind valid)
      ((passed valid s).setFree n) t ht hs hi mark
    obtain ⟨n, taken⟩ := deliverBoundary_trial s.pt.surface s.pt.predicted (boundaryKind valid) (passed valid s) off
      (.inr fun n => by rw [written]; rfl)
    rw [taken, written]
    exact ⟨rfl, rfl, rfl, rfl, rfl⟩
  · subst hv
    have begun (n : Nat) := tcuBoundary_measures s.pt.surface s.pt.predicted ((passed true s).setFree n) t ht hs mark
      hf ha
    obtain ⟨n, taken⟩ := deliverBoundary_trial s.pt.surface s.pt.predicted .valid (passed true s) off
      (.inr fun n => by rw [begun]; rfl)
    have here : boundaryKind true = .valid := rfl
    rw [here, taken, begun]
    exact ⟨rfl, rfl, rfl, rfl, rfl⟩
  · have closed (n : Nat) := tcuBoundary_closes s.pt.surface s.pt.predicted (boundaryKind valid)
      ((passed valid s).setFree n) t ht hs hi mark
    obtain ⟨n, taken⟩ := deliverBoundary_trial s.pt.surface s.pt.predicted (boundaryKind valid) (passed valid s) off
      (.inr fun n => by rw [closed]; rfl)
    rw [taken, closed]
    exact ⟨rfl, rfl, rfl, rfl, rfl⟩
  · obtain ⟨n, taken⟩ := deliverBoundary_trial s.pt.surface s.pt.predicted (boundaryKind valid) (passed valid s) off
      (.inl empty)
    have ended := tcuBoundary_fits s.pt.surface s.pt.predicted (boundaryKind valid) ((passed valid s).setFree n) t x
      outcome power ht hs hi empty hx hf
    obtain ⟨-, -, -, ldu, tcu, wsg, wgc, -, -⟩ :=
      trialEnded_parts outcome none power x (setTrial x ((passed valid s).setFree n))
    rw [taken, ended]
    refine ⟨tcu, wgc, ldu, wsg, fun hn => ?_, fun p hsome => ?_,
      fun room => trialEnded_joins _ _ _ _ room rfl rfl⟩
    · subst hn hx
      rfl
    · subst hsome hx
      rfl

end Sys2Proof.Machine
end

section
/-! SUPPORT. The judgement of a WAITING head at its opening boundary (R139), and obligation O38. -/

namespace Sys2Proof.Machine

/-- R139: the gate opens for a head with its first powers. -/
def openedFor (p : Power) (g : Segment) (rest : List Segment) (s : State) : State :=
  openGate .segment (handPowers (p.writeSet 1000) (s.setWgc { s.wgc with
    correction := 1000, wRef := none, returns := { sum := 0, count := 0 }, wait := 0
    queue := { g with state := .writing } :: rest }))

theorem openSegment_inhibited (g : Segment) (rest : List Segment) (s : State) (hq : s.wgc.queue = g :: rest)
    (h : s.pu.sense = .asserted) :
    openSegment g s = post .wgc (.segmentSuspended g.tag g.next g.remaining .inhibit)
      ((offGate s).heads { g with state := .suspended, reason := some .inhibit } rest) :=
  (if_pos h).trans (suspendHead_heads .inhibit (offGate s) g rest hq)

theorem released_ne {x : Inhibit} (h : x = .released) : x ≠ .asserted := by
  rw [h]
  decide

/-- R139: the three conditions whose failure halts the head, in their order. -/
theorem openSegment_halts (g : Segment) (rest : List Segment) (s : State) (hq : s.wgc.queue = g :: rest) (why : SegReason)
    (released : s.pu.sense = .released)
    (h : (why = .underrun ∧ s.lines.encoderReady = false) ∨
        (why = .noCalibration ∧ s.lines.encoderReady = true ∧ s.power g.surface g.next = none) ∨
        (why = .noStrategy ∧ s.lines.encoderReady = true ∧ s.power g.surface g.next ≠ none ∧
          s.wsg.complete s.wsg.speed = false)) :
    openSegment g s = post .wgc (.segmentHalted g.tag why g.done none) (headHalted why none g rest s) := by
  rw [← haltHead_shut why none s g rest hq, openSegment, if_neg (released_ne released)]
  rcases h with ⟨rfl, low⟩ | ⟨rfl, ready, none⟩ | ⟨rfl, ready, some, missing⟩
  · exact if_pos low
  · rw [if_neg (by simp [ready]), none]
  · obtain ⟨p, hp⟩ := Option.ne_none_iff_exists'.1 some
    rw [if_neg (by simp [ready]), hp]
    exact if_pos missing

theorem openSegment_opens (g : Segment) (rest : List Segment) (s : State) (hq : s.wgc.queue = g :: rest) (p : Power)
    (released : s.pu.sense = .released) (ready : s.lines.encoderReady = true)
    (hp : s.power g.surface g.next = some p) (complete : s.wsg.complete s.wsg.speed = true) :
    openSegment g s = openedFor p g rest s := by
  rw [openSegment, if_neg (released_ne released), if_neg (by simp [ready]), hp]
  dsimp only
  rw [if_neg (by simp [complete])]
  simp only [Wgc.mapHead, hq]
  rfl

theorem divRoundNat_mul_self (n : Nat) : divRoundNat (n * 1000) 1000 = n := by
  unfold divRoundNat
  omega

/-- R153: with the correction at 1000 the peak is that of the answer. -/
theorem writeSet_uncorrected (p : Power) :
    p.writeSet 1000 = { peak := min 80000 p.peak, bias := divRoundNat (min 80000 p.peak * p.bias) 1000
                        cool := divRoundNat (min 80000 p.peak * p.cool) 1000 } := by
  simp only [Power.writeSet, effectivePeak, byRatio, divRoundNat_mul_self]

theorem openedFor_parts (p : Power) (g : Segment) (rest : List Segment) (s : State) :
    (openedFor p g rest s).wgc = { s.wgc with
        gate := .opened, user := some .segment, correction := 1000, wRef := none
        returns := { sum := 0, count := 0 }, wait := 0, queue := { g with state := .writing } :: rest } ∧
      (openedFor p g rest s).ldu.writeSet = some (p.writeSet 1000) ∧
      (openedFor p g rest s).ldu.driven = .bias ∧
      (openedFor p g rest s).ldu.levels = (openedFor p g rest s).levelsNow ∧
      LimitIsLatched s (openedFor p g rest s) := by
  have current : LevelsCurrent (openedFor p g rest s) :=
    ((Moves.refl (handPowers (p.writeSet 1000) _)).openGate .segment).keeps (fun _ _ => Move.current)
      (recompute_current _)
  refine ⟨?_, ?_, ?_, current, ?_⟩
  · simp [openedFor, openGate_wgc]
  · simp [openedFor, openGate_writeSet, handPowers_ldu]
  · rw [openedFor, openGate_driven, openGate_segment_wsg]
    rfl
  · exact limitIsLatched_of ((s.setWgc { s.wgc with
      correction := 1000, wRef := none, returns := { sum := 0, count := 0 }, wait := 0
      queue := { g with state := .writing } :: rest }).setLdu { s.ldu with writeSet := some (p.writeSet 1000) })
      rfl rfl rfl current rfl

/-- What the tracker and the end of the step change beside leaves the judgement. -/
theorem openSegment_judged (s : State) (g : Segment) (rest : List Segment) (x y : Pt) (hq : s.wgc.queue = g :: rest)
    (hx : x.surface = s.pt.surface) (hy : y.surface = s.pt.surface) :
    JudgedAtOpening s (finish ((openSegment g (s.setPt x)).setPt y)) g rest := by
  obtain ⟨mc, -, mon, ct, tcu, pu, cl, cs, lines, -⟩ := openSegment_frame g (s.setPt x)
  refine ⟨mc, ct, mon, pu, tcu, cl, cs, lines, fun asserted => ?_, fun why released cause => ?_,
    fun p released ready hp complete => ?_⟩
  · rw [openSegment_inhibited g rest (s.setPt x) hq asserted]
    exact ⟨rfl, rfl, rfl, fun room => congrArg State.eu (finish_post room _ _
      (t := ((offGate (s.setPt x)).heads { g with state := .suspended, reason := some .inhibit } rest).setPt y) rfl rfl)⟩
  · rw [openSegment_halts g rest (s.setPt x) hq why released cause]
    exact ⟨rfl, rfl, rfl, fun room => congrArg State.eu (finish_post room _ _
      (t := (headHalted why none g rest (s.setPt x)).setPt y) rfl rfl)⟩
  · rw [openSegment_opens g rest (s.setPt x) hq p released ready hp complete]
    obtain ⟨wgc, powers, driven, levels, limit⟩ := openedFor_parts p g rest (s.setPt x)
    have surface : (openedFor p g rest (s.setPt x)).pt.surface = s.pt.surface := by
      rw [← hx]
      exact congrArg Pt.surface (by simp [openedFor])
    have same : ((openedFor p g rest (s.setPt x)).setPt y).levelsNow = (openedFor p g rest (s.setPt x)).levelsNow := by
      simp only [State.levelsNow, State.setPt_pt, hy, surface]
      rfl
    have latch := finish_latch_other ((openedFor p g rest (s.setPt x)).setPt y) .currentLimit (by decide)
    refine ⟨wgc, powers.trans (congrArg some (writeSet_uncorrected p)), driven, levels.trans same.symm, ?_⟩
    unfold LimitIsLatched
    rw [latch]
    exact limit

theorem wgcBoundary_opens (f : Surface) (a : Nat) (s : State) (g : Segment) (rest : List Segment)
    (hq : s.wgc.queue = g :: rest) (hs : g.state = .waiting) (hf : f = g.surface) (ha : a = g.next) :
    wgcBoundary f a .valid s = openSegment g s := by
  rw [wgcBoundary, hq]
  dsimp only
  rw [hs]
  exact if_pos ⟨rfl, hf, ha⟩

/-- Settles O38: the boundary is the same for a record of the disc and for an arrival of the generator. -/
theorem openingBoundaryJudgesTheSegment : Obligations.OpeningBoundaryJudgesTheSegment := by
  intro s g rest hr ht hq hs locked hf ha
  have opening : deliverBoundary s.pt.surface s.pt.predicted .valid (passed true s) = openSegment g (passed true s) := by
    rw [deliverBoundary_noTrial _ _ _ (passed true s) ht]
    exact wgcBoundary_opens _ _ (passed true s) g rest hq hs hf ha
  have pt : (openSegment g (passed true s)).pt = (passed true s).pt := (openSegment_frame g (passed true s)).2.1
  have held : (openSegment g (passed true s)).pt.surface = s.pt.surface := by
    rw [pt]
    rfl
  have there : (passed true s).pt =
      { s.pt with current := g.next, predicted := successor s.ct.blocks g.next, coast := 0 } := by
    rw [← ha]
    rfl
  refine ⟨fun hm present fits => ?_, fun hm running surface next => ?_⟩
  · have passes : s.passesBoundary true := ⟨⟨locked, by rwa [hf], by rwa [ha]⟩, .inl rfl⟩
    have taken := exec_boundary_quiet s true hm hr passes
    have kind : boundaryKind true = .valid := rfl
    rw [kind, opening, hf, ha] at taken
    exact ⟨_, taken, openSegment_judged s g rest (passed true s).pt (openSegment g (passed true s)).pt hq rfl held,
      pt.trans there⟩
  · have arrived : takeArrival (some (s.pt.genSurface, s.pt.genNext)) s = openSegment g (passed true s) := by
      rw [next.trans ha.symm, surface.trans hf.symm, (takeArrival_valid s _ _).2.2.2.1 locked rfl rfl, ← opening]
      rfl
    have taken := exec_generated s running hr
    rw [generated, arrived, next] at taken
    refine ⟨_, taken, openSegment_judged s g rest (passed true s).pt _ hq rfl held, ?_⟩
    rw [(finish_frame _).2.1, State.setPt_pt, pt, there]

end Sys2Proof.Machine
end

section
/-! SUPPORT. A notice ahead of which few may join, and behind which all else waits (R177). -/

namespace Sys2Proof.Machine

/-- A notice that everything behind it waits for joins as soon as those ahead of it have. -/
theorem Eu.drain_joins (depth : Nat) (x : Posted) :
    ∀ (k : Nat) (u : Eu) (free : Nat) (a b : List Posted), u.outbox.length ≤ k → u.outbox = a ++ x :: b →
      (∀ y ∈ b, y.waitsFor x = true) → u.notices.length + a.length < depth →
      x.notice ∈ (Eu.drain k depth u free).1.notices := by
  intro k
  induction k with
  | zero =>
    intro u free a b h ho
    simp [ho] at h
  | succ k ih =>
    intro u free a b h ho wait room
    obtain ⟨p, z, q, free', split, ready, taken⟩ := Eu.drain_takes k depth u free (by simp [ho])
    have few : (p ++ q).length ≤ k := by
      rw [split, List.length_append, List.length_cons] at h
      rw [List.length_append]
      omega
    have joined : ({ u with outbox := p ++ q } : Eu).join depth z.notice =
        { u with outbox := p ++ q, notices := u.notices ++ [z.notice] } :=
      Eu.join_room _ _ _ (show u.notices.length < depth by omega)
    have here : ({ u with outbox := p ++ q, notices := u.notices ++ [z.notice] } : Eu).notices <+:
        (Eu.drain k depth { u with outbox := p ++ q, notices := u.notices ++ [z.notice] } free').1.notices :=
      (Eu.drain_all depth k { u with outbox := p ++ q, notices := u.notices ++ [z.notice] } free' few).2.2.2.2.1
    rw [taken, joined]
    rw [split] at ho
    rcases List.append_eq_append_iff.1 ho with ⟨d, ahead, behind⟩ | ⟨d, ahead, behind⟩
    · cases d with
      | nil =>
        obtain ⟨rfl, -⟩ : z = x ∧ q = b := by simpa using behind
        exact here.subset (List.mem_append_right _ (List.mem_singleton_self _))
      | cons e d =>
        obtain ⟨rfl, rfl⟩ : z = e ∧ q = d ++ x :: b := by simpa using behind
        rw [ahead] at room
        refine ih { u with outbox := p ++ (d ++ x :: b), notices := u.notices ++ [z.notice] } free' (p ++ d) b few
          (List.append_assoc p d (x :: b)).symm wait ?_
        simp only [List.length_append, List.length_cons, List.length_nil] at room ⊢
        omega
    · cases d with
      | nil =>
        obtain ⟨rfl, -⟩ : x = z ∧ b = q := by simpa using behind
        exact here.subset (List.mem_append_right _ (List.mem_singleton_self _))
      | cons e d =>
        obtain ⟨rfl, rfl⟩ : x = e ∧ b = d ++ z :: q := by simpa using behind
        have held : z.waitsFor x = true := wait z (by simp)
        simp [ahead, held] at ready

theorem finish_joins (s : State) (x : Posted) (a b : List Posted) (ho : s.eu.outbox = a ++ x :: b)
    (wait : ∀ y ∈ b, y.waitsFor x = true) (room : s.eu.notices.length + a.length < s.mc.noticeDepth) :
    x.notice ∈ (finish s).eu.notices :=
  Eu.drain_joins s.mc.noticeDepth x s.eu.outbox.length s.eu s.free a b le_rfl ho wait room

/-- What was generated since is of this poster, or waits for it. -/
def Eu.Behind (p : Poster) (u v : Eu) : Prop :=
  v.notices = u.notices ∧ ∃ l : List Posted, v.outbox = u.outbox ++ l ∧ ∀ y ∈ l, y.poster = p ∨ p ∈ y.after

theorem Eu.Behind.refl (p : Poster) (u : Eu) : Eu.Behind p u u := ⟨rfl, [], by simp⟩

theorem Eu.Behind.of_eq {p : Poster} {u v : Eu} (h : v = u) : Eu.Behind p u v := h ▸ Eu.Behind.refl p u

theorem Eu.Behind.trans {p : Poster} {u v w : Eu} (h : Eu.Behind p u v) (k : Eu.Behind p v w) : Eu.Behind p u w := by
  obtain ⟨notices, l, outbox, wait⟩ := h
  obtain ⟨notices', l', outbox', wait'⟩ := k
  refine ⟨notices'.trans notices, l ++ l', by rw [outbox', outbox, List.append_assoc], fun y hy => ?_⟩
  exact (List.mem_append.1 hy).elim (wait y) (wait' y)

theorem Eu.post_behind (p : Poster) (n : Notice) (u : Eu) : Eu.Behind p u (u.post p n) :=
  ⟨rfl, [⟨p, [], n⟩], rfl, by simp⟩

/-- R177: what follows a poster waits for it. -/
theorem Eu.Adds.behind {n : Nat} {u v : Eu} (h : Eu.Adds n u v) (p : Poster) (ps : List Poster) (hp : p ∈ ps) :
    Eu.Behind p u (v.hold u.outbox.length ps) := by
  obtain ⟨notices, l, outbox, -⟩ := h
  refine ⟨notices, l.map (fun x => { x with after := ps ++ x.after }), by simp [Eu.hold, outbox], fun y hy => ?_⟩
  obtain ⟨x, -, rfl⟩ := List.mem_map.1 hy
  exact .inr (List.mem_append_left _ hp)

/-- With a notice of a poster at hand, all that follows it waits, and it joins where those ahead of it leave room. -/
theorem Eu.Behind.joins {n : Nat} {p : Poster} {m : Notice} {u s t : State} (before : Eu.Tells n [] u.eu s.eu)
    (h : Eu.Behind p (s.eu.post p m) t.eu) (room : u.room (n + 1)) (hd : t.mc.noticeDepth = u.mc.noticeDepth) :
    m ∈ (finish t).eu.notices := by
  obtain ⟨settled, free⟩ := room
  obtain ⟨notices, a, outbox, few, -⟩ := before
  obtain ⟨notices', b, outbox', wait⟩ := h
  have empty : u.eu.outbox = [] := settled
  rw [empty, List.nil_append] at outbox
  have split : t.eu.outbox = a ++ ⟨p, [], m⟩ :: b := by
    rw [outbox']
    simp [Eu.post, outbox]
  refine finish_joins t ⟨p, [], m⟩ a b split (fun y hy => Posted.waitsFor_of (wait y hy)) ?_
  have same : t.eu.notices = u.eu.notices := notices'.trans notices
  rw [same, hd]
  omega

end Sys2Proof.Machine
end

section
/-! SUPPORT. What WGC keeps of the block that ended while it judges what comes next, and what waits behind its notices (R141, R142). -/

namespace Sys2Proof.Machine

/-- R129: the append point, the gathered values, the correction and its reference. -/
def Wgc.blockPart (w : Wgc) : Option (Surface × Nat) × Tally × Nat × Option Nat :=
  (w.append, w.returns, w.correction, w.wRef)

/-- A handling of WGC that keeps what the block left and generates its own notices. -/
structure FollowsBlock (s t : State) : Prop where
  part : t.wgc.blockPart = s.wgc.blockPart
  behind : Eu.Behind .wgc s.eu t.eu

namespace FollowsBlock
variable {s t u : State}

theorem refl (s : State) : FollowsBlock s s := ⟨rfl, Eu.Behind.refl _ _⟩

theorem trans (h : FollowsBlock s t) (k : FollowsBlock t u) : FollowsBlock s u :=
  ⟨k.part.trans h.part, h.behind.trans k.behind⟩

theorem post (n : Notice) (s : State) : FollowsBlock s (Machine.post .wgc n s) := ⟨rfl, Eu.post_behind _ _ _⟩

theorem shut (w : Option GateUser) (s : State) : FollowsBlock s (shutGate w s) := ⟨rfl, Eu.Behind.refl _ _⟩

theorem drop (s : State) : FollowsBlock s (dropHead s) := ⟨rfl, Eu.Behind.refl _ _⟩

theorem hand (p : PowerSet) (s : State) : FollowsBlock s (handPowers p s) :=
  ⟨rfl, (recompute_adds (s.setLdu { s.ldu with writeSet := some p })).behind _ _ (by simp)⟩

theorem mapHead_part (w : Wgc) (f : Segment → Segment) : (w.mapHead f).blockPart = w.blockPart := by
  unfold Wgc.mapHead
  split <;> rfl

theorem mapped (f : Segment → Segment) (s : State) : FollowsBlock s (s.setWgc (s.wgc.mapHead f)) :=
  ⟨mapHead_part _ _, Eu.Behind.refl _ _⟩

theorem suspend (why : SegReason) (s : State) : FollowsBlock s (suspendHead why s) := by
  unfold suspendHead
  split
  · exact refl s
  · exact (mapped _ s).trans (post _ _)

theorem halt (why : SegReason) (d : Option Nat) (s : State) : FollowsBlock s (haltHead why d s) := by
  unfold haltHead
  split
  · exact refl s
  · exact (mapped _ s).trans ⟨rfl, Eu.post_behind _ _ _⟩

theorem proceed (k : Nat) : ∀ s : State, FollowsBlock s (Machine.proceed k s) := by
  induction k with
  | zero => exact refl
  | succ k ih =>
    intro s
    unfold Machine.proceed
    split
    · exact refl s
    · split
      · exact refl s
      · split
        · exact suspend _ s
        · split
          · exact refl s
          · split
            · exact ((drop s).trans (post _ _)).trans (ih _)
            · exact ⟨mapHead_part _ _, Eu.Behind.refl _ _⟩

theorem newHead (s : State) : FollowsBlock s (Machine.newHead s) := proceed _ s

theorem continueHead (g : Segment) (s : State) : FollowsBlock s (Machine.continueHead g s) := by
  unfold Machine.continueHead
  split
  · exact (((shut _ s).trans (drop _)).trans (post _ _)).trans (newHead _)
  · split
    · exact (shut _ s).trans (suspend _ _)
    · split
      · exact (shut _ s).trans (halt _ _ _)
      · split
        · exact (shut _ s).trans (halt _ _ _)
        · exact (mapped _ s).trans (hand _ _)

theorem afterComplete (f : Surface) (a : Nat) (s : State) : FollowsBlock s (Machine.afterComplete f a s) := by
  unfold Machine.afterComplete
  split
  · exact shut _ s
  · split
    · exact continueHead _ s
    · exact (shut _ s).trans (newHead _)

theorem completeHead (s : State) : FollowsBlock s (Machine.completeHead s) := by
  unfold Machine.completeHead
  split
  · exact refl s
  · exact (drop s).trans (post _ _)

theorem afterBlock (f : Surface) (a : Nat) (s : State) : FollowsBlock s (Machine.afterBlock f a s) := by
  unfold Machine.afterBlock
  split
  · exact refl s
  · split
    · exact (completeHead s).trans (afterComplete f a _)
    · split
      · exact (shut _ s).trans (suspend _ _)
      · split
        · exact (shut _ s).trans (halt _ _ _)
        · split
          · exact (shut _ s).trans (halt _ _ _)
          · exact hand _ s

end FollowsBlock

end Sys2Proof.Machine
end

section
/-! SUPPORT. A boundary that ends a block: the state it is judged in, and each judgement (R141, R142, R151). -/

namespace Sys2Proof.Machine

/-- R151: the update does not look at the tracker. -/
theorem rpcUpdate_setPt (s : State) (p : Pt) : rpcUpdate (s.setPt p) = (rpcUpdate s).setPt p := by
  unfold rpcUpdate
  by_cases off : s.wgc.rpcOn = false ∨ s.mc.mode ≠ .record
  · rw [if_pos off, if_pos (show (s.setPt p).wgc.rpcOn = false ∨ (s.setPt p).mc.mode ≠ .record from off)]
  · rw [if_neg off, if_neg (show ¬ ((s.setPt p).wgc.rpcOn = false ∨ (s.setPt p).mc.mode ≠ .record) from off)]
    rw [State.setPt_wgc]
    cases returnLevel s.wgc.returns with
    | none => rfl
    | some w => cases s.wgc.wRef <;> rfl

theorem rpcUpdate_append (s : State) : (rpcUpdate s).wgc.append = s.wgc.append := by
  unfold rpcUpdate
  split
  · rfl
  · split
    · rfl
    · split
      · rfl
      · exact congrArg Prod.fst (FollowsBlock.mapHead_part _ _)

theorem Eu.ite_trigger_adds (u : Eu) (e : Event) (c : Prop) [Decidable c] :
    Eu.Adds 1 u (if c then u.trigger e else u) := by
  split
  · exact u.trigger_adds e
  · exact Eu.Adds.refl 1 u

/-- R151: an update announces one clamp at most. -/
theorem rpcUpdate_adds (s : State) : Eu.Adds 1 s.eu (rpcUpdate s).eu := by
  unfold rpcUpdate
  split
  · exact Eu.Adds.refl 1 _
  · split
    · exact Eu.Adds.refl 1 _
    · split
      · exact Eu.Adds.refl 1 _
      · exact Eu.ite_trigger_adds _ _ _

/-- The state in which a boundary judges what comes after the block: WGC as the update left it, with no values gathered,
and the other blocks as they were. -/
structure BlockEnded (s v w : State) (g h : Segment) (rest : List Segment) : Prop where
  wgc : w.wgc = { v.wgc with returns := { sum := 0, count := 0 } }
  queue : w.wgc.queue = h :: rest
  append : w.wgc.append = some (g.surface, g.next)
  head : ∃ x m, h = { g with done := g.done + 1, largest := x, limitMark := m }
  quiet : s.wgc.rpcOn = false → v.wgc.correction = s.wgc.correction ∧ h = { g with done := g.done + 1 }
  mc : w.mc = s.mc
  mon : w.mon = s.mon
  ldu : w.ldu = s.ldu
  ct : w.ct = s.ct
  tcu : w.tcu = s.tcu
  wsg : w.wsg = s.wsg
  pu : w.pu = s.pu
  cl : w.cl = s.cl
  cs : w.cs = s.cs
  lines : w.lines = s.lines
  pending : w.pending = s.pending
  mark : w.wgc.exitMark = s.wgc.exitMark
  told : Eu.Tells 1 [] s.eu w.eu

theorem blockEnded_of (valid : Bool) {s v : State} {g h : Segment} {rest : List Segment} (hq : s.wgc.queue = g :: rest)
    (hv : v = rpcUpdate (s.setWgc { s.wgc with
      append := some (g.surface, g.next), queue := { g with done := g.done + 1 } :: rest }))
    (hh : v.wgc.queue = h :: rest) : BlockEnded s v (blockEnded (passed valid s)) g h rest := by
  have counted : countBlock (passed valid s) = (s.setWgc { s.wgc with
      append := some (g.surface, g.next), queue := { g with done := g.done + 1 } :: rest }).setPt (passed valid s).pt := by
    have queue : (passed valid s).wgc.queue = g :: rest := hq
    simp only [countBlock, Wgc.mapHead, queue]
    rfl
  have ended : blockEnded (passed valid s) = (clearReturns v).setPt (passed valid s).pt := by
    rw [blockEnded, counted, rpcUpdate_setPt, ← hv]
    rfl
  obtain ⟨mc, -, mon, ldu, ct, tcu, wsg, pu, cl, cs, lines, -, pending⟩ := rpcUpdate_frame (s.setWgc { s.wgc with
    append := some (g.surface, g.next), queue := { g with done := g.done + 1 } :: rest })
  obtain ⟨x, m, head, -, -, mark⟩ := rpcUpdate_wgc (s.setWgc { s.wgc with
    append := some (g.surface, g.next), queue := { g with done := g.done + 1 } :: rest }) _ rest rfl
  have append := rpcUpdate_append (s.setWgc { s.wgc with
    append := some (g.surface, g.next), queue := { g with done := g.done + 1 } :: rest })
  have told := (rpcUpdate_adds (s.setWgc { s.wgc with
    append := some (g.surface, g.next), queue := { g with done := g.done + 1 } :: rest })).tells
  have off := rpcUpdate_quiet (s.setWgc { s.wgc with
    append := some (g.surface, g.next), queue := { g with done := g.done + 1 } :: rest })
  rw [← hv] at mc mon ldu ct tcu wsg pu cl cs lines pending head mark append told
  rw [← hv] at off
  rw [ended]
  refine ⟨rfl, hh, append, ⟨x, m, ?_⟩, fun quiet => ?_, mc, mon, ldu, ct, tcu, wsg, pu, cl, cs, lines, pending, mark, told⟩
  · exact (List.cons.inj (hh.symm.trans head)).1
  · rw [off (.inl quiet)] at hh ⊢
    exact ⟨rfl, (List.cons.inj hh).1.symm⟩

/-- R141: the block that ends counts, and is judged in that state. -/
theorem wgcBoundary_ends (f : Surface) (a : Nat) (k : BoundaryKind) (s : State) (g : Segment) (rest : List Segment)
    (hq : s.wgc.queue = g :: rest) (hs : g.state = .writing ∨ g.state = .suspending) :
    wgcBoundary f a k s = afterBlock f a (blockEnded s) := by
  rw [wgcBoundary, hq]
  dsimp only
  rcases hs with hs | hs <;> rw [hs] <;> rfl

section
variable {f : Surface} {a : Nat} {w : State} {h : Segment} {rest : List Segment} (hq : w.wgc.queue = h :: rest)
include hq

theorem afterBlock_suspends (more : h.done ≠ h.count) (hs : h.state = .suspending) :
    afterBlock f a w = post .wgc (.segmentSuspended h.tag h.next h.remaining (h.reason.getD .command))
      ((offGate w).heads { h with state := .suspended, reason := some (h.reason.getD .command) } rest) := by
  rw [afterBlock, hq]
  dsimp only
  rw [if_neg more, if_pos hs]
  exact suspendHead_heads _ (offGate w) h rest hq

/-- R141: the two conditions whose failure halts a head that would write on. -/
theorem afterBlock_halts (more : h.done ≠ h.count) (hs : h.state = .writing) (why : SegReason)
    (cause : (why = .underrun ∧ w.lines.encoderReady = false) ∨
      (why = .noCalibration ∧ w.lines.encoderReady = true ∧ w.power h.surface a = none)) :
    afterBlock f a w = post .wgc (.segmentHalted h.tag why h.done none) (headHalted why none h rest w) := by
  rw [← haltHead_shut why none w h rest hq, afterBlock, hq]
  dsimp only
  rw [if_neg more, if_neg (by simp [hs])]
  rcases cause with ⟨rfl, low⟩ | ⟨rfl, ready, none⟩
  · exact if_pos low
  · rw [if_neg (by simp [ready]), none]

theorem afterBlock_goesOn (more : h.done ≠ h.count) (hs : h.state = .writing) (ready : w.lines.encoderReady = true)
    (p : Power) (hp : w.power h.surface a = some p) :
    afterBlock f a w = handPowers (p.writeSet w.wgc.correction) w := by
  rw [afterBlock, hq]
  dsimp only
  rw [if_neg more, if_neg (by simp [hs]), if_neg (by simp [ready]), hp]

/-- R142: the complete head leaves, and its notice waits. -/
theorem afterBlock_completes (whole : h.done = h.count) :
    afterBlock f a w = afterComplete f a (post .wgc (.segmentDone h.tag h.done h.last w.wgc.correction h.largest)
      (w.setWgc { w.wgc with queue := rest })) := by
  rw [← completeHead_cons w h rest hq, afterBlock, hq]
  exact if_pos whole

end

/-- R153: the set of a block under the correction. -/
theorem writeSet_corrected (p : Power) (c e : Nat) (he : e = min 80000 (divRoundNat (p.peak * c) 1000)) :
    p.writeSet c = { peak := e, bias := divRoundNat (e * p.bias) 1000, cool := divRoundNat (e * p.cool) 1000 } := by
  subst he
  rfl

theorem handPowers_spec (p : Power) (c : Nat) (s : State) :
    (finish (handPowers (p.writeSet c) s)).wgc = s.wgc ∧
      (∀ e : Nat, e = min 80000 (divRoundNat (p.peak * c) 1000) →
        (finish (handPowers (p.writeSet c) s)).ldu.writeSet =
          some { peak := e, bias := divRoundNat (e * p.bias) 1000, cool := divRoundNat (e * p.cool) 1000 }) ∧
      (finish (handPowers (p.writeSet c) s)).ldu.levels = (finish (handPowers (p.writeSet c) s)).levelsNow ∧
      (finish (handPowers (p.writeSet c) s)).wsg = s.wsg ∧
      (finish (handPowers (p.writeSet c) s)).ldu.driven = s.ldu.driven :=
  ⟨rfl, fun e he => congrArg some (writeSet_corrected p c e he), rfl, rfl, rfl⟩

end Sys2Proof.Machine
end

section
/-! SUPPORT. Obligation O39: the block that ends, by what it leaves to write. -/

namespace Sys2Proof.Machine

namespace BlockEnded
variable {s v w : State} {g h : Segment} {rest : List Segment}

/-- What the head is once its block has been counted. -/
theorem counted (e : BlockEnded s v w g h rest) :
    h.tag = g.tag ∧ h.surface = g.surface ∧ h.count = g.count ∧ h.done = g.done + 1 ∧ h.state = g.state ∧
      h.reason = g.reason ∧ h.next = g.next + 1 ∧ h.last = g.last ∧ h.remaining = g.count - (g.done + 1) := by
  obtain ⟨x, m, rfl⟩ := e.head
  exact ⟨rfl, rfl, rfl, rfl, rfl, rfl, rfl, rfl, rfl⟩

theorem power (e : BlockEnded s v w g h rest) (f : Surface) (a : Nat) : w.power f a = s.power f a := by
  rw [State.power, e.ct, e.wsg]
  rfl

/-- Whatever the boundary decides, the block is counted and its values are gone. -/
theorem keeps (e : BlockEnded s v w g h rest) (f : Surface) (a : Nat) :
    (finish (afterBlock f a w)).ct = s.ct ∧ (finish (afterBlock f a w)).tcu = s.tcu ∧
      (finish (afterBlock f a w)).wgc.append = some (g.surface, g.next) ∧
      (finish (afterBlock f a w)).wgc.returns = { sum := 0, count := 0 } ∧
      (finish (afterBlock f a w)).wgc.correction = v.wgc.correction ∧
      (finish (afterBlock f a w)).wgc.wRef = v.wgc.wRef := by
  have part := (FollowsBlock.afterBlock f a w).part
  obtain ⟨-, -, -, ct, tcu, -⟩ := afterBlock_frame f a w
  have left : w.wgc.blockPart = (some (g.surface, g.next), { sum := 0, count := 0 }, v.wgc.correction, v.wgc.wRef) := by
    rw [Wgc.blockPart, e.append, e.wgc]
  obtain ⟨append, gathered, correction, reference⟩ : _ ∧ _ ∧ _ ∧ _ := by
    simpa only [Wgc.blockPart, Prod.mk.injEq] using part.trans left
  exact ⟨ct.trans e.ct, tcu.trans e.tcu, append, gathered, correction, reference⟩

/-- R177: with room, a notice of WGC behind an update's clamp joins. -/
theorem joins (e : BlockEnded s v w g h rest) {n : Notice} {x t : State} (hx : x.eu = w.eu)
    (behind : Eu.Behind .wgc (w.eu.post .wgc n) t.eu) (room : s.room 2) (hd : t.mc = s.mc) : n ∈ (finish t).eu.notices := by
  refine Eu.Behind.joins (u := s) (s := x) (hx ▸ e.told) (hx ▸ behind) room (by rw [hd])

theorem suspends (e : BlockEnded s v w g h rest) (f : Surface) (a : Nat) (hs : g.state = .suspending)
    (more : g.done + 1 < g.count) :
    (finish (afterBlock f a w)).wgc = { v.wgc with
        gate := .idle, user := none, returns := { sum := 0, count := 0 }
        queue := { h with state := .suspended, reason := some (g.reason.getD .command) } :: rest } ∧
      (finish (afterBlock f a w)).ldu = { s.ldu with driven := .read } ∧
      (s.room 2 → Notice.segmentSuspended g.tag (g.next + 1) (g.count - (g.done + 1)) (g.reason.getD .command) ∈
        (finish (afterBlock f a w)).eu.notices) := by
  obtain ⟨tag, -, count, done, state, reason, next, -, remaining⟩ := e.counted
  have why : h.reason.getD .command = g.reason.getD .command := by rw [reason]
  have told : Notice.segmentSuspended h.tag h.next h.remaining (g.reason.getD .command) =
      .segmentSuspended g.tag (g.next + 1) (g.count - (g.done + 1)) (g.reason.getD .command) := by
    rw [tag, next, remaining]
  rw [afterBlock_suspends e.queue (by omega) (state.trans hs), why, told]
  exact ⟨congrArg (fun x : Wgc => { x with
      gate := .idle, user := none
      queue := { h with state := .suspended, reason := some (g.reason.getD .command) } :: rest }) e.wgc,
    congrArg (fun x : Ldu => { x with driven := .read }) e.ldu,
    fun room => e.joins (x := w) rfl (Eu.Behind.refl _ _) room e.mc⟩

theorem halts (e : BlockEnded s v w g h rest) (f : Surface) (a : Nat) (hs : g.state = .writing)
    (more : g.done + 1 < g.count) (why : SegReason)
    (cause : (why = .underrun ∧ s.lines.encoderReady = false) ∨
      (why = .noCalibration ∧ s.lines.encoderReady = true ∧ s.power g.surface a = none)) :
    (finish (afterBlock f a w)).wgc = { v.wgc with
        gate := .idle, user := none, arm := false, returns := { sum := 0, count := 0 }
        queue := { h with state := .halted, reason := some why, damaged := none } :: rest } ∧
      (finish (afterBlock f a w)).ldu = { s.ldu with driven := .read } := by
  obtain ⟨-, surface, count, done, state, -, -, -, -⟩ := e.counted
  rw [← e.lines, ← e.power, ← surface] at cause
  rw [afterBlock_halts e.queue (by omega) (state.trans hs) why cause]
  exact ⟨congrArg (fun x : Wgc => { x with
      gate := .idle, user := none, arm := false
      queue := { h with state := .halted, reason := some why, damaged := none } :: rest }) e.wgc,
    congrArg (fun x : Ldu => { x with driven := .read }) e.ldu⟩

theorem goesOn (e : BlockEnded s v w g h rest) (f : Surface) (a : Nat) (hs : g.state = .writing)
    (more : g.done + 1 < g.count) (p : Power) (ready : s.lines.encoderReady = true) (hp : s.power g.surface a = some p) :
    (finish (afterBlock f a w)).wgc = { v.wgc with returns := { sum := 0, count := 0 } } ∧
      (∀ e : Nat, e = min 80000 (divRoundNat (p.peak * v.wgc.correction) 1000) →
        (finish (afterBlock f a w)).ldu.writeSet = some { peak := e, bias := divRoundNat (e * p.bias) 1000,
                                                          cool := divRoundNat (e * p.cool) 1000 }) ∧
      (finish (afterBlock f a w)).ldu.levels = (finish (afterBlock f a w)).levelsNow ∧
      (finish (afterBlock f a w)).wsg = s.wsg := by
  obtain ⟨-, surface, count, done, state, -, -, -, -⟩ := e.counted
  have correction : w.wgc.correction = v.wgc.correction := by rw [e.wgc]
  rw [← e.power, ← surface] at hp
  rw [← e.lines] at ready
  rw [afterBlock_goesOn e.queue (by omega) (state.trans hs) ready p hp, correction]
  obtain ⟨wgc, powers, levels, wsg, -⟩ := handPowers_spec p v.wgc.correction w
  exact ⟨wgc.trans e.wgc, powers, levels, wsg.trans e.wsg⟩

/-- R142: the notice of a complete head joins, whatever its departure lets proceed. -/
theorem announces (e : BlockEnded s v w g h rest) (f : Surface) (a : Nat) (whole : g.done + 1 = g.count) (room : s.room 2) :
    Notice.segmentDone g.tag g.count g.last v.wgc.correction h.largest ∈ (finish (afterBlock f a w)).eu.notices := by
  obtain ⟨tag, -, count, done, -, -, -, last, -⟩ := e.counted
  have correction : w.wgc.correction = v.wgc.correction := by rw [e.wgc]
  have mc : (afterBlock f a w).mc = s.mc := (afterBlock_frame f a w).1.trans e.mc
  have completes : h.done = h.count := by omega
  refine e.joins (x := w) rfl ?_ room mc
  rw [afterBlock_completes e.queue completes, tag, done, whole, last, correction]
  exact (FollowsBlock.afterComplete f a (post .wgc (.segmentDone g.tag g.count g.last v.wgc.correction h.largest)
    (w.setWgc { w.wgc with queue := rest }))).behind

end BlockEnded

theorem room_mono {s : State} {m n : Nat} (room : s.room n) (h : m ≤ n) : s.room m :=
  ⟨room.1, le_trans (Nat.add_le_add_left h _) room.2⟩

/-- Settles O39: the boundary is WGC's, and each clause is a judgement of the state in which the block has ended. -/
theorem boundaryEndsTheBlock : Obligations.BoundaryEndsTheBlock := by
  intro s v g h rest valid hm hr ht hq hs hp hv hh
  have e := blockEnded_of valid hq hv hh
  have taken : deliverBoundary s.pt.surface s.pt.predicted (boundaryKind valid) (passed valid s) =
      afterBlock s.pt.surface s.pt.predicted (blockEnded (passed valid s)) := by
    rw [deliverBoundary_noTrial _ _ _ (passed valid s) ht]
    exact wgcBoundary_ends _ _ _ (passed valid s) g rest hq hs
  have kept := boundary_keeps s valid s.pt.surface s.pt.predicted (boundaryKind valid)
  have stepped := exec_boundary_quiet s valid hm hr hp
  rw [taken] at kept stepped
  generalize blockEnded (passed valid s) = w at *
  obtain ⟨ct, tcu, append, gathered, correction, reference⟩ := e.keeps s.pt.surface s.pt.predicted
  refine ⟨_, stepped, kept, ct, tcu, append, gathered, correction, reference, e.quiet,
    fun hg more => e.suspends _ _ hg more,
    fun hg more => ⟨fun low => e.halts _ _ hg more .underrun (.inl ⟨rfl, low⟩),
      fun ready none => e.halts _ _ hg more .noCalibration (.inr ⟨rfl, ready, none⟩),
      fun p ready hp => e.goesOn _ _ hg more p ready hp⟩, fun whole alone => ?_⟩
  have completes : h.done = h.count := by
    obtain ⟨-, -, count, done, -⟩ := e.counted
    omega
  subst alone
  have shut := afterBlock_completes (f := s.pt.surface) (a := s.pt.predicted) e.queue completes
  refine ⟨?_, ?_, ?_, ?_, fun room => e.announces _ _ whole (room_mono room (by decide))⟩
  all_goals
    rw [shut]
    rfl

end Sys2Proof.Machine
end

section
/-! SUPPORT. The head behind a complete segment (R142), and obligation O49. -/

namespace Sys2Proof.Machine

/-- R142: whether a queued head goes on through the open gate. -/
theorem continues_iff (f : Surface) (a : Nat) (s : State) (g : Segment) (rest : List Segment) (hq : s.wgc.queue = g :: rest)
    (may : s.mc.mode.mayWrite = true) (unmarked : s.wgc.exitMark = false) :
    continues f a s = true ↔ g.link = .append ∧ g.surface = f ∧ g.start = a := by
  rw [continues, hq]
  simp [may, unmarked, and_assoc]

theorem afterComplete_continues {f : Surface} {a : Nat} {s : State} {g : Segment} {rest : List Segment}
    (hq : s.wgc.queue = g :: rest) (h : continues f a s = true) : afterComplete f a s = continueHead g s := by
  rw [afterComplete, hq]
  exact if_pos h

theorem afterComplete_proceeds {f : Surface} {a : Nat} {s : State} {g : Segment} {rest : List Segment}
    (hq : s.wgc.queue = g :: rest) (h : ¬ continues f a s = true) :
    afterComplete f a s = newHead (shutGate none s) := by
  rw [afterComplete, hq]
  exact if_neg h

section
variable {s : State} {g : Segment} {rest : List Segment} (hq : s.wgc.queue = g :: rest)
include hq

theorem continueHead_refused (alone : rest = []) (h : s.runProtected g.surface g.start g.last = true) :
    continueHead g s = post .wgc (.segmentRefused g.tag)
      ((offGate s).setWgc { (offGate s).wgc with queue := [] }) := by
  subst alone
  have left : dropHead (offGate s) = (offGate s).setWgc { (offGate s).wgc with queue := [] } := by
    show (offGate s).setWgc { (offGate s).wgc with queue := s.wgc.queue.tail } = _
    rw [hq]
    rfl
  rw [continueHead, if_pos h, shutGate_none, left]
  exact newHead_nil _ rfl

variable (bare : s.runProtected g.surface g.start g.last = false)
include bare

theorem continueHead_inhibited (h : s.pu.sense = .asserted) :
    continueHead g s = post .wgc (.segmentSuspended g.tag g.next g.remaining .inhibit)
      ((offGate s).heads { g with state := .suspended, reason := some .inhibit } rest) := by
  rw [continueHead, if_neg (by simp [bare]), if_pos h]
  exact suspendHead_heads .inhibit (offGate s) g rest hq

variable (released : s.pu.sense = .released)
include released

theorem continueHead_halts (why : SegReason)
    (cause : (why = .underrun ∧ s.lines.encoderReady = false) ∨
      (why = .noCalibration ∧ s.lines.encoderReady = true ∧ s.power g.surface g.start = none)) :
    continueHead g s = post .wgc (.segmentHalted g.tag why g.done none) (headHalted why none g rest s) := by
  rw [← haltHead_shut why none s g rest hq, continueHead, if_neg (by simp [bare]), if_neg (released_ne released)]
  rcases cause with ⟨rfl, low⟩ | ⟨rfl, ready, none⟩
  · exact if_pos low
  · rw [if_neg (by simp [ready]), none]

theorem continueHead_goesOn (ready : s.lines.encoderReady = true) (p : Power) (hp : s.power g.surface g.start = some p) :
    continueHead g s = handPowers (p.writeSet s.wgc.correction) (s.heads { g with state := .writing } rest) := by
  rw [continueHead, if_neg (by simp [bare]), if_neg (released_ne released), if_neg (by simp [ready]), hp]
  simp only [Wgc.mapHead, hq]
  rfl

end

theorem runProtected_congr {s t : State} (hp : t.pu = s.pu) (hc : t.ct = s.ct) (f : Surface) (a b : Nat) :
    t.runProtected f a b = s.runProtected f a b := by
  rw [State.runProtected, State.runProtected, State.protRange, State.protRange, hp, hc]

/-- The state in which the head behind a complete segment is judged. -/
structure HeadBehind (s v c : State) (h : Segment) (rest : List Segment) : Prop where
  wgc : c.wgc = { v.wgc with returns := { sum := 0, count := 0 }, queue := h :: rest }
  mc : c.mc = s.mc
  ldu : c.ldu = s.ldu
  ct : c.ct = s.ct
  wsg : c.wsg = s.wsg
  pu : c.pu = s.pu
  lines : c.lines = s.lines
  mark : c.wgc.exitMark = s.wgc.exitMark

namespace HeadBehind
variable {s v c : State} {h : Segment} {rest : List Segment}

theorem queue (b : HeadBehind s v c h rest) : c.wgc.queue = h :: rest := by
  rw [b.wgc]

theorem power (b : HeadBehind s v c h rest) (f : Surface) (a : Nat) : c.power f a = s.power f a := by
  rw [State.power, b.ct, b.wsg]
  rfl

theorem refused (b : HeadBehind s v c h rest) (alone : rest = [])
    (held : s.runProtected h.surface h.start h.last = true) :
    (finish (continueHead h c)).wgc =
      { v.wgc with gate := .idle, user := none, returns := { sum := 0, count := 0 }, queue := [] } := by
  rw [← runProtected_congr b.pu b.ct] at held
  rw [continueHead_refused b.queue alone held]
  exact congrArg (fun x : Wgc => { x with gate := .idle, user := none, queue := [] }) b.wgc

variable (bare : s.runProtected h.surface h.start h.last = false)
include bare

theorem inhibited (b : HeadBehind s v c h rest) (asserted : s.pu.sense = .asserted) :
    (finish (continueHead h c)).wgc = { v.wgc with
      gate := .idle, user := none, returns := { sum := 0, count := 0 }
      queue := { h with state := .suspended, reason := some .inhibit } :: rest } := by
  rw [← runProtected_congr b.pu b.ct] at bare
  rw [← b.pu] at asserted
  rw [continueHead_inhibited b.queue bare asserted]
  exact congrArg (fun x : Wgc => { x with
    gate := .idle, user := none, queue := { h with state := .suspended, reason := some .inhibit } :: rest }) b.wgc

variable (released : s.pu.sense = .released)
include released

theorem halts (b : HeadBehind s v c h rest) (why : SegReason)
    (cause : (why = .underrun ∧ s.lines.encoderReady = false) ∨
      (why = .noCalibration ∧ s.lines.encoderReady = true ∧ s.power h.surface h.start = none)) :
    (finish (continueHead h c)).wgc = { v.wgc with
      gate := .idle, user := none, arm := false, returns := { sum := 0, count := 0 }
      queue := { h with state := .halted, reason := some why, damaged := none } :: rest } := by
  rw [← runProtected_congr b.pu b.ct] at bare
  rw [← b.pu] at released
  rw [← b.lines, ← b.power] at cause
  rw [continueHead_halts b.queue bare released why cause]
  exact congrArg (fun x : Wgc => { x with
    gate := .idle, user := none, arm := false
    queue := { h with state := .halted, reason := some why, damaged := none } :: rest }) b.wgc

theorem goesOn (b : HeadBehind s v c h rest) (ready : s.lines.encoderReady = true) (p : Power)
    (hp : s.power h.surface h.start = some p) :
    (finish (continueHead h c)).wgc = { v.wgc with
        returns := { sum := 0, count := 0 }, queue := { h with state := .writing } :: rest } ∧
      (∀ e : Nat, e = min 80000 (divRoundNat (p.peak * v.wgc.correction) 1000) →
        (finish (continueHead h c)).ldu.writeSet = some { peak := e, bias := divRoundNat (e * p.bias) 1000
                                                          cool := divRoundNat (e * p.cool) 1000 }) ∧
      (finish (continueHead h c)).ldu.driven = s.ldu.driven ∧ (finish (continueHead h c)).wsg = s.wsg := by
  have correction : c.wgc.correction = v.wgc.correction := by rw [b.wgc]
  rw [← runProtected_congr b.pu b.ct] at bare
  rw [← b.pu] at released
  rw [← b.lines] at ready
  rw [← b.power] at hp
  rw [continueHead_goesOn b.queue bare released ready p hp, correction]
  obtain ⟨wgc, powers, -, wsg, driven⟩ :=
    handPowers_spec p v.wgc.correction (c.heads { h with state := .writing } rest)
  exact ⟨wgc.trans (congrArg (fun x : Wgc => { x with queue := { h with state := .writing } :: rest }) b.wgc), powers,
    driven.trans (congrArg Ldu.driven b.ldu), wsg.trans b.wsg⟩

end HeadBehind

/-- R136, R142: a head that does not continue takes the gate anew. -/
theorem HeadBehind.waits {s v c : State} {h : Segment} {rest : List Segment} (b : HeadBehind s v c h rest)
    (hs : h.state = .queued) (may : s.mc.mode.mayWrite = true) (unmarked : s.wgc.exitMark = false)
    (bare : s.runProtected h.surface h.next h.last = false) :
    (finish (newHead (shutGate none c))).wgc = { v.wgc with
        gate := .waiting, user := some .segment, wait := 0, returns := { sum := 0, count := 0 }
        queue := { h with state := .waiting } :: rest } ∧
      (finish (newHead (shutGate none c))).ldu = { s.ldu with driven := .read } ∧
      (finish (newHead (shutGate none c))).wsg = s.wsg.stop := by
  rw [← runProtected_congr b.pu b.ct] at bare
  rw [← b.mc] at may
  have stopped : c.wsg.stop = s.wsg.stop := congrArg Wsg.stop b.wsg
  rw [newHead_waits (shutGate none c) h rest b.queue hs (b.mark.trans unmarked) rfl may bare]
  exact ⟨congrArg (fun x : Wgc => { x with
      gate := .waiting, user := some .segment, wait := 0, queue := { h with state := .waiting } :: rest }) b.wgc,
    congrArg (fun x : Ldu => { x with driven := .read }) b.ldu, stopped⟩

theorem BlockEnded.behind {s v w : State} {g g' h : Segment} {rest : List Segment} (e : BlockEnded s v w g g' (h :: rest))
    (n : Notice) : HeadBehind s v (post .wgc n (w.setWgc { w.wgc with queue := h :: rest })) h rest where
  wgc := congrArg (fun x : Wgc => { x with queue := h :: rest }) e.wgc
  mc := e.mc
  ldu := e.ldu
  ct := e.ct
  wsg := e.wsg
  pu := e.pu
  lines := e.lines
  mark := e.mark

/-- Settles O49: the head behind is judged in the state in which the block has ended and the complete head has left. -/
theorem appendContinuesThroughTheOpenGate : Obligations.AppendContinuesThroughTheOpenGate := by
  intro s v g g' h rest valid hm hr unmarked ht hq hs whole queued hp hv hh
  have e := blockEnded_of valid hq hv hh
  have taken : deliverBoundary s.pt.surface s.pt.predicted (boundaryKind valid) (passed valid s) =
      afterBlock s.pt.surface s.pt.predicted (blockEnded (passed valid s)) := by
    rw [deliverBoundary_noTrial _ _ _ (passed valid s) ht]
    exact wgcBoundary_ends _ _ _ (passed valid s) g (h :: rest) hq hs
  have kept := boundary_keeps s valid s.pt.surface s.pt.predicted (boundaryKind valid)
  have stepped := exec_boundary_quiet s valid hm hr hp
  rw [taken] at kept stepped
  generalize blockEnded (passed valid s) = w at *
  obtain ⟨ct, tcu, -⟩ := e.keeps s.pt.surface s.pt.predicted
  have may : s.mc.mode.mayWrite = true := by rw [hm]; rfl
  have completes : g'.done = g'.count := by
    obtain ⟨-, -, count, done, -⟩ := e.counted
    omega
  refine ⟨_, stepped, kept, ct, tcu, fun room => e.announces _ _ whole (room_mono room (by decide)), ?_⟩
  have b := e.behind (.segmentDone g'.tag g'.done g'.last w.wgc.correction g'.largest)
  rw [afterBlock_completes e.queue completes]
  generalize post .wgc _ _ = c at *
  have judged := continues_iff s.pt.surface s.pt.predicted c h rest b.queue (b.mc ▸ may) (b.mark.trans unmarked)
  refine ⟨fun link surface start => ?_, fun other bare => ?_⟩
  · rw [afterComplete_continues b.queue (judged.2 ⟨link, surface, start⟩)]
    exact ⟨fun held alone => b.refused alone held, fun bare => ⟨fun asserted => b.inhibited bare asserted,
      fun released low => b.halts bare released .underrun (.inl ⟨rfl, low⟩),
      fun released ready none => b.halts bare released .noCalibration (.inr ⟨rfl, ready, none⟩),
      fun p released ready hp => b.goesOn bare released ready p hp⟩⟩
  · rw [afterComplete_proceeds b.queue fun on => ?_]
    · exact b.waits queued may unmarked bare
    · obtain ⟨link, surface, start⟩ := judged.1 on
      rcases other with fresh | elsewhere | otherStart
      · rw [fresh] at link
        cases link
      · exact elsewhere surface
      · exact otherStart start

end Sys2Proof.Machine
end

section
/-! SUPPORT. A value out of window, and a lost position, as WGC and TCU take them (R28, R109, R145), and obligation O14. -/

namespace Sys2Proof.Machine

/-! ### TERR and VLD out of window -/

/-- R172: a judgement announces one event at most. -/
theorem Eu.judged_adds (u : Eu) (c : Channel) (j : Judgement) : Eu.Adds 1 u (u.judged c j) := by
  unfold Eu.judged
  dsimp only
  generalize (if j.out = true then WindowSense.outside else WindowSense.inside) = now
  split
  · exact Eu.trigger_adds { u with senses := u.senses.put c.index now } c.event
  · exact ⟨rfl, [], by simp⟩

theorem sampled_adds (c : Channel) (raw : Nat) (s : State) : Eu.Adds 1 s.eu (sampled c raw s).eu :=
  s.eu.judged_adds c _

/-- R109, R145: a TERR value out of window reaches WGC and TCU. -/
theorem exec_terr_out (s : State) (raw : RawCount) (h : s.mon.inFlight = some .terr)
    (out : s.mon.outOfWindow .terr (s.mon.correctedValue .terr raw)) (hr : s.mc.request = none) :
    exec (.conversionComplete raw) s =
      .next (finish (tcuTracking (haltAtOnce .tracking (sampled .terr raw.toNat s)))) := by
  rw [exec_completion s raw .terr h, deliver, if_pos ((outOfWindow_iff _ _ _).2 out), conclude_none]
  simpa [sampled] using hr

theorem exec_vld_out (s : State) (raw : RawCount) (h : s.mon.inFlight = some .vld)
    (out : s.mon.outOfWindow .vld (s.mon.correctedValue .vld raw)) (hr : s.mc.request = none) :
    exec (.conversionComplete raw) s =
      .next (finish (tcuSupply (haltAtOnce .supply (sampled .vld raw.toNat s)))) := by
  rw [exec_completion s raw .vld h, deliver, if_pos ((outOfWindow_iff _ _ _).2 out), conclude_none]
  simpa [sampled] using hr

theorem tcuTracking_none (s : State) (h : s.tcu.trial = none) : tcuTracking s = s := by
  rw [tcuTracking, h]

theorem tcuSupply_none (s : State) (h : s.tcu.trial = none) : tcuSupply s = s := by
  rw [tcuSupply, h]

/-- R145: without a trial the value halts the head that writes. -/
theorem exec_out_halts (s : State) (raw : RawCount) (c : Channel) (why : SegReason)
    (hc : (c = .terr ∧ why = .tracking) ∨ (c = .vld ∧ why = .supply)) (h : s.mon.inFlight = some c)
    (out : s.mon.outOfWindow c (s.mon.correctedValue c raw)) (hr : s.mc.request = none) (ht : s.tcu.trial = none) :
    exec (.conversionComplete raw) s = .next (finish (haltAtOnce why (sampled c raw.toNat s))) := by
  have kept (x : SegReason) (d : Channel) : (haltAtOnce x (sampled d raw.toNat s)).tcu.trial = none := by
    rw [(haltAtOnce_frame x _).2.2.2.2.1]
    exact ht
  rcases hc with ⟨rfl, rfl⟩ | ⟨rfl, rfl⟩
  · rw [exec_terr_out s raw h out hr, tcuTracking_none _ (kept _ _)]
  · rw [exec_vld_out s raw h out hr, tcuSupply_none _ (kept _ _)]

theorem out_halts_the_segment (s : State) (raw : RawCount) (c : Channel) (why : SegReason) (g : Segment)
    (rest : List Segment) (hc : (c = .terr ∧ why = .tracking) ∨ (c = .vld ∧ why = .supply))
    (h : s.mon.inFlight = some c) (out : s.mon.outOfWindow c (s.mon.correctedValue c raw)) (hr : s.mc.request = none)
    (ht : s.tcu.trial = none) (hq : s.wgc.queue = g :: rest) (hs : g.state = .writing ∨ g.state = .suspending) :
    ∃ t, exec (.conversionComplete raw) s = .next t ∧
      t.wgc = { s.wgc with
        gate := .idle, user := none, arm := false, returns := { sum := 0, count := 0 }
        queue := { g with state := .halted, reason := some why, damaged := some g.next } :: rest } ∧
      t.ldu = { s.ldu with driven := .read } ∧ t.wsg = s.wsg.stop ∧ t.mc = s.mc ∧ t.ct = s.ct ∧ t.tcu = s.tcu ∧
      t.pt = s.pt ∧
      (s.room 2 → Notice.segmentHalted g.tag why g.done (some g.next) ∈ t.eu.notices) := by
  refine ⟨_, exec_out_halts s raw c why hc h out hr ht, ?_⟩
  rw [haltAtOnce_writes why (sampled c raw.toNat s) g rest hq hs]
  refine ⟨rfl, rfl, rfl, rfl, rfl, rfl, rfl, fun room => ?_⟩
  have told := (sampled_adds c raw.toNat s).tells.trans
    (Eu.post_tells (sampled c raw.toNat s).eu .wgc (.segmentHalted g.tag why g.done (some g.next)))
  exact told.joins (t := post .wgc _ (clearReturns (headHalted why (some g.next) g rest (sampled c raw.toNat s)))) room rfl
    _ (List.mem_singleton_self _)

/-! ### The lost position -/

/-- R25, R26, R28: a record that takes the position: the tracker is no longer LOCKED, the event is triggered in its own
handling, and the report follows. -/
theorem takeArrival_loses (s : State) (v : Bool) (f : Surface) (a : Nat) (h : s.losesPosition v f a) :
    ∃ e r p, p.state ≠ .locked ∧
      ((e = .positionJump ∧ s.ct.arrival v f a = some (f, a)) ∨ (e = .positionLost ∧ s.ct.arrival v f a = none)) ∧
      takeArrival (s.ct.arrival v f a) s = deliverReport r (trigger e (s.setPt p)) := by
  obtain ⟨locked, ⟨rfl, fits, present, other⟩ | ⟨invalid, late⟩⟩ := h
  · have arrival := arrival_valid s.ct f a fits present
    refine ⟨.positionJump, s.pt.report (some (f, a)),
      { s.pt with state := .acquiring, candSurface := f, candAddress := a, coast := 0 }, by simp,
      .inl ⟨rfl, arrival⟩, ?_⟩
    rw [arrival, (takeArrival_valid s f a).2.2.2.2 locked other]
    rfl
  · have arrival := arrival_invalid s.ct v f a invalid
    refine ⟨.positionLost, s.pt.report none, { s.pt with state := .lost, coast := 0 }, by simp, .inr ⟨rfl, arrival⟩, ?_⟩
    rw [arrival, (takeArrival_invalid s).2.2.2 locked late]
    rfl

/-- R28: the blocks that take a report wait with their notices for the tracker's own. -/
def positionPosters : List Poster := [.event .positionLost, .event .positionJump]

theorem deliverReport_noTrial (r : PositionReport) (s : State) (h : s.tcu.trial = none) :
    deliverReport r s = following positionPosters (wgcPositionLost r) s := by
  have same : bothTake (wgcPositionLost r) (tcuPositionLost r) s = wgcPositionLost r s := by
    have none : (wgcPositionLost r s).tcu.trial = none := by rw [(wgcPositionLost_frame r s).2.2.2.2.1, h]
    rw [bothTake, if_neg (by simp [gateRace_false s (.inl h)])]
    exact endTrial_none _ _ _ none
  rw [following_eq, ← same]
  rfl

theorem wgcPositionLost_writes (r : PositionReport) (s : State) (g : Segment) (rest : List Segment)
    (hq : s.wgc.queue = g :: rest) (hs : g.state = .writing ∨ g.state = .suspending) :
    wgcPositionLost r s = post .wgc (.segmentHalted g.tag .position g.done (some g.next))
      (clearReturns (headHalted .position (some g.next) g rest s)) := by
  rw [← haltAtOnce_writes .position s g rest hq hs, wgcPositionLost, hq]
  exact if_neg (by rcases hs with hs | hs <;> simp [hs])

theorem wgcPositionLost_waits (r : PositionReport) (s : State) (g : Segment) (rest : List Segment)
    (hq : s.wgc.queue = g :: rest) (hs : g.state = .waiting) :
    wgcPositionLost r s = post .wgc (.segmentHalted g.tag .position g.done none) (headHalted .position none g rest s) := by
  rw [← haltHead_shut .position none s g rest hq, wgcPositionLost, hq]
  exact if_pos hs

theorem wgcPositionLost_off (r : PositionReport) (s : State) (g : Segment) (rest : List Segment)
    (hq : s.wgc.queue = g :: rest) (hs : g.state = .queued ∨ g.state = .suspended ∨ g.state = .halted) :
    wgcPositionLost r s = s := by
  have stands : g.state.writes = false := by rcases hs with hs | hs | hs <;> rw [hs] <;> rfl
  rw [wgcPositionLost, hq]
  exact (if_neg (by rcases hs with hs | hs | hs <;> simp [hs])).trans (haltAtOnce_off .position s g rest hq stands)

/-- R173: what a trigger of an event without a sense generates. -/
def raisedBy (u : Eu) (e : Event) : List Notice :=
  if u.latches.get e = false ∧ u.unmasked.get e = true then [.eventRaised e none] else []

theorem trigger_outbox (u : Eu) (e : Event) (plain : ∀ x : Eu, x.senseOf e = none) :
    (u.trigger e).outbox = u.outbox ++ (raisedBy u e).map (fun n => ⟨.event e, [], n⟩) := by
  cases set : u.latches.get e with
  | true => simp [Eu.trigger_set u e set, raisedBy, set]
  | false =>
    cases unmasked : u.unmasked.get e with
    | false => simp [Eu.trigger_masked u e set unmasked, raisedBy, unmasked]
    | true => simp [Eu.trigger_unmasked u e set unmasked, raisedBy, set, unmasked, Eu.post, plain]

/-- R28, R177: the tracker's own notice, and behind it WGC's. -/
theorem finish_reported {s x : State} {e : Event} {n : Notice} (he : e = .positionLost ∨ e = .positionJump)
    (hx : x.eu = ((s.eu.trigger e).post .wgc n).hold (s.eu.trigger e).outbox.length positionPosters)
    (hm : x.mc = s.mc) (room : s.room 2) :
    (finish x).eu.notices = s.eu.notices ++ raisedBy s.eu e ++ [n] := by
  obtain ⟨settled, free⟩ := room
  have empty : s.eu.outbox = [] := settled
  have plain (u : Eu) : u.senseOf e = none := by rcases he with rfl | rfl <;> rfl
  have raised := trigger_outbox s.eu e plain
  rw [empty, List.nil_append] at raised
  have outbox : x.eu.outbox =
      (raisedBy s.eu e).map (fun n => ⟨.event e, [], n⟩) ++ [⟨.wgc, positionPosters, n⟩] := by
    rw [hx]
    simp [Eu.hold, Eu.post, raised]
  have notices : x.eu.notices = s.eu.notices := by
    rw [hx]
    exact (Eu.trigger_frame s.eu e).2.2.2.1
  have few : (raisedBy s.eu e).length ≤ 1 := by
    unfold raisedBy
    split <;> simp
  have waits : .event e ∈ positionPosters := by rcases he with rfl | rfl <;> decide
  rw [finish_chain_room x]
  · show x.eu.notices ++ x.eu.outbox.map Posted.notice = _
    rw [notices, outbox]
    simp [Function.comp_def]
  · rw [outbox, List.pairwise_append]
    refine ⟨?_, List.pairwise_singleton _ _, fun y hy z hz => ?_⟩
    · unfold raisedBy
      split <;> simp
    · obtain ⟨m, -, rfl⟩ := List.mem_map.1 hy
      obtain rfl := List.mem_singleton.1 hz
      exact Posted.waitsFor_of (.inr waits)
  · rw [notices, outbox, hm]
    simp only [List.length_append, List.length_map, List.length_singleton]
    omega

/-- Settles O14. -/
theorem trackingSupplyOrPositionHaltsTheSegment : Obligations.TrackingSupplyOrPositionHaltsTheSegment := by
  refine ⟨out_halts_the_segment, fun s v f a g rest e told hl he htold hm hr ht hq => ?_, fun s v f a => ⟨?_, ?_⟩⟩
  · obtain ⟨d, r, p, unlocked, hd, taken⟩ := takeArrival_loses s v f a hl
    obtain rfl : d = e := by
      rcases hd with ⟨rfl, some⟩ | ⟨rfl, none⟩ <;> rcases he with ⟨rfl, some'⟩ | ⟨rfl, none'⟩
      · rfl
      · rw [some] at none'
        cases none'
      · rw [none] at some'
        cases some'
      · rfl
    have lost : d = .positionLost ∨ d = .positionJump := by
      rcases hd with ⟨rfl, -⟩ | ⟨rfl, -⟩
      · exact .inr rfl
      · exact .inl rfl
    have latched := deliverReport_latched r d (s.setPt p)
    have reported := deliverReport_noTrial r (trigger d (s.setPt p)) ht
    have frame := takeArrival_frame (s.ct.arrival v f a) s
    have stepped := exec_record s v f a (.inr hm)
    rw [conclude_arrival _ _ hr] at stepped
    rw [taken] at stepped frame
    obtain ⟨mc, mon, pu, cl, cs, lines, -⟩ := frame
    have pt : (deliverReport r (trigger d (s.setPt p))).pt = p := (deliverReport_frame r _).2.1
    have blocks : (deliverReport r (trigger d (s.setPt p))).ct = s.ct ∧
        (deliverReport r (trigger d (s.setPt p))).tcu = s.tcu := by
      rw [reported]
      exact ⟨(wgcPositionLost_frame r _).2.2.2.1, (wgcPositionLost_frame r _).2.2.2.2.1⟩
    refine ⟨_, stepped, mc, blocks.1, blocks.2, mon, pu, cl, cs, lines, ?_, finish_latched _ _ latched, ?_⟩
    · rw [(finish_frame _).2.1, pt]
      exact unlocked
    subst htold
    rw [reported]
    refine ⟨fun hs => ?_, fun hs => ?_, fun hs => ?_⟩
    · have halted := wgcPositionLost_writes r (trigger d (s.setPt p)) g rest hq hs
      rw [following_eq, halted]
      exact ⟨rfl, rfl, rfl, finish_reported lost rfl rfl⟩
    · have halted := wgcPositionLost_waits r (trigger d (s.setPt p)) g rest hq hs
      rw [following_eq, halted]
      exact ⟨rfl, rfl, rfl, finish_reported lost rfl rfl⟩
    · rw [following_self _ _ _ (wgcPositionLost_off r (trigger d (s.setPt p)) g rest hq hs)]
      exact ⟨rfl, rfl, rfl⟩
  · rintro rfl fits present
    have arrival := arrival_valid s.ct f a fits present
    exact ⟨arrival, by rw [arrival]; rfl⟩
  · intro invalid
    have arrival := arrival_invalid s.ct v f a invalid
    exact ⟨arrival, by rw [arrival]; rfl⟩

end Sys2Proof.Machine
end

section
/-! SUPPORT. A change of mode, block by block (R12, R29, R72, R109, R155). -/

namespace Sys2Proof.Machine

/-! ### A head that a change of mode halts -/

theorem haltForMode_nil (why : SegReason) (s : State) (h : s.wgc.queue = []) : haltForMode why s = s := by
  rw [haltForMode, h]

theorem haltForMode_waits (why : SegReason) (s : State) (g : Segment) (rest : List Segment)
    (hq : s.wgc.queue = g :: rest) (hs : g.state = .waiting) :
    haltForMode why s = post .wgc (.segmentHalted g.tag why g.done none) (headHalted why none g rest s) := by
  rw [← haltHead_shut why none s g rest hq, haltForMode, hq]
  exact if_pos hs

theorem haltForMode_writes (why : SegReason) (s : State) (g : Segment) (rest : List Segment)
    (hq : s.wgc.queue = g :: rest) (hs : g.state = .writing ∨ g.state = .suspending) :
    haltForMode why s = post .wgc (.segmentHalted g.tag why g.done (some g.next))
      (clearReturns (headHalted why (some g.next) g rest s)) := by
  rw [← haltAtOnce_writes why s g rest hq hs, haltForMode, hq]
  exact if_neg (by rcases hs with hs | hs <;> simp [hs])

theorem haltForMode_off (why : SegReason) (s : State) (g : Segment) (rest : List Segment)
    (hq : s.wgc.queue = g :: rest) (hs : g.state = .queued ∨ g.state = .suspended ∨ g.state = .halted) :
    haltForMode why s = s := by
  have stands : g.state.writes = false := by rcases hs with hs | hs | hs <;> rw [hs] <;> rfl
  rw [haltForMode, hq]
  exact (if_neg (by rcases hs with hs | hs | hs <;> simp [hs])).trans (haltAtOnce_off why s g rest hq stands)

/-- A head waits, writes, or is off the gate. -/
theorem Segment.state_cases (g : Segment) :
    g.state = .waiting ∨ (g.state = .writing ∨ g.state = .suspending) ∨
      (g.state = .queued ∨ g.state = .suspended ∨ g.state = .halted) := by
  cases g.state <;> simp

/-- R155: the notice of a head that a change of mode halts. -/
def haltTold (why : SegReason) (q : List Segment) : List Notice :=
  match q with
  | [] => []
  | g :: _ =>
    if g.state = .waiting then [.segmentHalted g.tag why g.done none]
    else if g.state.writes then [.segmentHalted g.tag why g.done (some g.next)]
    else []

theorem haltForMode_tells (why : SegReason) (s : State) :
    Eu.Tells 1 (haltTold why s.wgc.queue) s.eu (haltForMode why s).eu := by
  cases hq : s.wgc.queue with
  | nil =>
    rw [haltForMode_nil why s hq]
    exact (Eu.Tells.nothing s.eu).weaken (by decide) (by simp [haltTold])
  | cons g rest =>
    rcases g.state_cases with hs | hs | hs
    · rw [haltForMode_waits why s g rest hq hs, haltTold, if_pos hs]
      exact Eu.post_tells _ _ _
    · have told : haltTold why (g :: rest) = [.segmentHalted g.tag why g.done (some g.next)] := by
        rcases hs with hs | hs <;> simp [haltTold, hs, SegState.writes]
      rw [haltForMode_writes why s g rest hq hs, told]
      exact Eu.post_tells _ _ _
    · have told : haltTold why (g :: rest) = [] := by
        rcases hs with hs | hs | hs <;> simp [haltTold, hs, SegState.writes]
      rw [haltForMode_off why s g rest hq hs, told]
      exact (Eu.Tells.nothing s.eu).weaken (by decide) (List.Subset.refl _)

/-- R132, R155: the latch stays clear while a head halts. -/
theorem haltForMode_disarmed (why : SegReason) (s : State) (h : s.wgc.arm = false) :
    (haltForMode why s).wgc.arm = false := by
  cases hq : s.wgc.queue with
  | nil => rwa [haltForMode_nil why s hq]
  | cons g rest =>
    rcases g.state_cases with hs | hs | hs
    · rw [haltForMode_waits why s g rest hq hs]
      rfl
    · rw [haltForMode_writes why s g rest hq hs]
      rfl
    · rwa [haltForMode_off why s g rest hq hs]

theorem clearMarks_dark (s : State) (h : s.mc.mode.mayWrite = false) :
    clearMarks s = s.setWgc { s.wgc with arm := false, exitMark := false } := by
  rw [clearMarks, h, Bool.and_false]

/-! ### The end of a trial in a mode without writing -/

/-- R136: in a mode without writing the release lets no head proceed, unless an exit is pending. -/
theorem endTrial_dark (o : TrialOutcome) (r : Option TrialReason) (p : Option Nat) (t : Trial) (s : State)
    (ht : s.tcu.trial = some t) (dark : s.mc.mode.mayWrite = false)
    (unmarked : ∀ g ∈ s.wgc.queue.head?, g.state = .queued → s.wgc.exitMark = false) :
    endTrial o r p s = trialEnded o r p t s := by
  have wgc := settleRecord_wgc t p s
  have mode : (settleRecord t p s).mc = s.mc := by rw [settleRecord_eq]; rfl
  refine endTrial_quiet o r p t s ht ?_
  cases h : s.wgc.queue with
  | nil => exact newHead_nil _ ((congrArg Wgc.queue wgc).trans h)
  | cons g rest =>
    have queue : (settleRecord t p s).wgc.queue = g :: rest := (congrArg Wgc.queue wgc).trans h
    by_cases hs : g.state = .queued
    · exact newHead_held _ g rest queue ((congrArg Wgc.exitMark wgc).trans (unmarked g (by simp [h]) hs))
        (.inr ((congrArg (fun m : Mc => m.mode.mayWrite) mode).trans dark))
    · exact newHead_off _ g rest queue hs

theorem newHead_dark_tells (s : State) (dark : s.mc.mode.mayWrite = false) : Eu.Tells 1 [] s.eu (newHead s).eu := by
  rcases newHead_unwritten s dark with same | ⟨g, rest, hq, -, suspended⟩
  · rw [same]
    exact (Eu.Tells.nothing s.eu).weaken (by decide) (List.Subset.refl _)
  · rw [suspended, suspendHead_heads .mode s g rest hq]
    exact (Eu.post_tells s.eu .wgc _).weaken le_rfl (by simp)

/-- R154: a head that the release suspends was off the gate, and is. -/
theorem newHead_dark_haltTold (why : SegReason) (s : State) (dark : s.mc.mode.mayWrite = false) :
    haltTold why (newHead s).wgc.queue = haltTold why s.wgc.queue := by
  rcases newHead_unwritten s dark with same | ⟨g, rest, hq, hs, suspended⟩
  · rw [same]
  · rw [suspended, suspendHead_heads .mode s g rest hq, hq]
    simp [haltTold, post_eq, State.heads, hs, SegState.writes]

/-- R107, R177: the end of a trial tells CAL_DONE, and at most one notice of the head. -/
theorem endTrial_dark_tells (o : TrialOutcome) (r : Option TrialReason) (p : Option Nat) (t : Trial) (s : State)
    (ht : s.tcu.trial = some t) (dark : s.mc.mode.mayWrite = false) :
    Eu.Tells 2 [.calDone (s.calDone t o r p)] s.eu (endTrial o r p s).eu := by
  have mode : (settleRecord t p s).mc = s.mc := by rw [settleRecord_eq]; rfl
  have eu : (settleRecord t p s).eu = s.eu := by rw [settleRecord_eq]; rfl
  have told : Eu.Tells 1 [.calDone (s.calDone t o r p)] s.eu
      (post .tcu (.calDone (s.calDone t o r p)) (offGate (settleRecord t p s))).eu :=
    eu ▸ Eu.post_tells (settleRecord t p s).eu .tcu _
  have proceeds := newHead_dark_tells (post .tcu (.calDone (s.calDone t o r p)) (offGate (settleRecord t p s)))
    ((congrArg (fun m : Mc => m.mode.mayWrite) mode).trans dark)
  rw [endTrial_releases o r p t s ht]
  exact told.trans (following_tells [.tcu] newHead _ proceeds)

/-- R109: TCU's reaction where the mode is without writing: WGC keeps all but the gate and its user. -/
theorem abortTrial_dark_wgc (why : TrialReason) (s : State) (dark : s.mc.mode.mayWrite = false)
    (unmarked : s.tcu.trial = none ∨ ∀ g ∈ s.wgc.queue.head?, g.state = .queued → s.wgc.exitMark = false) :
    (abortTrial why s).wgc = s.wgc ∨ (abortTrial why s).wgc = { s.wgc with gate := .idle, user := none } := by
  cases ht : s.tcu.trial with
  | none => exact .inl (congrArg State.wgc (endTrial_none _ _ _ ht))
  | some t =>
    refine .inr ?_
    rw [abortTrial, endTrial_dark _ _ _ t s ht dark (unmarked.resolve_left (by simp [ht]))]
    exact (trialEnded_parts _ _ _ t s).2.2.2.2.2.2.1

theorem abortTrial_idle (why : TrialReason) (s : State) : (abortTrial why s).tcu.trial = none := by
  cases ht : s.tcu.trial with
  | none => exact (congrArg (fun s : State => s.tcu.trial) (endTrial_none _ _ _ ht)).trans ht
  | some t =>
    rw [abortTrial, endTrial_releases _ _ _ t s ht]
    rfl

theorem abortTrial_dark_haltTold (x : SegReason) (why : TrialReason) (s : State) (dark : s.mc.mode.mayWrite = false) :
    haltTold x (abortTrial why s).wgc.queue = haltTold x s.wgc.queue := by
  cases ht : s.tcu.trial with
  | none => rw [abortTrial, endTrial_none _ _ _ ht]
  | some t =>
    rw [abortTrial, endTrial_releases _ _ _ t s ht]
    exact newHead_dark_haltTold x (post .tcu _ (offGate (settleRecord t none s))) dark

theorem abortTrial_dark_tells (why : TrialReason) (s : State) (dark : s.mc.mode.mayWrite = false) :
    Eu.Tells 2 [] s.eu (abortTrial why s).eu := by
  cases ht : s.tcu.trial with
  | none =>
    rw [abortTrial, endTrial_none _ _ _ ht]
    exact (Eu.Tells.nothing s.eu).weaken (by decide) (List.Subset.refl _)
  | some t => exact (endTrial_dark_tells _ _ _ t s ht dark).weaken le_rfl (by simp)

/-! ### The blocks of a change of mode -/

/-- What WGC takes: MC and PT have changed, and TCU has reacted. -/
def modeEntered (m : Mode) (g : SelfTest) (s : State) : State := tcuModeReaction s.mc.mode m (enterMode m g s)

theorem changeMode_reacts (m : Mode) (g : SelfTest) (s : State) :
    changeMode m g s = lduModeReaction (wgcModeReaction (modeEntered m g s)) := rfl

theorem modeEntered_frame (m : Mode) (g : SelfTest) (s : State) :
    (modeEntered m g s).mc = { s.mc with mode := m, request := none } ∧
      (modeEntered m g s).pt = ptModeReaction m g s.pt := by
  obtain ⟨mc, pt, -⟩ := tcuModeReaction_frame s.mc.mode m (enterMode m g s)
  exact ⟨mc, pt⟩

theorem changeMode_pt (m : Mode) (g : SelfTest) (s : State) : (changeMode m g s).pt = ptModeReaction m g s.pt := by
  rw [changeMode_reacts, (lduModeReaction_frame _).2.1, (wgcModeReaction_frame _).2.1, (modeEntered_frame m g s).2]

theorem changeMode_wgc (m : Mode) (g : SelfTest) (s : State) :
    (changeMode m g s).wgc = (wgcModeReaction (modeEntered m g s)).wgc := by
  rw [changeMode_reacts]
  simp

theorem changeMode_tcu (m : Mode) (g : SelfTest) (s : State) : (changeMode m g s).tcu = (modeEntered m g s).tcu := by
  rw [changeMode_reacts]
  simp

theorem changeMode_ct (m : Mode) (g : SelfTest) (s : State) : (changeMode m g s).ct = (modeEntered m g s).ct := by
  rw [changeMode_reacts]
  simp

theorem changeMode_wsg (m : Mode) (g : SelfTest) (s : State) :
    (changeMode m g s).wsg = (wgcModeReaction (modeEntered m g s)).wsg := by
  rw [changeMode_reacts]
  simp

/-- R53, R72: in a mode without laser LDU holds no powers and drives READ, and every current is 0. -/
theorem changeMode_dark_ldu (m : Mode) (g : SelfTest) (s : State) (off : m.laserOff = true) :
    (changeMode m g s).ldu.driven = .read ∧ (changeMode m g s).ldu.writeSet = none ∧
      (∀ l ∈ [(changeMode m g s).ldu.levels.read, (changeMode m g s).ldu.levels.peak, (changeMode m g s).ldu.levels.bias,
        (changeMode m g s).ldu.levels.cool], l.current = 0 ∧ l.code = 0 ∧ l.limited = false) := by
  have mode : (wgcModeReaction (modeEntered m g s)).mc.mode.laserOff = true := by
    rw [(wgcModeReaction_frame _).1, (modeEntered_frame m g s).1]
    exact off
  rw [changeMode_reacts, lduModeReaction, if_pos mode]
  exact ⟨rfl, rfl, levelsNow_off _ (.inr mode)⟩

theorem lduModeReaction_dark_eu (s : State) (off : s.mc.mode.laserOff = true) : (lduModeReaction s).eu = s.eu := by
  rw [lduModeReaction, if_pos off]
  exact recompute_dark_eu _ off

/-- R177: MODE_CHANGED and what TCU and WGC tell of a change to a mode without laser. -/
theorem changeMode_dark_tells {i j : Nat} {xs ys : List Notice} (m : Mode) (g : SelfTest) (s : State)
    (off : m.laserOff = true) (tcu : Eu.Tells i xs (enterMode m g s).eu (modeEntered m g s).eu)
    (wgc : Eu.Tells j ys (modeEntered m g s).eu (wgcModeReaction (modeEntered m g s)).eu) :
    Eu.Tells (1 + i + j) (.modeChanged s.mc.mode m :: (xs ++ ys)) s.eu (changeMode m g s).eu := by
  have mode : (wgcModeReaction (modeEntered m g s)).mc.mode.laserOff = true := by
    rw [(wgcModeReaction_frame _).1, (modeEntered_frame m g s).1]
    exact off
  have entered : Eu.Tells 1 [.modeChanged s.mc.mode m] s.eu (enterMode m g s).eu := Eu.post_tells _ _ _
  rw [changeMode_reacts, lduModeReaction_dark_eu _ mode]
  exact ((entered.trans tcu).trans wgc).weaken le_rfl (by simp)

/-! ### The entry into FAULT -/

theorem modeEntered_fault (g : SelfTest) (s : State) :
    modeEntered .fault g s = abortTrial .fault (enterMode .fault g s) := by
  rw [modeEntered, tcuModeReaction, if_pos rfl]

theorem wgcModeReaction_fault (s : State) (h : s.mc.mode = .fault) :
    wgcModeReaction s =
      shutGate none (haltForMode .fault (s.setWgc { s.wgc with arm := false, exitMark := false })) := by
  rw [← clearMarks_dark s (by rw [h]; rfl), wgcModeReaction, h]

/-- R12, R155: what every entry into FAULT leaves. -/
theorem changeMode_fault_idle (g : SelfTest) (s : State) :
    (changeMode .fault g s).wgc.gate = .idle ∧ (changeMode .fault g s).wgc.user = none ∧
      (changeMode .fault g s).wgc.arm = false ∧ (changeMode .fault g s).wgc.exitMark = false ∧
      (changeMode .fault g s).tcu.trial = none := by
  have mode : (modeEntered .fault g s).mc.mode = .fault := by rw [(modeEntered_frame .fault g s).1]
  rw [changeMode_wgc, changeMode_tcu, wgcModeReaction_fault _ mode, modeEntered_fault]
  exact ⟨rfl, rfl, haltForMode_disarmed _ _ rfl, haltForMode_exitMark _ _, abortTrial_idle _ _⟩

/-- R109: TCU's part of an entry into FAULT leaves the queue of segments, where no exit is pending beside a QUEUED head. -/
theorem modeEntered_fault_wgc (g : SelfTest) (s : State)
    (unmarked : s.tcu.trial = none ∨ ∀ x ∈ s.wgc.queue.head?, x.state = .queued → s.wgc.exitMark = false) :
    (modeEntered .fault g s).wgc = s.wgc ∨ (modeEntered .fault g s).wgc = { s.wgc with gate := .idle, user := none } := by
  rw [modeEntered_fault]
  exact abortTrial_dark_wgc .fault (enterMode .fault g s) rfl unmarked

/-- R155: a head that an entry into FAULT does not halt, and an empty queue, stand. -/
theorem changeMode_fault_stands (g : SelfTest) (s : State)
    (unmarked : s.tcu.trial = none ∨ ∀ x ∈ s.wgc.queue.head?, x.state = .queued → s.wgc.exitMark = false)
    (off : ∀ x ∈ s.wgc.queue.head?, x.state = .queued ∨ x.state = .suspended ∨ x.state = .halted) :
    (changeMode .fault g s).wgc = { s.wgc with gate := .idle, user := none, arm := false, exitMark := false } := by
  have mode : (modeEntered .fault g s).mc.mode = .fault := by rw [(modeEntered_frame .fault g s).1]
  have entered := modeEntered_fault_wgc g s unmarked
  rw [changeMode_wgc, wgcModeReaction_fault _ mode]
  generalize modeEntered .fault g s = x at entered
  have queue : x.wgc.queue = s.wgc.queue := by rcases entered with same | same <;> rw [same]
  have stands : haltForMode .fault (x.setWgc { x.wgc with arm := false, exitMark := false }) =
      x.setWgc { x.wgc with arm := false, exitMark := false } := by
    cases hq : s.wgc.queue with
    | nil => exact haltForMode_nil _ _ (queue.trans hq)
    | cons g rest => exact haltForMode_off _ _ g rest (queue.trans hq) (off g (by simp [hq]))
  rw [stands]
  show { x.wgc with gate := .idle, user := none, arm := false, exitMark := false } = _
  rcases entered with same | same <;> rw [same]

/-- R155: a WAITING head is halted by an entry into FAULT. -/
theorem changeMode_fault_halts (g : SelfTest) (s : State) (x : Segment) (rest : List Segment)
    (hq : s.wgc.queue = x :: rest) (hs : x.state = .waiting) :
    (changeMode .fault g s).wgc = { s.wgc with
      gate := .idle, user := none, arm := false, exitMark := false
      queue := { x with state := .halted, reason := some .fault, damaged := none } :: rest } := by
  have mode : (modeEntered .fault g s).mc.mode = .fault := by rw [(modeEntered_frame .fault g s).1]
  have entered := modeEntered_fault_wgc g s (.inr (by simp [hq, hs]))
  rw [changeMode_wgc, wgcModeReaction_fault _ mode]
  generalize modeEntered .fault g s = y at entered
  have queue : y.wgc.queue = x :: rest := by rcases entered with same | same <;> rw [same, hq]
  rw [haltForMode_waits .fault (y.setWgc { y.wgc with
    arm := false
    exitMark := false }) x rest queue hs]
  show { y.wgc with
    gate := .idle, user := none, arm := false, exitMark := false
    queue := { x with state := .halted, reason := some .fault, damaged := none } :: rest } = _
  rcases entered with same | same <;> rw [same]

end Sys2Proof.Machine
end

section
/-! SUPPORT. The light of the front monitor above its window (R11, R12, R64, R69), and obligation O11. -/

namespace Sys2Proof.Machine

theorem faultCause_iff (j : Judgement) (s : State) :
    faultCause j s = true ↔ j = .high ∧ s.wgc.gate ≠ .opened ∧ s.mc.mode ≠ .fault := by
  simp [faultCause, and_assoc]

theorem mcFmon_faults (j : Judgement) (s : State) (h : faultCause j s = true) : mcFmon j s = enterFault s := if_pos h

/-- What LDU may have done before MC enters FAULT: an update of Ioff, announced with its limits. -/
structure TrimmedFor (s w : State) : Prop where
  mc : w.mc = s.mc
  wgc : w.wgc = s.wgc
  tcu : w.tcu = s.tcu
  ct : w.ct = s.ct
  told : Eu.Tells 2 [] s.eu w.eu

theorem TrimmedFor.free (s : State) (n : Nat) : TrimmedFor s (s.setFree n) :=
  ⟨rfl, rfl, rfl, rfl, (Eu.Tells.nothing s.eu).weaken (by decide) (List.Subset.refl _)⟩

theorem trimmed_adds (v : Nat) (r : CharRecord) (s : State) : Eu.Adds 1 s.eu (trimmed v r s).eu :=
  Eu.ite_trigger_adds _ _ _

theorem TrimmedFor.update (v : Nat) (s : State) : TrimmedFor s (apcUpdate v s) := by
  obtain ⟨mc, -, -, ct, tcu, -, wgc, -⟩ := apcUpdate_frame v s
  refine ⟨mc, wgc, tcu, ct, ?_⟩
  cases active : s.cs.characterization with
  | none =>
    rw [apcUpdate, active]
    exact (Eu.Tells.nothing s.eu).weaken (by decide) (List.Subset.refl _)
  | some r =>
    rw [apcUpdate_eq v r s active]
    exact (trimmed_adds v r s).tells.trans (recompute_adds _).tells

theorem following_nil (f : State → State) (s : State) : following [] f s = f s := by
  have same : (f s).eu.hold s.eu.outbox.length [] = (f s).eu := by
    simp [Eu.hold]
  rw [following_eq, same]
  rfl

/-- R69: whichever of LDU and MC takes the completion first, MC enters FAULT once LDU has trimmed or not. -/
theorem deliverFmon_faults (v : Nat) (j : Judgement) (s : State) (h : faultCause j s = true) :
    ∃ ps w, TrimmedFor s w ∧ deliver .fmon v j s = following ps enterFault w := by
  show ∃ ps w, TrimmedFor s w ∧ deliverFmon v j s = following ps enterFault w
  have drawn : faultCause j (s.setFree (s.free + 1)) = true := h
  unfold deliverFmon
  cases updates : apcUpdates s with
  | false =>
    refine ⟨[], s.setFree s.free, TrimmedFor.free s _, ?_⟩
    rw [following_nil, if_neg (by simp)]
    exact (congrArg (mcFmon j) (if_neg (by simp [updates]))).trans (mcFmon_faults j s h)
  | true =>
    rw [h, if_pos (show (true && true) = true from rfl)]
    dsimp only
    rw [draw_eq]
    have first : lduFmon v (s.setFree (s.free + 1)) = apcUpdate v (s.setFree (s.free + 1)) := if_pos updates
    split
    · obtain ⟨mc, wgc, tcu, ct, told⟩ := TrimmedFor.update v (s.setFree (s.free + 1))
      refine ⟨[.event .apcLimit, .event .currentLimit], apcUpdate v (s.setFree (s.free + 1)),
        ⟨mc, wgc, tcu, ct, told⟩, ?_⟩
      have still : faultCause j (apcUpdate v (s.setFree (s.free + 1))) = true := by
        rw [faultCause_iff] at drawn ⊢
        rwa [mc, wgc]
      rw [first, following_eq, following_eq, mcFmon_faults j _ still]
    · refine ⟨[], s.setFree (s.free + 1), TrimmedFor.free s _, ?_⟩
      have dark : apcUpdates (enterFault (s.setFree (s.free + 1))) = false := by
        rw [apcUpdates, enterFault, (trigger_state_frame _ _).1, changeMode_mc]
        simp [Mode.laserOff]
      rw [following_nil, mcFmon_faults j _ drawn]
      exact if_neg (by simp [dark])

/-- R12, R177: what an entry into FAULT tells. -/
theorem enterFault_tells (s : State) :
    Eu.Tells 5 (.modeChanged s.mc.mode .fault :: haltTold .fault s.wgc.queue) s.eu (enterFault s).eu := by
  have mode : (modeEntered .fault SelfTest.usual s).mc.mode = .fault := by
    rw [(modeEntered_frame .fault SelfTest.usual s).1]
  have tcu : Eu.Tells 2 [] (enterMode .fault SelfTest.usual s).eu (modeEntered .fault SelfTest.usual s).eu := by
    rw [modeEntered_fault]
    exact abortTrial_dark_tells .fault (enterMode .fault SelfTest.usual s) rfl
  have halted : haltTold .fault (modeEntered .fault SelfTest.usual s).wgc.queue = haltTold .fault s.wgc.queue := by
    rw [modeEntered_fault]
    exact abortTrial_dark_haltTold .fault .fault (enterMode .fault SelfTest.usual s) rfl
  have wgc : Eu.Tells 1 (haltTold .fault s.wgc.queue) (modeEntered .fault SelfTest.usual s).eu
      (wgcModeReaction (modeEntered .fault SelfTest.usual s)).eu := by
    rw [wgcModeReaction_fault _ mode, ← halted]
    exact haltForMode_tells .fault ((modeEntered .fault SelfTest.usual s).setWgc _)
  have changed := changeMode_dark_tells .fault SelfTest.usual s rfl tcu wgc
  exact (changed.trans (Eu.trigger_tells _ .faultEntered)).weaken le_rfl (by simp)

/-- R11, R12: the step of an FMON completion that enters FAULT. -/
theorem exec_fmon_faults (s : State) (raw : RawCount) (h : s.mon.inFlight = some .fmon)
    (on : (s.mon.windows.get Channel.fmon.index).enabled = true)
    (above : (s.mon.windows.get Channel.fmon.index).high < s.mon.correctedValue .fmon raw)
    (closed : s.wgc.gate ≠ .opened) (hm : s.mc.mode ≠ .fault) :
    ∃ ps w, w.mc = s.mc ∧ w.wgc = s.wgc ∧ w.tcu = s.tcu ∧ w.ct = s.ct ∧ Eu.Tells 3 [] s.eu w.eu ∧
      exec (.conversionComplete raw) s = .next (finish (following ps enterFault w)) := by
  have high : (s.mon.windows.get Channel.fmon.index).judge (s.mon.correctedValue .fmon raw) = .high :=
    (Window.judge_high_iff _ _).2 ⟨on, above⟩
  have cause : faultCause .high (sampled .fmon raw.toNat s) = true := (faultCause_iff _ _).2 ⟨rfl, closed, hm⟩
  obtain ⟨ps, w, ⟨mc, wgc, tcu, ct, told⟩, delivered⟩ :=
    deliverFmon_faults (s.mon.correctedValue .fmon raw) .high (sampled .fmon raw.toNat s) cause
  refine ⟨ps, w, mc, wgc, tcu, ct, (sampled_adds .fmon raw.toNat s).tells.trans told, ?_⟩
  rw [exec_completion s raw .fmon h, high, delivered, conclude_none]
  rw [(following_frame ps enterFault w).1, enterFault, (trigger_state_frame _ _).1, changeMode_mc]

/-- Settles O11: whatever LDU has trimmed before, the entry into FAULT is one change of mode. -/
theorem frontMonitorLightEntersFault : Obligations.FrontMonitorLightEntersFault := by
  intro s raw h on above closed hm
  obtain ⟨ps, w, mc, wgc, tcu, ct, told, stepped⟩ := exec_fmon_faults s raw h on above closed hm
  have changed : (following ps enterFault w).mc = { s.mc with mode := .fault, request := none } := by
    rw [← mc]
    exact changeMode_mc .fault SelfTest.usual w
  have lost : (following ps enterFault w).pt.state = .lost :=
    congrArg Pt.state (changeMode_pt .fault SelfTest.usual w)
  have raised : (following ps enterFault w).eu.latches.get .faultEntered = true := Eu.trigger_latched _ _
  have tells : Eu.Tells 8 (.modeChanged s.mc.mode .fault :: haltTold .fault s.wgc.queue) s.eu
      (following ps enterFault w).eu := by
    have entered := enterFault_tells w
    rw [mc, wgc] at entered
    exact (told.trans (following_tells ps enterFault w entered)).weaken le_rfl (by simp)
  have depth : (following ps enterFault w).mc.noticeDepth = s.mc.noticeDepth := by
    rw [changed]
    rfl
  obtain ⟨gate, user, arm, exit, idle⟩ := changeMode_fault_idle SelfTest.usual w
  obtain ⟨driven, powers, dark⟩ := changeMode_dark_ldu .fault SelfTest.usual w rfl
  have code : (following ps enterFault w).ldu.outputCode = 0 := by
    show (changeMode .fault SelfTest.usual w).ldu.outputCode = 0
    rw [Ldu.outputCode, driven]
    exact (dark _ (by simp)).2.1
  have stands (unmarked : s.tcu.trial = none ∨ ∀ x ∈ s.wgc.queue.head?, x.state = .queued → s.wgc.exitMark = false)
      (off : ∀ x ∈ s.wgc.queue.head?, x.state = .queued ∨ x.state = .suspended ∨ x.state = .halted) :
      (following ps enterFault w).wgc = { s.wgc with gate := .idle, user := none, arm := false, exitMark := false } := by
    rw [← tcu, ← wgc] at unmarked
    rw [← wgc] at off ⊢
    exact changeMode_fault_stands SelfTest.usual w unmarked off
  obtain ⟨read, peak, bias, cool⟩ : (changeMode .fault SelfTest.usual w).ldu.levels.read.current = 0 ∧
      (changeMode .fault SelfTest.usual w).ldu.levels.peak.current = 0 ∧
      (changeMode .fault SelfTest.usual w).ldu.levels.bias.current = 0 ∧
      (changeMode .fault SelfTest.usual w).ldu.levels.cool.current = 0 :=
    ⟨(dark _ (by simp)).1, (dark _ (by simp)).1, (dark _ (by simp)).1, (dark _ (by simp)).1⟩
  refine ⟨_, stepped, changed, finish_latched _ _ raised, lost, gate, arm, idle, driven, powers, read, peak, bias,
    cool, code, user, exit,
    fun room => tells.joins room depth _ (by simp), fun empty => stands (.inr (by simp [empty])) (by simp [empty]),
    fun g rest hq => ⟨fun hs => ⟨?_, fun room => tells.joins room depth _ (by simp [hq, haltTold, hs])⟩, fun hs => ?_⟩⟩
  · rw [← wgc] at hq ⊢
    exact changeMode_fault_halts SelfTest.usual w g rest hq hs
  · have unmarked : s.tcu.trial = none ∨ ∀ x ∈ s.wgc.queue.head?, x.state = .queued → s.wgc.exitMark = false := by
      rcases hs with hs | hs | ⟨-, none | clear⟩
      · exact .inr (by simp [hq, hs])
      · exact .inr (by simp [hq, hs])
      · exact .inl none
      · exact .inr fun _ _ _ => clear
    refine stands unmarked ?_
    rw [hq]
    simpa [or_comm, or_left_comm, or_assoc] using hs.imp id (Or.imp id And.left)

end Sys2Proof.Machine
end

section
/-! SUPPORT. REQUEST_MODE as its checks answer it, in their order (R4 to R6), and obligation O4. -/

namespace Sys2Proof.Machine

/-- The reply of REQUEST_MODE holds the mode and the pending target as the request leaves them. -/
theorem exec_request {f : ModeFields} {s : State} (h : s.takesFrames) (fits : f.fits) :
    ∃ l, ∀ (t : State) (why : Status), judgeMode f (s.setCl l) = (t, why) → t.cl = l →
      exec (.requestMode f.bytes) s = .next (t.setCl (Cl.answered 1 f.bytes why false (modeBody t))) := by
  obtain ⟨l, done⟩ := exec_as (exec_requestMode f s fits) h f.bytes_length_le
  refine ⟨l, fun t why judged link => done t ⟨why, false, modeBody t⟩ ?_ link⟩
  rw [requestMode, judged]

/-- A request that is answered without a change leaves everything but the link. -/
theorem exec_request_stands {f : ModeFields} {s : State} (h : s.takesFrames) (fits : f.fits) {why : Status}
    (judged : ∀ l, judgeMode f (s.setCl l) = (s.setCl l, why)) :
    exec (.requestMode f.bytes) s = .next (s.setCl (Cl.answered 1 f.bytes why false (modeBody s))) := by
  obtain ⟨l, done⟩ := exec_request h fits
  exact done (s.setCl l) why (judged l) rfl

theorem modeBody_idle (s : State) (h : s.mc.request = none) : modeBody s = modeByte s.mc.mode ++ [0] := by
  rw [modeBody, h]
  simp only [optionalBytes, List.append_nil]
  rfl

theorem modeBody_pending (s : State) {m : Mode} (h : s.mc.request = some m) :
    modeBody s = modeByte s.mc.mode ++ [1] ++ modeByte m := by
  have present : presence [true] = [1] := by decide
  rw [modeBody, h, Option.isSome_some, present]
  rfl

theorem withdrawExit_idle (s : State) (h : s.mc.request = none) : withdrawExit s = s := if_neg (by simp [h])

/-! ### The checks, in order -/

/-- R6, R7: what becomes of a request for a legal target, by its self-test values. -/
def judgeValues (m : Mode) (values : Option SelfTest) (s : State) : State × Status :=
  match values with
  | none => (s, .badValue)
  | some g => (grantMode m g s, .pending)

section
variable {f : ModeFields} (s : State)

theorem judgeMode_unknown (h : 6 ≤ f.target) : judgeMode f s = (s, .badValue) := by
  rw [judgeMode, nameAt_eq_none Mode.all f.target h]

theorem judgeMode_named {m : Mode} (h : f.target = m.code) :
    judgeMode f s =
      if f.selfTest.isSome ∧ m ≠ .selftest then (s, .badValue)
      else if m = .fault then (s, .wrongMode)
      else if m = s.mc.mode then (withdrawExit s, .ok)
      else if legalTarget s.mc.mode m = false then (s, .wrongMode)
      else if s.targetReady m = false then (s, .wrongMode)
      else judgeValues m (selfTestOf s.ct f.selfTest) s := by
  rw [judgeMode, h, nameAt_mode] <;> rfl

theorem judgeMode_fields {m : Mode} (h : f.target = m.code) (given : f.selfTest ≠ none) (hm : m ≠ .selftest) :
    judgeMode f s = (s, .badValue) := by
  rw [judgeMode_named s h, if_pos ⟨Option.isSome_iff_ne_none.2 given, hm⟩]

/-- The fields are absent or belong to the target. -/
theorem fields_belong {m : Mode} (h : f.selfTest = none ∨ m = .selftest) : ¬ (f.selfTest.isSome ∧ m ≠ .selftest) := by
  rintro ⟨given, other⟩
  rcases h with none | same
  · simp [none] at given
  · exact other same

theorem judgeMode_fault (h : f.target = Mode.fault.code) (none : f.selfTest = none) : judgeMode f s = (s, .wrongMode) := by
  rw [judgeMode_named s h, if_neg (fields_belong (.inl none)), if_pos rfl]

theorem judgeMode_current {m : Mode} (h : f.target = m.code) (belong : f.selfTest = none ∨ m = .selftest)
    (hf : m ≠ .fault) (same : m = s.mc.mode) : judgeMode f s = (withdrawExit s, .ok) := by
  rw [judgeMode_named s h, if_neg (fields_belong belong), if_neg hf, if_pos same]

theorem legalTarget_fault (a : Mode) : legalTarget a .fault = false := by cases a <;> rfl

theorem judgeMode_refused {m : Mode} (h : f.target = m.code) (belong : f.selfTest = none ∨ m = .selftest)
    (other : m ≠ s.mc.mode) (why : legalTarget s.mc.mode m = false ∨ s.targetReady m = false) :
    judgeMode f s = (s, .wrongMode) := by
  rw [judgeMode_named s h, if_neg (fields_belong belong), if_neg other]
  split
  · rfl
  · rcases why with illegal | unready
    · rw [if_pos illegal]
    · rw [if_pos unready, ite_self]

theorem legalTarget_other {a m : Mode} (h : legalTarget a m = true) : m ≠ .fault ∧ m ≠ a := by
  cases a <;> cases m <;> simp_all [legalTarget]

theorem judgeMode_legal {m : Mode} (h : f.target = m.code) (belong : f.selfTest = none ∨ m = .selftest)
    (legal : legalTarget s.mc.mode m = true) (ready : s.targetReady m = true) :
    judgeMode f s = judgeValues m (selfTestOf s.ct f.selfTest) s := by
  obtain ⟨fault, other⟩ := legalTarget_other legal
  rw [judgeMode_named s h, if_neg (fields_belong belong), if_neg fault, if_neg other, if_neg (by simp [legal]),
    if_neg (by simp [ready])]

theorem judgeMode_granted {m : Mode} (h : f.target = m.code) (belong : f.selfTest = none ∨ m = .selftest)
    (legal : legalTarget s.mc.mode m = true) (ready : s.targetReady m = true) {g : SelfTest}
    (values : selfTestOf s.ct f.selfTest = some g) : judgeMode f s = (grantMode m g s, .pending) := by
  rw [judgeMode_legal s h belong legal ready, values, judgeValues]

theorem judgeMode_outside {m : Mode} (h : f.target = m.code) (belong : f.selfTest = none ∨ m = .selftest)
    (legal : legalTarget s.mc.mode m = true) (ready : s.targetReady m = true)
    (values : selfTestOf s.ct f.selfTest = none) : judgeMode f s = (s, .badValue) := by
  rw [judgeMode_legal s h belong legal ready, values, judgeValues]

end

/-- R6: the self-test fields that are refused. -/
theorem selfTestOf_outside {c : Ct} {x : SelfTestFields}
    (h : c.blocks ≤ x.start ∨ 2 ≤ x.surface ∨ (x.surface = 1 ∧ c.hasSurface .one = false) ∨ x.interval < 100 ∨
      10000 < x.interval) : selfTestOf c (some x) = none := by
  cases named : nameAt Surface.all x.surface with
  | none => simp only [selfTestOf, named]
  | some g =>
    simp only [selfTestOf, named]
    refine if_neg fun ok => ?_
    simp only [inRange, Bool.and_eq_true, decide_eq_true_eq] at ok
    obtain ⟨⟨start, surface⟩, low, high⟩ := ok
    rcases h with k | k | ⟨one, absent⟩ | k | k
    · omega
    · exact absurd ((nameAt_eq_none Surface.all _ k).symm.trans named) (by simp)
    · rw [one] at named
      obtain rfl : Surface.one = g := Option.some.inj named
      simp [absent] at surface
    · omega
    · omega

theorem activeValid_iff (c : Cs) :
    c.activeValid = true ↔ ∃ a, c.active = some a ∧ (c.banks.get a.bank).valid = true := by
  cases h : c.active <;> simp [Cs.activeValid, h]

/-- R5: the conditions beside a legal target. -/
theorem targetReady_iff (s : State) (m : Mode) : s.targetReady m = true ↔
    (s.mc.mode = .configure ∨ s.mc.mode = .fault → m = .standby →
      (∃ a, s.cs.active = some a ∧ (s.cs.banks.get a.bank).valid = true) ∧ s.cs.store = .idle) ∧
    (s.mc.mode = .fault → m = .standby → s.eu.senses.get Channel.fmon.index = .inside) ∧
    (s.mc.mode = .standby → m = .read ∨ m = .selftest → s.ct.disc ≠ none) := by
  have bank : s.bankReady = true ↔
      (∃ a, s.cs.active = some a ∧ (s.cs.banks.get a.bank).valid = true) ∧ s.cs.store = .idle := by
    rw [State.bankReady, Bool.and_eq_true, activeValid_iff, decide_eq_true_eq]
  rw [← bank]
  cases hm : s.mc.mode <;> cases m <;> simp [State.targetReady, hm, Option.isSome_iff_ne_none]

/-- Settles O4, check by check. -/
theorem requestModeRefusals : Obligations.RequestModeRefusals := by
  refine ⟨fun a b => ?_, deferred_iff, targetReady_iff, fun s => ⟨modeBody_idle s, fun _ => modeBody_pending s⟩,
    fun s f h fits => ⟨fun unknown => ?_, fun m hm => ⟨fun given other => ?_, fun none fault => ?_,
      fun belong fault same none => ?_, fun belong other why => ?_, fun x hx hs hmode disc out => ?_⟩⟩⟩
  · cases a <;> cases b <;> decide
  · exact exec_request_stands h fits fun l => judgeMode_unknown _ unknown
  · exact exec_request_stands h fits fun l => judgeMode_fields _ hm given other
  · subst fault
    exact exec_request_stands h fits fun l => judgeMode_fault _ hm none
  · rw [same, ← modeBody_idle s none]
    exact exec_request_stands h fits fun l =>
      (judgeMode_current (s.setCl l) hm belong fault same).trans (by rw [withdrawExit_idle (s.setCl l) none])
  · exact exec_request_stands h fits fun l => judgeMode_refused _ hm belong other why
  · subst hs
    have legal : legalTarget s.mc.mode .selftest = true := by rw [hmode]; rfl
    have ready : s.targetReady .selftest = true := by simp [targetReady_iff, hmode, disc]
    refine exec_request_stands h fits fun l => judgeMode_outside _ hm (.inr rfl) legal ready ?_
    rw [hx]
    exact selfTestOf_outside out

end Sys2Proof.Machine
end

section
/-! SUPPORT. A change of mode that is made at once, and the settings of the blocks that it leaves (R7, R29, R72, R109,
R155). -/

namespace Sys2Proof.Machine

theorem grantMode_atOnce (m : Mode) (g : SelfTest) (s : State) (h : deferred s.mc.mode m = false) :
    grantMode m g s = finish (changeMode m g s) := by
  rw [grantMode, h, if_neg (by simp)]

/-- R7: a request that passes the checks, for a change that does not wait. -/
theorem exec_changes {f : ModeFields} {m : Mode} {g : SelfTest} {s : State} (h : s.takesFrames) (fits : f.fits)
    (hm : f.target = m.code) (belong : f.selfTest = none ∨ m = .selftest) (legal : legalTarget s.mc.mode m = true)
    (ready : s.targetReady m = true) (values : selfTestOf s.ct f.selfTest = some g)
    (atOnce : deferred s.mc.mode m = false) :
    ∃ l, exec (.requestMode f.bytes) s = .next ((finish (changeMode m g (s.setCl l))).setCl
      (Cl.answered 1 f.bytes .pending false (modeByte m ++ [0]))) := by
  obtain ⟨l, done⟩ := exec_request (f := f) h fits
  have changed : (finish (changeMode m g (s.setCl l))).mc = { s.mc with mode := m, request := none } :=
    changeMode_mc m g (s.setCl l)
  have body : modeBody (finish (changeMode m g (s.setCl l))) = modeByte m ++ [0] := by
    rw [modeBody_idle _ (by rw [changed]), changed]
  refine ⟨l, ?_⟩
  rw [← body]
  refine done _ _ ?_ ?_
  · rw [judgeMode_granted (s.setCl l) hm belong legal ready values, grantMode_atOnce m g (s.setCl l) atOnce]
  · rw [(finish_frame _).2.2.2.2.2.2.2.2.2.1, (changeMode_frame m g (s.setCl l)).2.2.1]
    rfl

/-- A request without self-test fields takes the usual values (R6). -/
theorem exec_changes_plain {m : Mode} {s : State} (h : s.takesFrames) (legal : legalTarget s.mc.mode m = true)
    (ready : s.targetReady m = true) (atOnce : deferred s.mc.mode m = false) :
    ∃ l, exec (.requestMode (ModeFields.bytes ⟨m.code, none⟩)) s =
      .next ((finish (changeMode m SelfTest.usual (s.setCl l))).setCl
        (Cl.answered 1 (ModeFields.bytes ⟨m.code, none⟩) .pending false (modeByte m ++ [0]))) :=
  exec_changes h ⟨m.code_lt.trans (by decide), by simp⟩ rfl (.inl rfl) legal ready rfl atOnce

/-! ### The settings that no change of mode touches -/

/-- What WGC holds for its own commands and for the end of a segment. -/
def Wgc.SameSettings (x w : Wgc) : Prop :=
  x.append = w.append ∧ x.rpcOn = w.rpcOn ∧ x.deadband = w.deadband ∧ x.rpcStep = w.rpcStep ∧ x.waitLimit = w.waitLimit

theorem Wgc.SameSettings.refl (w : Wgc) : w.SameSettings w := ⟨rfl, rfl, rfl, rfl, rfl⟩

theorem Wgc.SameSettings.trans {x y w : Wgc} (h : x.SameSettings y) (k : y.SameSettings w) : x.SameSettings w :=
  ⟨h.1.trans k.1, h.2.1.trans k.2.1, h.2.2.1.trans k.2.2.1, h.2.2.2.1.trans k.2.2.2.1, h.2.2.2.2.trans k.2.2.2.2⟩

theorem mapHead_settings (w : Wgc) (f : Segment → Segment) : (w.mapHead f).SameSettings w := by
  unfold Wgc.mapHead
  split <;> exact .refl w

theorem suspendHead_settings (why : SegReason) (s : State) : (suspendHead why s).wgc.SameSettings s.wgc := by
  unfold suspendHead
  split
  · exact .refl _
  · exact mapHead_settings _ _

theorem haltHead_settings (why : SegReason) (d : Option Nat) (s : State) :
    (haltHead why d s).wgc.SameSettings s.wgc := by
  unfold haltHead
  split
  · exact .refl _
  · exact mapHead_settings _ _

theorem haltForMode_settings (why : SegReason) (s : State) : (haltForMode why s).wgc.SameSettings s.wgc := by
  unfold haltForMode
  split
  · exact .refl _
  · split
    · exact haltHead_settings why none (shutGate none s)
    · unfold haltAtOnce
      split
      · exact .refl _
      · split
        · exact haltHead_settings why _ (clearReturns (shutGate none s))
        · exact .refl _

theorem flushQueue_settings (s : State) : (flushQueue s).wgc.SameSettings s.wgc := by
  unfold flushQueue
  dsimp only
  split <;> exact .refl _

theorem proceed_settings (k : Nat) (s : State) : (proceed k s).wgc.SameSettings s.wgc := by
  induction k generalizing s with
  | zero => exact .refl _
  | succ k ih =>
    unfold proceed
    split
    · exact .refl _
    · split
      · exact .refl _
      · split
        · exact suspendHead_settings _ s
        · split
          · exact .refl _
          · split
            · exact ih (post .wgc _ (dropHead s))
            · exact mapHead_settings (shutGate (some .segment) s).wgc _

theorem newHead_settings (s : State) : (newHead s).wgc.SameSettings s.wgc := proceed_settings _ s

theorem wgcModeReaction_settings (s : State) : (wgcModeReaction s).wgc.SameSettings s.wgc := by
  have halted (why : SegReason) : (haltForMode why (clearMarks s)).wgc.SameSettings s.wgc :=
    haltForMode_settings why (clearMarks s)
  unfold wgcModeReaction
  split
  · exact .refl _
  · exact newHead_settings (clearMarks s)
  · exact .refl _
  · exact (flushQueue_settings (shutGate none (haltForMode .mode (clearMarks s)))).trans (halted .mode)
  · exact (flushQueue_settings (shutGate none (haltForMode .mode (clearMarks s)))).trans (halted .mode)
  · exact halted .fault

theorem abortTrial_settings (why : TrialReason) (s : State) : (abortTrial why s).wgc.SameSettings s.wgc := by
  cases ht : s.tcu.trial with
  | none =>
    rw [abortTrial, endTrial_none _ _ _ ht]
    exact .refl _
  | some t =>
    have kept : (offGate (settleRecord t none s)).wgc.SameSettings s.wgc := by
      rw [offGate, settleRecord_eq]
      exact .refl _
    rw [abortTrial, endTrial_releases _ _ _ t s ht]
    exact (newHead_settings (post .tcu _ (offGate (settleRecord t none s)))).trans kept

theorem abortTrial_areas (why : TrialReason) (s : State) : (abortTrial why s).tcu.areas = s.tcu.areas := by
  cases ht : s.tcu.trial with
  | none => rw [abortTrial, endTrial_none _ _ _ ht]
  | some t =>
    rw [abortTrial, endTrial_releases _ _ _ t s ht]
    rfl

theorem tcuModeReaction_keeps (a b : Mode) (s : State) :
    (tcuModeReaction a b s).wgc.SameSettings s.wgc ∧ (tcuModeReaction a b s).tcu.areas = s.tcu.areas := by
  unfold tcuModeReaction
  split
  · exact ⟨abortTrial_settings _ s, abortTrial_areas _ s⟩
  · split
    · exact ⟨abortTrial_settings _ s, abortTrial_areas _ s⟩
    · exact ⟨.refl _, rfl⟩

theorem changeMode_settings (m : Mode) (g : SelfTest) (s : State) :
    (changeMode m g s).wgc.SameSettings s.wgc ∧ (changeMode m g s).tcu.areas = s.tcu.areas := by
  obtain ⟨wgc, areas⟩ := tcuModeReaction_keeps s.mc.mode m (enterMode m g s)
  rw [changeMode_wgc, changeMode_tcu]
  exact ⟨(wgcModeReaction_settings _).trans wgc, areas⟩

/-- R29, R72, R109, R155: the reactions of TCU and WGC are moves of the recording path. -/
theorem modeEntered_moves (m : Mode) (g : SelfTest) (s : State) : Moves (enterMode m g s) (modeEntered m g s) :=
  (Moves.refl _).tcuModeReaction _ _

theorem changeMode_sets (m : Mode) (g : SelfTest) (s : State) :
    (changeMode m g s).wsg.Streams s.wsg ∧
      (changeMode m g s).ct = { s.ct with records := (changeMode m g s).ct.records } ∧
      (changeMode m g s).eu.unmasked = s.eu.unmasked ∧ (changeMode m g s).eu.senses = s.eu.senses := by
  have moves : Moves (enterMode m g s) (wgcModeReaction (modeEntered m g s)) := (modeEntered_moves m g s).wgcModeReaction
  have computed : (lduModeReaction (wgcModeReaction (modeEntered m g s))).eu.Follows
      (wgcModeReaction (modeEntered m g s)).eu := by
    unfold lduModeReaction
    split <;> exact Eu.ite_trigger_follows _ _ rfl _
  have told := computed.trans moves.eu_follows
  obtain ⟨-, -, -, -, -, -, -, -, ct⟩ := moves.frame
  rw [changeMode_reacts, (lduModeReaction_frame _).2.2.2.2.2.1, (lduModeReaction_frame _).2.2.2.1]
  exact ⟨moves.wsg_frame, ct, told.unmasked, told.senses⟩

theorem changeMode_ldu_sets (m : Mode) (g : SelfTest) (s : State) :
    (changeMode m g s).ldu.readPower = s.ldu.readPower ∧ (changeMode m g s).ldu.ioff = s.ldu.ioff ∧
      (changeMode m g s).ldu.apcOn = s.ldu.apcOn ∧ (changeMode m g s).ldu.clampMark = s.ldu.clampMark := by
  have moves : Moves (enterMode m g s) (wgcModeReaction (modeEntered m g s)) := (modeEntered_moves m g s).wgcModeReaction
  obtain ⟨read, apc, ioff, clamp⟩ := moves.ldu_frame
  rw [changeMode_reacts, lduModeReaction, recompute_ldu]
  split <;> exact ⟨read, ioff, apc, clamp⟩

end Sys2Proof.Machine
end

section
/-! SUPPORT. What WGC does as a mode is entered, by its queue (R154, R155), and obligation O5. -/

namespace Sys2Proof.Machine

theorem abortTrial_noTrial (why : TrialReason) (s : State) (h : s.tcu.trial = none) : abortTrial why s = s :=
  endTrial_none _ _ _ h

theorem modeEntered_noTrial (m : Mode) (g : SelfTest) (s : State) (h : s.tcu.trial = none) :
    modeEntered m g s = enterMode m g s := by
  unfold modeEntered tcuModeReaction
  split
  · exact abortTrial_noTrial _ _ h
  · split
    · exact abortTrial_noTrial _ _ h
    · rfl

theorem enterMode_tells (m : Mode) (g : SelfTest) (s : State) :
    Eu.Tells 1 [.modeChanged s.mc.mode m] s.eu (enterMode m g s).eu := Eu.post_tells _ _ _

theorem lduModeReaction_tells (s : State) : Eu.Tells 1 [] s.eu (lduModeReaction s).eu := by
  unfold lduModeReaction
  split <;> exact (recompute_adds _).tells

/-- R177: MODE_CHANGED and what TCU and WGC tell of a change of mode; LDU may add CURRENT_LIMIT. -/
theorem changeMode_tells {i j : Nat} {xs ys : List Notice} (m : Mode) (g : SelfTest) (s : State)
    (tcu : Eu.Tells i xs (enterMode m g s).eu (modeEntered m g s).eu)
    (wgc : Eu.Tells j ys (modeEntered m g s).eu (wgcModeReaction (modeEntered m g s)).eu) :
    Eu.Tells (1 + i + j + 1) (.modeChanged s.mc.mode m :: (xs ++ ys)) s.eu (changeMode m g s).eu :=
  ((((enterMode_tells m g s).trans tcu).trans wgc).trans (lduModeReaction_tells _)).weaken le_rfl (by simp)

/-! ### CONFIGURE and STANDBY: the queue is flushed -/

theorem flushQueue_nil (s : State) (h : s.wgc.queue = []) : flushQueue s = s := by
  have same : s.setWgc { s.wgc with queue := [] } = s := by
    rw [← h]
    rfl
  unfold flushQueue
  rw [h, same]
  exact if_pos rfl

theorem flushQueue_cons (s : State) (g : Segment) (rest : List Segment) (h : s.wgc.queue = g :: rest) :
    flushQueue s = post .wgc (.queueFlushed (rest.length + 1)) (s.setWgc { s.wgc with queue := [] }) := by
  unfold flushQueue
  rw [h]
  exact if_neg (Nat.succ_ne_zero _)

theorem wgcModeReaction_flush (s : State) (h : s.mc.mode = .standby ∨ s.mc.mode = .configure) :
    wgcModeReaction s = flushQueue (shutGate none (haltForMode .mode (clearMarks s))) := by
  rcases h with h | h <;> rw [wgcModeReaction, h]

theorem wgcModeReaction_flushed (s : State) (h : s.mc.mode = .standby ∨ s.mc.mode = .configure) :
    (wgcModeReaction s).wgc.queue = [] ∧ (wgcModeReaction s).wgc.gate = .idle ∧
      (wgcModeReaction s).wgc.user = none ∧ (wgcModeReaction s).wgc.exitMark = false := by
  obtain ⟨queue, gate, user, exit⟩ := flushQueue_wgc (shutGate none (haltForMode .mode (clearMarks s)))
  rw [wgcModeReaction_flush s h]
  exact ⟨queue, gate, user, exit.trans (haltForMode_exitMark _ _)⟩

/-- What a flush leaves of WGC: the sums of the block that a writing head was at are cleared. -/
def Wgc.flushed (g : Segment) (w : Wgc) : Wgc :=
  { w with
    gate := .idle, user := none, queue := [], arm := false, exitMark := false
    returns := if g.state = .writing ∨ g.state = .suspending then { sum := 0, count := 0 } else w.returns }

/-- R155: a head that waits or writes is halted, and then the queue is flushed. -/
theorem wgcModeReaction_halts_flushes (s : State) (g : Segment) (rest : List Segment)
    (h : s.mc.mode = .standby ∨ s.mc.mode = .configure) (hq : s.wgc.queue = g :: rest) :
    (wgcModeReaction s).wgc = s.wgc.flushed g ∧ (wgcModeReaction s).wsg = s.wsg.stop ∧
      Eu.Tells 2 (haltTold .mode s.wgc.queue ++ [.queueFlushed (rest.length + 1)]) s.eu (wgcModeReaction s).eu := by
  have dark : s.mc.mode.mayWrite = false := by rcases h with h | h <;> rw [h] <;> rfl
  have halted := haltForMode_tells .mode (clearMarks s)
  have told (x : State) (hx : (haltForMode .mode (clearMarks s)).eu = x.eu) :
      Eu.Tells 2 (haltTold .mode s.wgc.queue ++ [.queueFlushed (rest.length + 1)]) s.eu
        (post .wgc (.queueFlushed (rest.length + 1)) x).eu := by
    refine halted.trans (n := 1) ?_
    rw [hx]
    exact Eu.post_tells _ _ _
  rw [wgcModeReaction_flush s h]
  rw [clearMarks_dark s dark] at told ⊢
  generalize hc : s.setWgc { s.wgc with
    arm := false
    exitMark := false } = c at told ⊢
  have queue : c.wgc.queue = g :: rest := by
    rw [← hc]
    exact hq
  have wsg : c.wsg.stop = s.wsg.stop := by rw [← hc]; rfl
  rcases g.state_cases with hs | hs | hs
  · rw [flushQueue_cons _ { g with state := .halted, reason := some .mode, damaged := none } rest
      (by rw [haltForMode_waits .mode c g rest queue hs]; rfl)]
    refine ⟨?_, ?_, told _ rfl⟩
    · rw [haltForMode_waits .mode c g rest queue hs, Wgc.flushed, if_neg (by simp [hs]), ← hc]
      rfl
    · rw [haltForMode_waits .mode c g rest queue hs]
      exact wsg
  · rw [flushQueue_cons _ { g with state := .halted, reason := some .mode, damaged := some g.next } rest
      (by rw [haltForMode_writes .mode c g rest queue hs]; rfl)]
    refine ⟨?_, ?_, told _ rfl⟩
    · rw [haltForMode_writes .mode c g rest queue hs, Wgc.flushed, if_pos hs, ← hc]
      rfl
    · rw [haltForMode_writes .mode c g rest queue hs]
      exact wsg
  · have off := haltForMode_off .mode c g rest queue hs
    rw [flushQueue_cons _ g rest (by rw [off]; exact queue)]
    refine ⟨?_, ?_, told _ rfl⟩
    · rw [off, Wgc.flushed, if_neg (by rcases hs with hs | hs | hs <;> simp [hs]), ← hc]
      rfl
    · rw [off]
      exact wsg

/-- An empty queue: WGC tells nothing as a mode is entered. -/
theorem wgcModeReaction_empty_eu (s : State) (h : s.wgc.queue = []) : (wgcModeReaction s).eu = s.eu := by
  have cleared : (clearMarks s).wgc.queue = [] := h
  have stands (why : SegReason) : haltForMode why (clearMarks s) = clearMarks s := haltForMode_nil why _ cleared
  unfold wgcModeReaction
  split
  · rfl
  · rw [newHead_nil _ cleared]
    rfl
  · rfl
  · rw [stands, flushQueue_nil (shutGate none (clearMarks s)) h]
    rfl
  · rw [stands, flushQueue_nil (shutGate none (clearMarks s)) h]
    rfl
  · rw [stands]
    rfl

/-! ### READ and SELFTEST, and RECORD: the head may proceed -/

theorem wgcModeReaction_stands (s : State) (h : s.mc.mode = .read ∨ s.mc.mode = .selftest) :
    wgcModeReaction s = clearMarks s := by
  rcases h with h | h <;> rw [wgcModeReaction, h]

theorem wgcModeReaction_record (s : State) (h : s.mc.mode = .record) : wgcModeReaction s = newHead (clearMarks s) := by
  rw [wgcModeReaction, h]

theorem clearMarks_lit (s : State) (h : s.mc.mode.mayWrite = true) :
    clearMarks s = s.setWgc { s.wgc with exitMark := false } := by
  rw [clearMarks, h, Bool.and_true]

end Sys2Proof.Machine
end

section
/-! SUPPORT. REQUEST_MODE for the changes that are made at once (R7, R29, R154, R155), and obligation O5. -/

namespace Sys2Proof.Machine

theorem ptModeReaction_usual (m : Mode) (p : Pt) :
    ptModeReaction m SelfTest.usual p = { p with
      state := .lost, coast := 0, genRunning := decide (m = .selftest)
      genSurface := if m = .selftest then .zero else p.genSurface
      genNext := if m = .selftest then 0 else p.genNext
      genInterval := if m = .selftest then 1000 else p.genInterval } := by
  by_cases h : m = .selftest <;> simp [ptModeReaction, h, SelfTest.usual]

theorem changeMode_depth (m : Mode) (g : SelfTest) (s : State) :
    (changeMode m g s).mc.noticeDepth = s.mc.noticeDepth := by
  rw [changeMode_mc]
  rfl

/-- R155: MODE_CHANGED is all that TCU and WGC find to tell, where nothing is recorded. -/
theorem changeMode_joins {s : State} (m : Mode) (g : SelfTest) (empty : s.wgc.queue = []) (idle : s.tcu.trial = none)
    (room : s.room 2) : .modeChanged s.mc.mode m ∈ (finish (changeMode m g s)).eu.notices := by
  have entered := modeEntered_noTrial m g s idle
  have queue : (modeEntered m g s).wgc.queue = [] := by
    rw [entered]
    exact empty
  have told := changeMode_tells m g s (Eu.Tells.of_eq (congrArg State.eu entered))
    (Eu.Tells.of_eq (wgcModeReaction_empty_eu _ queue))
  exact told.joins room (changeMode_depth m g s) _ (by simp)

theorem changeMode_flushed (m : Mode) (g : SelfTest) (s : State) (h : m = .standby ∨ m = .configure) :
    (changeMode m g s).wgc.queue = [] ∧ (changeMode m g s).wgc.gate = .idle ∧ (changeMode m g s).wgc.user = none ∧
      (changeMode m g s).wgc.exitMark = false := by
  rw [changeMode_wgc]
  refine wgcModeReaction_flushed _ ?_
  rw [(modeEntered_frame m g s).1]
  exact h

/-- R155: a change to CONFIGURE or STANDBY without a trial in flight halts the head and flushes the queue. -/
theorem changeMode_halts_flushes (m : Mode) (t : SelfTest) (s : State) (g : Segment) (rest : List Segment)
    (h : m = .standby ∨ m = .configure) (idle : s.tcu.trial = none) (hq : s.wgc.queue = g :: rest) :
    (changeMode m t s).wgc = s.wgc.flushed g ∧ (changeMode m t s).wsg = s.wsg.stop ∧
      Eu.Tells 3 (.modeChanged s.mc.mode m :: (haltTold .mode (g :: rest) ++ [.queueFlushed (rest.length + 1)])) s.eu
        (changeMode m t s).eu := by
  have entered := modeEntered_noTrial m t s idle
  have mode : (modeEntered m t s).mc.mode = m := by rw [(modeEntered_frame m t s).1]
  have queue : (modeEntered m t s).wgc.queue = g :: rest := by
    rw [entered]
    exact hq
  obtain ⟨wgc, wsg, told⟩ := wgcModeReaction_halts_flushes (modeEntered m t s) g rest (by rwa [mode]) queue
  have changed := changeMode_dark_tells m t s (by rcases h with h | h <;> rw [h] <;> rfl)
    (Eu.Tells.of_eq (congrArg State.eu entered)) told
  rw [queue] at changed
  rw [changeMode_wgc, changeMode_wsg]
  refine ⟨?_, ?_, changed⟩
  · rw [wgc, entered]
    rfl
  · rw [wsg, entered]
    rfl

/-- R136, R155: entering RECORD without a trial in flight, the head proceeds with the exit mark clear. -/
theorem changeMode_record_wgc (g : SelfTest) (s : State) (idle : s.tcu.trial = none) :
    ∃ c, c.mc.mode = .record ∧ c.wgc = { s.wgc with exitMark := false } ∧ c.pu = s.pu ∧ c.ct = s.ct ∧
      c.eu = (modeEntered .record g s).eu ∧ wgcModeReaction (modeEntered .record g s) = newHead c ∧
      (changeMode .record g s).wgc = (newHead c).wgc := by
  have reacts : wgcModeReaction (modeEntered .record g s) =
      newHead ((enterMode .record g s).setWgc { s.wgc with exitMark := false }) := by
    rw [modeEntered_noTrial .record g s idle, wgcModeReaction_record _ rfl, clearMarks_lit _ rfl]
    rfl
  refine ⟨(enterMode .record g s).setWgc { s.wgc with exitMark := false }, rfl, rfl, rfl, rfl, ?_, reacts,
    by rw [changeMode_wgc, reacts]⟩
  rw [modeEntered_noTrial .record g s idle]
  rfl

/-- R31: the values that a request for SELFTEST hands to the tracker. -/
theorem ptModeReaction_selftest (g : SelfTest) (p : Pt) :
    ptModeReaction .selftest g p = { p with
      state := .lost, coast := 0, genRunning := true, genSurface := g.surface, genNext := g.start
      genInterval := g.interval } := by
  rw [ptModeReaction, if_pos rfl]

/-- R6: the fields that are taken. -/
theorem selfTestOf_within (c : Ct) (g : Surface) (a n : Nat) (hg : c.hasSurface g = true) (ha : a < c.blocks)
    (h : 100 ≤ n ∧ n ≤ 10000) :
    selfTestOf c (some ⟨a, g.code, n⟩) = some { start := a, surface := g, interval := n } := by
  simp only [selfTestOf, nameAt_surface]
  exact if_pos (by simp [ha, hg, inRange_eq_true h])

/-- What MC, PT and WGC leave on an entry into SELFTEST. -/
def selfTesting (g : SelfTest) (s : State) : State :=
  { s with
    mc := { s.mc with mode := .selftest, request := none }
    pt := ptModeReaction .selftest g s.pt
    wgc := { s.wgc with exitMark := false } }

/-- R29, R31: entering SELFTEST changes PT, the exit mark and the levels. -/
theorem changeMode_selftest (g : SelfTest) (s : State) (source : s.mc.mode ≠ .record) :
    ∃ u, changeMode .selftest g s = { selfTesting g s with
      ldu := { s.ldu with levels := (selfTesting g s).levelsNow }
      eu := u } := by
  have entered : modeEntered .selftest g s = enterMode .selftest g s := by
    unfold modeEntered tcuModeReaction
    rw [if_neg (by simp), if_neg (by simp [source])]
  have reacts : changeMode .selftest g s =
      recompute ((enterMode .selftest g s).setWgc { s.wgc with exitMark := false }) := by
    rw [changeMode_reacts, entered, wgcModeReaction_stands _ (.inr rfl), clearMarks_lit _ rfl, lduModeReaction]
    rfl
  refine ⟨(recompute ((enterMode .selftest g s).setWgc { s.wgc with exitMark := false })).eu, ?_⟩
  rw [reacts]
  rfl

/-- The first clause of O5. -/
theorem requestMode_changes (s : State) (m : Mode) (h : s.takesFrames) (legal : legalTarget s.mc.mode m = true)
    (ready : s.targetReady m = true) (atOnce : deferred s.mc.mode m = false) :
    ∃ t, exec (.requestMode (ModeFields.bytes ⟨m.code, none⟩)) s = .next t ∧
      t.mc = { s.mc with mode := m, request := none } ∧
      t.cl = Cl.answered 1 (ModeFields.bytes ⟨m.code, none⟩) .pending false (modeByte m ++ [0]) ∧
      t.pt = { s.pt with
        state := .lost, coast := 0, genRunning := decide (m = .selftest)
        genSurface := if m = .selftest then .zero else s.pt.genSurface
        genNext := if m = .selftest then 0 else s.pt.genNext
        genInterval := if m = .selftest then 1000 else s.pt.genInterval } ∧
      t.mon = s.mon ∧ t.pu = s.pu ∧ t.cs = s.cs ∧ t.lines = s.lines ∧ t.ldu.readPower = s.ldu.readPower ∧
      t.ldu.ioff = s.ldu.ioff ∧ t.ldu.apcOn = s.ldu.apcOn ∧ t.ldu.clampMark = s.ldu.clampMark ∧
      t.wsg.speed = s.wsg.speed ∧ t.wsg.entries = s.wsg.entries ∧ t.wgc.append = s.wgc.append ∧
      t.wgc.rpcOn = s.wgc.rpcOn ∧ t.wgc.deadband = s.wgc.deadband ∧ t.wgc.rpcStep = s.wgc.rpcStep ∧
      t.wgc.waitLimit = s.wgc.waitLimit ∧ t.eu.unmasked = s.eu.unmasked ∧ t.eu.senses = s.eu.senses ∧
      t.tcu.areas = s.tcu.areas ∧ t.ct.disc = s.ct.disc ∧ t.ct.zones = s.ct.zones ∧
      (s.tcu.trial = none → t.ct = s.ct ∧ t.tcu = s.tcu) ∧
      (m = .standby ∨ m = .configure → t.wgc.queue = [] ∧ t.wgc.gate = .idle) ∧
      (s.wgc.queue = [] → s.tcu.trial = none → s.room 2 → Notice.modeChanged s.mc.mode m ∈ t.eu.notices) := by
  obtain ⟨l, done⟩ := exec_changes_plain h legal ready atOnce
  obtain ⟨mon, pu, -, cs, lines, -, -⟩ := changeMode_frame m SelfTest.usual (s.setCl l)
  obtain ⟨⟨append, rpcOn, deadband, rpcStep, waitLimit⟩, areas⟩ := changeMode_settings m SelfTest.usual (s.setCl l)
  obtain ⟨⟨speed, entries⟩, ct, unmasked, senses⟩ := changeMode_sets m SelfTest.usual (s.setCl l)
  obtain ⟨read, ioff, apc, clamp⟩ := changeMode_ldu_sets m SelfTest.usual (s.setCl l)
  obtain ⟨-, finUnmasked, finSenses, -⟩ := finish_eu (changeMode m SelfTest.usual (s.setCl l))
  have pt := (changeMode_pt m SelfTest.usual (s.setCl l)).trans (ptModeReaction_usual m s.pt)
  have disc : (changeMode m SelfTest.usual (s.setCl l)).ct.disc = s.ct.disc := by
    rw [ct]
    rfl
  have zones : (changeMode m SelfTest.usual (s.setCl l)).ct.zones = s.ct.zones := by
    rw [ct]
    rfl
  refine ⟨_, done, changeMode_mc m SelfTest.usual (s.setCl l), rfl, pt, mon, pu, cs, lines, read, ioff, apc, clamp, speed,
    entries, append, rpcOn, deadband, rpcStep, waitLimit, finUnmasked.trans unmasked, finSenses.trans senses, areas,
    disc, zones, fun idle => ?_, fun flush => ?_,
    fun empty idle room => changeMode_joins m SelfTest.usual (s := s.setCl l) empty idle room⟩
  · have entered := modeEntered_noTrial m SelfTest.usual (s.setCl l) idle
    have ct' := changeMode_ct m SelfTest.usual (s.setCl l)
    have tcu' := changeMode_tcu m SelfTest.usual (s.setCl l)
    rw [entered] at ct' tcu'
    exact ⟨ct', tcu'⟩
  · obtain ⟨queue, gate, -, -⟩ := changeMode_flushed m SelfTest.usual (s.setCl l) flush
    exact ⟨queue, gate⟩

/-- The second clause of O5. -/
theorem requestMode_halts_flushes (s : State) (m : Mode) (g : Segment) (rest : List Segment) (h : s.takesFrames)
    (hm : (s.mc.mode = .record ∧ m = .configure) ∨ (s.mc.mode = .selftest ∧ (m = .standby ∨ m = .configure)))
    (idle : s.tcu.trial = none) (hq : s.wgc.queue = g :: rest) :
    ∃ t, exec (.requestMode (ModeFields.bytes ⟨m.code, none⟩)) s = .next t ∧
      t.mc = { s.mc with mode := m, request := none } ∧ t.wgc = s.wgc.flushed g ∧
      t.wsg = s.wsg.stop ∧ t.ldu.driven = .read ∧ t.ldu.writeSet = none ∧
      (s.room 3 → Notice.modeChanged s.mc.mode m ∈ t.eu.notices ∧
        Notice.queueFlushed (rest.length + 1) ∈ t.eu.notices ∧
        (g.state = .waiting → Notice.segmentHalted g.tag .mode g.done none ∈ t.eu.notices) ∧
        (g.state = .writing ∨ g.state = .suspending →
          Notice.segmentHalted g.tag .mode g.done (some g.next) ∈ t.eu.notices)) := by
  have legal : legalTarget s.mc.mode m = true := by
    rcases hm with ⟨source, rfl⟩ | ⟨source, rfl | rfl⟩ <;> rw [source] <;> rfl
  have ready : s.targetReady m = true := by
    rw [targetReady_iff]
    rcases hm with ⟨source, rfl⟩ | ⟨source, rfl | rfl⟩ <;> simp [source]
  have atOnce : deferred s.mc.mode m = false := by
    rcases hm with ⟨source, rfl⟩ | ⟨source, rfl | rfl⟩ <;> rw [source] <;> rfl
  have target : m = .standby ∨ m = .configure := by
    rcases hm with ⟨-, rfl⟩ | ⟨-, hm⟩
    · exact .inr rfl
    · exact hm
  obtain ⟨l, done⟩ := exec_changes_plain h legal ready atOnce
  obtain ⟨wgc, wsg, told⟩ := changeMode_halts_flushes m SelfTest.usual (s.setCl l) g rest target idle hq
  obtain ⟨driven, powers, -⟩ := changeMode_dark_ldu m SelfTest.usual (s.setCl l)
    (by rcases target with h | h <;> rw [h] <;> rfl)
  have depth := changeMode_depth m SelfTest.usual (s.setCl l)
  refine ⟨_, done, changeMode_mc m SelfTest.usual (s.setCl l), wgc, wsg, driven, powers, fun room => ?_⟩
  have joins (x : Notice) (hx : x ∈ .modeChanged s.mc.mode m ::
      (haltTold .mode (g :: rest) ++ [.queueFlushed (rest.length + 1)])) :
      x ∈ (finish (changeMode m SelfTest.usual (s.setCl l))).eu.notices := told.joins room depth x hx
  refine ⟨joins _ (by simp), joins _ (by simp), fun hs => joins _ (by simp [haltTold, hs]), fun hs => joins _ ?_⟩
  rcases hs with hs | hs <;> simp [haltTold, hs, SegState.writes]

/-- The third clause of O5. -/
theorem requestMode_records (s : State) (g : Segment) (rest : List Segment) (h : s.takesFrames)
    (source : s.mc.mode = .read) (idle : s.tcu.trial = none) (hq : s.wgc.queue = g :: rest) (gate : s.wgc.gate = .idle)
    (_ : s.wgc.user = none) :
    ∃ t, exec (.requestMode (ModeFields.bytes ⟨3, none⟩)) s = .next t ∧
      t.mc = { s.mc with mode := .record, request := none } ∧
      (g.state = .suspended ∨ g.state = .halted → t.wgc = { s.wgc with exitMark := false }) ∧
      (g.state = .queued → s.runProtected g.surface g.next g.last = false →
        t.wgc = { s.wgc with
          exitMark := false, gate := .waiting, user := some .segment, wait := 0
          queue := { g with state := .waiting } :: rest }) ∧
      (g.state = .queued → s.runProtected g.surface g.next g.last = true → rest = [] →
        t.wgc = { s.wgc with exitMark := false, queue := [] } ∧
        (s.room 3 → Notice.segmentRefused g.tag ∈ t.eu.notices)) := by
  have legal : legalTarget s.mc.mode .record = true := by rw [source]; rfl
  have ready : s.targetReady .record = true := by simp [targetReady_iff, source]
  have atOnce : deferred s.mc.mode .record = false := by rw [source]; rfl
  obtain ⟨l, done⟩ := exec_changes_plain h legal ready atOnce
  have entered := modeEntered_noTrial .record SelfTest.usual (s.setCl l) idle
  obtain ⟨c, mode, cwgc, pu, ct, ceu, reacts, wgc⟩ := changeMode_record_wgc SelfTest.usual (s.setCl l) idle
  have queue : c.wgc.queue = g :: rest := (congrArg Wgc.queue cwgc).trans hq
  have unmarked : c.wgc.exitMark = false := congrArg Wgc.exitMark cwgc
  have shut : c.wgc.gate = .idle := (congrArg Wgc.gate cwgc).trans gate
  have may : c.mc.mode.mayWrite = true := by rw [mode]; rfl
  have bare : c.runProtected g.surface g.next g.last = s.runProtected g.surface g.next g.last :=
    runProtected_congr pu ct _ _ _
  refine ⟨_, done, changeMode_mc .record SelfTest.usual (s.setCl l), fun hs => wgc.trans ?_,
    fun hs free => wgc.trans ?_, fun hs shielded alone => ?_⟩
  · rw [newHead_off c g rest queue (by rcases hs with hs | hs <;> simp [hs]), cwgc]
    rfl
  · rw [newHead_waits c g rest queue hs unmarked shut may (bare.trans free)]
    exact congrArg (fun w : Wgc => { w with
      gate := .waiting
      user := some .segment
      wait := 0
      queue := { g with state := .waiting } :: rest }) cwgc
  · have dropped : (dropHead c).wgc = { s.wgc with exitMark := false, queue := [] } := by
      rw [dropHead, queue, alone]
      exact congrArg (fun w : Wgc => { w with queue := [] }) cwgc
    have refused : newHead c = post .wgc (.segmentRefused g.tag) (dropHead c) := by
      rw [newHead_refused c g rest queue hs unmarked shut may (bare.trans shielded)]
      exact newHead_nil _ (congrArg Wgc.queue dropped)
    have told : Eu.Tells 1 [.segmentRefused g.tag] (modeEntered .record SelfTest.usual (s.setCl l)).eu
        (wgcModeReaction (modeEntered .record SelfTest.usual (s.setCl l))).eu := by
      rw [reacts, refused, ← ceu]
      exact Eu.post_tells _ _ _
    have changed := changeMode_tells .record SelfTest.usual (s.setCl l) (Eu.Tells.of_eq (congrArg State.eu entered)) told
    refine ⟨(wgc.trans (congrArg State.wgc refused)).trans dropped, fun room => ?_⟩
    exact changed.joins room (changeMode_depth .record SelfTest.usual (s.setCl l)) _ (by simp)

/-- Settles O5, by the mode that is entered. -/
theorem requestModeChangesAtOnce : Obligations.RequestModeChangesAtOnce := by
  refine ⟨requestMode_changes, requestMode_halts_flushes, requestMode_records,
    fun s g a n body h source disc surface start width low high hb => ?_⟩
  have legal : legalTarget s.mc.mode .selftest = true := by rw [source]; rfl
  have ready : s.targetReady .selftest = true := by simp [targetReady_iff, source, disc]
  have atOnce : deferred s.mc.mode .selftest = false := by rw [source]; rfl
  have fits : ModeFields.fits ⟨4, some ⟨a, g.code, n⟩⟩ := by
    have surfaces : g.code < 256 := by cases g <;> decide
    refine ⟨show 4 < 256 by decide, fun x hx => ?_⟩
    obtain rfl := Option.some.inj hx
    exact ⟨width, surfaces, by dsimp only; omega⟩
  obtain ⟨l, done⟩ := exec_changes h fits (m := .selftest) rfl (.inr rfl) legal ready
    (selfTestOf_within s.ct g a n surface start ⟨low, high⟩) atOnce
  obtain ⟨u, entered⟩ := changeMode_selftest { start := a, surface := g, interval := n } (s.setCl l)
    (by simp [source])
  rw [hb]
  refine ⟨_, done, ?_, ?_⟩
  · exact (changeMode_pt _ _ _).trans (ptModeReaction_selftest _ _)
  · rw [entered]
    rfl

end Sys2Proof.Machine
end

section
/-! SUPPORT. What an aborted trial leaves and tells, by the head that its release finds (R107, R109, R136, R177). -/

namespace Sys2Proof.Machine

theorem calDone_congr {s u : State} (h : u.tcu = s.tcu) (t : Trial) (o : TrialOutcome) (r : Option TrialReason)
    (p : Option Nat) : u.calDone t o r p = s.calDone t o r p := by
  rw [State.calDone, State.calDone, State.blocksWritten, State.blocksWritten, h]

theorem abortTrial_alone (why : TrialReason) (t : Trial) (s : State) (ht : s.tcu.trial = some t)
    (hq : s.wgc.queue = []) : abortTrial why s = trialEnded .aborted (some why) none t s :=
  endTrial_alone _ _ _ t s ht hq

theorem abortTrial_stays (why : TrialReason) (t : Trial) (s : State) (ht : s.tcu.trial = some t)
    (hq : ∀ g ∈ s.wgc.queue.head?, g.state ≠ .queued) : abortTrial why s = trialEnded .aborted (some why) none t s :=
  endTrial_stays _ _ _ t s ht hq

theorem trialEnded_tells (o : TrialOutcome) (r : Option TrialReason) (p : Option Nat) (t : Trial) (s : State) :
    Eu.Tells 1 [.calDone (s.calDone t o r p)] s.eu (trialEnded o r p t s).eu := by
  obtain ⟨-, -, -, -, -, -, -, -, eu⟩ := trialEnded_parts o r p t s
  rw [eu]
  exact Eu.post_tells _ _ _

/-! ### A QUEUED head behind the trial -/

/-- What an aborted trial leaves before its release lets the head proceed. -/
def abortReleased (why : TrialReason) (t : Trial) (s : State) : State :=
  post .tcu (.calDone (s.calDone t .aborted (some why) none)) (offGate (settleRecord t none s))

theorem abortTrial_releases (why : TrialReason) (t : Trial) (s : State) (ht : s.tcu.trial = some t) :
    abortTrial why s = (following [.tcu] newHead (abortReleased why t s)).setTcu { s.tcu with trial := none } :=
  endTrial_releases _ _ _ t s ht

section
variable {why : TrialReason} {t : Trial} {s : State} {g : Segment} {rest : List Segment} (ht : s.tcu.trial = some t)
  (hq : s.wgc.queue = g :: rest) (hs : g.state = .queued) (unmarked : s.wgc.exitMark = false)
  (hm : s.mc.mode = .record)
include ht hq hs unmarked hm

/-- R107, R136: the head that an aborted trial lets proceed takes the gate. -/
theorem abortTrial_waits (bare : s.runProtected g.surface g.next g.last = false) :
    abortTrial why s = (trialEnded .aborted (some why) none t s).setWgc { s.wgc with
      gate := .waiting, user := some .segment, wait := 0, queue := { g with state := .waiting } :: rest } := by
  have may : (abortReleased why t s).mc.mode.mayWrite = true := by
    show s.mc.mode.mayWrite = true
    rw [hm]
    rfl
  have waits := newHead_waits (abortReleased why t s) g rest hq hs unmarked rfl may bare
  rw [abortTrial_releases why t s ht, following_quiet _ _ _ (by rw [waits]; rfl), waits]
  rfl

/-- R107, R136: a protected head is refused at the release, after CAL_DONE. -/
theorem abortTrial_refuses (alone : rest = []) (bare : s.runProtected g.surface g.next g.last = true) :
    abortTrial why s = ((trialEnded .aborted (some why) none t s).setWgc
      { s.wgc with gate := .idle, user := none, queue := [] }).setEu
        (((s.eu.post .tcu (.calDone (s.calDone t .aborted (some why) none))).post .wgc (.segmentRefused g.tag)).hold
          (s.eu.outbox.length + 1) [.tcu]) := by
  have may : (abortReleased why t s).mc.mode.mayWrite = true := by
    show s.mc.mode.mayWrite = true
    rw [hm]
    rfl
  have refused : newHead (abortReleased why t s) =
      post .wgc (.segmentRefused g.tag) (dropHead (abortReleased why t s)) := by
    rw [newHead_refused (abortReleased why t s) g rest hq hs unmarked rfl may bare]
    refine newHead_nil _ ?_
    show s.wgc.queue.tail = []
    rw [hq, alone]
    rfl
  have dropped : (dropHead (abortReleased why t s)).wgc = { s.wgc with gate := .idle, user := none, queue := [] } := by
    show { s.wgc with gate := .idle, user := none, queue := s.wgc.queue.tail } = _
    rw [hq, alone]
    rfl
  have length : (abortReleased why t s).eu.outbox.length = s.eu.outbox.length + 1 := List.length_append
  rw [abortTrial_releases why t s ht, following_eq, refused, length, ← dropped]
  rfl

end

/-- R177: CAL_DONE joins, and behind it the notice of the head. -/
theorem finish_done_refused {s x : State} {m n : Notice} (room : s.room 2)
    (hx : x.eu = ((s.eu.post .tcu m).post .wgc n).hold (s.eu.outbox.length + 1) [.tcu]) (hm : x.mc = s.mc) :
    (finish x).eu.notices = s.eu.notices ++ [m, n] := by
  obtain ⟨settled, free⟩ := room
  have empty : s.eu.outbox = [] := settled
  have outbox : x.eu.outbox = [⟨.tcu, [], m⟩, ⟨.wgc, [.tcu], n⟩] := by
    rw [hx]
    simp [Eu.hold, Eu.post, empty]
  have notices : x.eu.notices = s.eu.notices := by rw [hx]; rfl
  rw [finish_chain_room x]
  · show x.eu.notices ++ x.eu.outbox.map Posted.notice = _
    rw [notices, outbox]
    rfl
  · rw [outbox]
    simp [Posted.waitsFor_of]
  · rw [notices, outbox, hm]
    exact free

end Sys2Proof.Machine
end

section
/-! SUPPORT. The causes that abort a trial (R105, R109, R110), and obligation O26. -/

namespace Sys2Proof.Machine

/-! ### ABORT_CAL -/

theorem exec_abortCal_idle (s : State) (h : s.takesFrames) (ht : s.tcu.trial = none) :
    exec (.abortCal []) s = .next (s.setCl (Cl.answered 21 [] .nothingPending false [])) := by
  refine exec_refused (exec_abortCal_nil s) h (by decide) ?_
  have idle : (acceptFrame (2 + ([] : Body).length) s).tcu.trial = none := ht
  rw [abortCal, idle]

theorem exec_abortCal_trial (s : State) (t : Trial) (h : s.takesFrames) (ht : s.tcu.trial = some t) :
    ∃ l, exec (.abortCal []) s = .next ((conclude (abortTrial .command (s.setCl l))).setCl
      (Cl.answered 21 [] .ok false (keyBytes t.key ++ natBytes 3 t.first ++ natBytes 1 (s.blocksWritten t)))) := by
  obtain ⟨l, done⟩ := exec_as (exec_abortCal_nil s) h (by decide)
  refine ⟨l, done (conclude (abortTrial .command (s.setCl l)))
    (okBody (keyBytes t.key ++ natBytes 3 t.first ++ natBytes 1 (s.blocksWritten t))) ?_ ?_⟩
  · have trial : (s.setCl l).tcu.trial = some t := ht
    rw [abortCal, trial]
    rfl
  · rw [(conclude_frame _).2.2.1, (abortTrial_frame _ _).2.2.2.2.1]
    rfl

end Sys2Proof.Machine
end

section
/-! SUPPORT. The causes that abort a trial (R105, R109, R110), and obligation O26. -/

namespace Sys2Proof.Machine

/-- Without an exit pending ABORT_CAL is the end of the trial and nothing else. -/
theorem exec_abortCal_quiet (s : State) (t : Trial) (h : s.takesFrames) (ht : s.tcu.trial = some t)
    (hr : s.mc.request = none) :
    ∃ l, exec (.abortCal []) s = .next ((finish (abortTrial .command (s.setCl l))).setCl
      (Cl.answered 21 [] .ok false (keyBytes t.key ++ natBytes 3 t.first ++ natBytes 1 (s.blocksWritten t)))) := by
  obtain ⟨l, done⟩ := exec_abortCal_trial s t h ht
  refine ⟨l, ?_⟩
  rw [done, conclude_none]
  rw [(abortTrial_frame _ _).1]
  exact hr

theorem abortCal_alone (s : State) (t : Trial) (h : s.takesFrames) (ht : s.tcu.trial = some t)
    (hr : s.mc.request = none) (hq : s.wgc.queue = []) :
    ∃ u, exec (.abortCal []) s = .next u ∧ u.tcu = { s.tcu with trial := none } ∧
      u.ct = s.ct.putRecord t.key t.saved ∧ u.wgc = { s.wgc with gate := .idle, user := none } ∧
      u.ldu = { s.ldu with driven := .read } ∧ u.wsg = s.wsg.stop ∧ u.mc = s.mc ∧ u.pt = s.pt ∧ u.mon = s.mon ∧
      u.pu = s.pu ∧ u.cs = s.cs ∧ u.lines = s.lines ∧
      u.cl = Cl.answered 21 [] .ok false
        (keyBytes t.key ++ natBytes 3 t.first ++ natBytes 1 (s.blocksWritten t)) ∧
      (s.room 1 → u.eu.notices = s.eu.notices ++ [.calDone (s.calDone t .aborted (some .command) none)]) := by
  obtain ⟨l, done⟩ := exec_abortCal_quiet s t h ht hr
  have joins (room : s.room 1) := trialEnded_joins (u := s.setCl l) .aborted (some .command) none t room rfl rfl
  have ct := trialEnded_restores .aborted (some .command) t (s.setCl l)
  obtain ⟨-, -, -, ldu, tcu, wsg, wgc, -, -⟩ := trialEnded_parts .aborted (some .command) none t (s.setCl l)
  obtain ⟨mc, pt, mon, pu, -, cs, lines, -⟩ := abortTrial_frame .command (s.setCl l)
  rw [abortTrial_alone .command t (s.setCl l) ht hq] at done mc pt mon pu cs lines
  generalize trialEnded .aborted (some .command) none t (s.setCl l) = x at *
  exact ⟨_, done, tcu, ct, wgc, ldu, wsg, mc, pt, mon, pu, cs, lines, rfl, joins⟩

/-- What WGC holds does not touch the notices of a step. -/
theorem finish_setWgc_eu (s : State) (w : Wgc) : (finish (s.setWgc w)).eu = (finish s).eu := rfl

theorem abortCal_behind (s : State) (t : Trial) (h : s.takesFrames) (ht : s.tcu.trial = some t)
    (hr : s.mc.request = none) (g : Segment) (rest : List Segment) (hq : s.wgc.queue = g :: rest)
    (hs : g.state = .suspended ∨ g.state = .halted ∨
      (g.state = .queued ∧ s.wgc.exitMark = false ∧ s.mc.mode = .record ∧
        s.runProtected g.surface g.next g.last = false)) :
    ∃ u, exec (.abortCal []) s = .next u ∧ u.tcu = { s.tcu with trial := none } ∧
      u.ct = s.ct.putRecord t.key t.saved ∧ u.ldu = { s.ldu with driven := .read } ∧ u.wsg = s.wsg.stop ∧
      u.mc = s.mc ∧
      (g.state = .queued →
        u.wgc = { s.wgc with
          gate := .waiting, user := some .segment, wait := 0, queue := { g with state := .waiting } :: rest }) ∧
      (g.state ≠ .queued → u.wgc = { s.wgc with gate := .idle, user := none }) ∧
      (s.room 1 → u.eu.notices = s.eu.notices ++ [.calDone (s.calDone t .aborted (some .command) none)]) := by
  obtain ⟨l, done⟩ := exec_abortCal_quiet s t h ht hr
  have joins (room : s.room 1) := trialEnded_joins (u := s.setCl l) .aborted (some .command) none t room rfl rfl
  have ct := trialEnded_restores .aborted (some .command) t (s.setCl l)
  obtain ⟨mc, -, -, ldu, tcu, wsg, wgc, -, -⟩ := trialEnded_parts .aborted (some .command) none t (s.setCl l)
  by_cases queued : g.state = .queued
  · obtain ⟨unmarked, hm, bare⟩ : s.wgc.exitMark = false ∧ s.mc.mode = .record ∧
        s.runProtected g.surface g.next g.last = false := by simpa [queued] using hs
    rw [abortTrial_waits (s := s.setCl l) ht hq queued unmarked hm bare] at done
    generalize trialEnded .aborted (some .command) none t (s.setCl l) = x at *
    exact ⟨_, done, tcu, ct, ldu, wsg, mc, fun _ => rfl, fun k => absurd queued k, joins⟩
  · have off : ∀ x ∈ s.wgc.queue.head?, x.state ≠ .queued := by
      rw [hq]
      intro x hx
      obtain rfl := Option.some.inj hx
      exact queued
    rw [abortTrial_stays .command t (s.setCl l) ht off] at done
    generalize trialEnded .aborted (some .command) none t (s.setCl l) = x at *
    exact ⟨_, done, tcu, ct, ldu, wsg, mc, fun k => absurd k queued, fun _ => wgc, joins⟩

theorem abortCal_refuses (s : State) (t : Trial) (h : s.takesFrames) (ht : s.tcu.trial = some t)
    (hr : s.mc.request = none) (g : Segment) (hq : s.wgc.queue = [g]) (hs : g.state = .queued)
    (unmarked : s.wgc.exitMark = false) (hm : s.mc.mode = .record)
    (bare : s.runProtected g.surface g.next g.last = true) :
    ∃ u, exec (.abortCal []) s = .next u ∧ u.tcu = { s.tcu with trial := none } ∧
      u.wgc = { s.wgc with gate := .idle, user := none, queue := [] } ∧
      (s.room 2 → u.eu.notices = s.eu.notices ++
        [.calDone (s.calDone t .aborted (some .command) none), .segmentRefused g.tag]) := by
  obtain ⟨l, done⟩ := exec_abortCal_quiet s t h ht hr
  rw [abortTrial_refuses (s := s.setCl l) ht hq hs unmarked hm rfl bare] at done
  exact ⟨_, done, rfl, rfl, fun room => finish_done_refused room rfl rfl⟩

/-! ### The position -/

/-- R28, R109: beside an empty queue TCU alone acts on a report. -/
theorem deliverReport_trial (r : PositionReport) (s : State) (h : s.wgc.queue = []) :
    deliverReport r s = following positionPosters (abortTrial .position) s := by
  have quiet : wgcPositionLost r s = s := by rw [wgcPositionLost, h]
  have same : bothTake (wgcPositionLost r) (tcuPositionLost r) s = abortTrial .position s := by
    rw [bothTake, if_neg (by simp [gateRace_false s (.inr h)]), quiet]
    rfl
  rw [following_eq, ← same]
  rfl

/-- What an aborted trial leaves where no segment is queued, with its notice among those of the step. -/
structure AbortsAlone (s : State) (t : Trial) (why : TrialReason) (u : State) : Prop where
  tcu : u.tcu = { s.tcu with trial := none }
  ct : u.ct = s.ct.putRecord t.key t.saved
  wgc : u.wgc = { s.wgc with gate := .idle, user := none }
  ldu : u.ldu = { s.ldu with driven := .read }
  wsg : u.wsg = s.wsg.stop
  told : s.room 2 → Notice.calDone (s.calDone t .aborted (some why) none) ∈ u.eu.notices

/-- The end of a trial after one more event, held back or not. -/
theorem AbortsAlone.of {s x : State} {t : Trial} {why : TrialReason} (ps : List Poster) (mc : x.mc = s.mc)
    (tcu : x.tcu = s.tcu) (ct : x.ct = s.ct) (wgc : x.wgc = s.wgc) (ldu : x.ldu = s.ldu) (wsg : x.wsg = s.wsg)
    (told : Eu.Tells 1 [] s.eu x.eu) (ht : s.tcu.trial = some t) (hq : s.wgc.queue = []) :
    AbortsAlone s t why (finish (following ps (abortTrial why) x)) := by
  have ended := abortTrial_alone why t x (by rw [tcu, ht]) (by rw [wgc, hq])
  have parts := trialEnded_parts .aborted (some why) none t x
  rw [← ended] at parts
  obtain ⟨mc', -, -, ldu', tcu', wsg', wgc', -, -⟩ := parts
  have ct' := trialEnded_restores .aborted (some why) t x
  rw [← ended] at ct'
  have tells := trialEnded_tells .aborted (some why) none t x
  rw [← ended, calDone_congr tcu] at tells
  refine ⟨?_, ?_, ?_, ?_, ?_, fun room => ?_⟩
  · exact tcu'.trans (by rw [tcu])
  · exact ct'.trans (by rw [ct])
  · exact wgc'.trans (by rw [wgc])
  · exact ldu'.trans (by rw [ldu])
  · exact wsg'.trans (by rw [wsg])
  · exact (told.trans (following_tells ps (abortTrial why) x tells)).joins room
      (congrArg Mc.noticeDepth (mc'.trans mc)) _ (by simp)

/-- R109: a report ends the trial in every sub-state. -/
theorem position_aborts (s : State) (t : Trial) (v : Bool) (f : Surface) (a : Nat) (hm : s.mc.mode = .record)
    (hr : s.mc.request = none) (ht : s.tcu.trial = some t) (hq : s.wgc.queue = []) (h : s.losesPosition v f a) :
    ∃ u, exec (.positionRecord v f a) s = .next u ∧ AbortsAlone s t .position u ∧ BoundaryKeeps s u := by
  obtain ⟨e, r, p, -, -, taken⟩ := takeArrival_loses s v f a h
  have stepped := exec_record s v f a (.inr hm)
  rw [conclude_arrival _ _ hr] at stepped
  have frame := takeArrival_frame (s.ct.arrival v f a) s
  rw [taken] at stepped frame
  rw [deliverReport_trial r (trigger e (s.setPt p)) hq] at stepped frame
  obtain ⟨mc, mon, pu, cl, cs, lines, pending⟩ := frame
  exact ⟨_, stepped, AbortsAlone.of positionPosters rfl rfl rfl rfl rfl rfl (Eu.trigger_tells _ _) ht hq,
    mc, mon, pu, cl, cs, lines, pending⟩

/-! ### The INHIBIT mark -/

/-- R110: a set mark ends the trial at the boundary, while it waits to write, and while it writes before its last step. -/
theorem tcuBoundary_marked (f : Surface) (a : Nat) (k : BoundaryKind) (s : State) (t : Trial) (m : AbortMark)
    (ht : s.tcu.trial = some t) (hm : t.mark = some m)
    (hs : t.sub = .writeWait ∨ (t.sub = .writing ∧ t.index < t.steps.length)) :
    tcuBoundary f a k s = abortTrial m.reason s := by
  rw [tcuBoundary, ht]
  dsimp only
  rcases hs with hs | ⟨hs, hi⟩
  · rw [hs]
    dsimp only
    rw [trialWriteWait, hm]
  · rw [hs]
    dsimp only
    rw [trialWriting, if_pos hi, hm]

theorem headOffGate_empty (s : State) (h : s.wgc.queue = []) : s.headOffGate := by simp [State.headOffGate, h]

theorem inhibit_aborts (s : State) (t : Trial) (hm : s.mc.mode = .record) (hr : s.mc.request = none)
    (ht : s.tcu.trial = some t) (hq : s.wgc.queue = []) (holds : s.holdsPosition) (marked : t.mark = some .inhibit)
    (hs : t.sub = .writeWait ∨ (t.sub = .writing ∧ t.index < t.steps.length)) :
    ∃ u, exec (.positionRecord true s.pt.surface s.pt.predicted) s = .next u ∧ AbortsAlone s t .inhibit u ∧
      BoundaryKeeps s u := by
  have stepped := exec_boundary_quiet s true hm hr ⟨holds, .inl rfl⟩
  obtain ⟨n, alone⟩ := deliverBoundary_trial s.pt.surface s.pt.predicted (boundaryKind true) (passed true s)
    (headOffGate_empty (passed true s) hq) (.inl hq)
  have keeps := boundary_keeps s true s.pt.surface s.pt.predicted (boundaryKind true)
  rw [alone, tcuBoundary_marked _ _ _ ((passed true s).setFree n) t .inhibit ht marked hs] at stepped keeps
  have aborts : AbortsAlone s t .inhibit (finish (following [] (abortTrial .inhibit) ((passed true s).setFree n))) :=
    AbortsAlone.of [] rfl rfl rfl rfl rfl rfl ((Eu.Tells.nothing s.eu).weaken (by decide) (List.Subset.refl _)) ht hq
  rw [following_nil] at aborts
  exact ⟨_, stepped, aborts, keeps⟩

/-! ### TERR and VLD out of window -/

/-- R109: the sub-states in which a value of the channel out of window ends the trial. -/
def outAborts (c : Channel) (x : SubState) : Bool :=
  decide (x = .writing) || (decide (x = .measuring) && decide (c = .terr))

/-- R109: beside an empty queue a value out of window reaches the trial alone. -/
theorem exec_out_trial (s : State) (raw : RawCount) (c : Channel) (t : Trial) (why : TrialReason)
    (hc : (c = .terr ∧ why = .tracking) ∨ (c = .vld ∧ why = .supply)) (h : s.mon.inFlight = some c)
    (out : s.mon.outOfWindow c (s.mon.correctedValue c raw)) (hr : s.mc.request = none) (ht : s.tcu.trial = some t)
    (hq : s.wgc.queue = []) :
    exec (.conversionComplete raw) s = .next (finish
      (if outAborts c t.sub then abortTrial why (sampled c raw.toNat s) else sampled c raw.toNat s)) := by
  have trial (d : Channel) : (sampled d raw.toNat s).tcu.trial = some t := ht
  have empty (d : Channel) : (sampled d raw.toNat s).wgc.queue = [] := hq
  rcases hc with ⟨rfl, rfl⟩ | ⟨rfl, rfl⟩
  · rw [exec_terr_out s raw h out hr, haltAtOnce_nil _ _ (empty _), tcuTracking, trial]
    simp [outAborts]
  · rw [exec_vld_out s raw h out hr, haltAtOnce_nil _ _ (empty _), tcuSupply, trial]
    simp [outAborts]

theorem out_aborts (s : State) (raw : RawCount) (c : Channel) (t : Trial) (why : TrialReason)
    (hc : (c = .terr ∧ why = .tracking) ∨ (c = .vld ∧ why = .supply)) (h : s.mon.inFlight = some c)
    (out : s.mon.outOfWindow c (s.mon.correctedValue c raw)) (hr : s.mc.request = none) (ht : s.tcu.trial = some t)
    (hq : s.wgc.queue = []) :
    ∃ u, exec (.conversionComplete raw) s = .next u ∧ u.mc = s.mc ∧ u.pt = s.pt ∧ u.pu = s.pu ∧ u.cl = s.cl ∧
      u.cs = s.cs ∧ u.lines = s.lines ∧ (outAborts c t.sub = true → AbortsAlone s t why u) ∧
      (outAborts c t.sub = false →
        u.tcu = s.tcu ∧ u.ct = s.ct ∧ u.wgc = s.wgc ∧ u.ldu = s.ldu ∧ u.wsg = s.wsg) := by
  have stepped := exec_out_trial s raw c t why hc h out hr ht hq
  cases acts : outAborts c t.sub with
  | false =>
    rw [acts, if_neg (by simp)] at stepped
    exact ⟨_, stepped, rfl, rfl, rfl, rfl, rfl, rfl, fun k => absurd k (by simp), fun _ => ⟨rfl, rfl, rfl, rfl, rfl⟩⟩
  | true =>
    have aborts : AbortsAlone s t why (finish (following [] (abortTrial why) (sampled c raw.toNat s))) :=
      AbortsAlone.of [] rfl rfl rfl rfl rfl rfl (sampled_adds c raw.toNat s).tells ht hq
    rw [following_nil] at aborts
    obtain ⟨mc, pt, -, pu, cl, cs, lines, -⟩ := abortTrial_frame why (sampled c raw.toNat s)
    rw [acts, if_pos rfl] at stepped
    exact ⟨_, stepped, mc, pt, pu, cl, cs, lines, fun _ => aborts, fun k => absurd k (by simp)⟩

/-! ### Changes of mode -/

theorem modeEntered_configure (g : SelfTest) (s : State) (h : s.mc.mode = .record) :
    modeEntered .configure g s = abortTrial .mode (enterMode .configure g s) := by
  rw [modeEntered, tcuModeReaction, if_neg (by decide), if_pos ⟨h, rfl⟩]

/-- R109: a change of mode that ends the trial at once, where no segment is queued. -/
theorem changeMode_aborts (m : Mode) (why : TrialReason) (g : SelfTest) (t : Trial) (s : State)
    (off : m.laserOff = true) (ends : modeEntered m g s = abortTrial why (enterMode m g s))
    (ht : s.tcu.trial = some t) (hq : s.wgc.queue = []) :
    (changeMode m g s).tcu = { s.tcu with trial := none } ∧
      (changeMode m g s).ct = s.ct.putRecord t.key t.saved ∧ (modeEntered m g s).wgc.queue = [] ∧
      (modeEntered m g s).wsg = s.wsg.stop ∧
      Eu.Tells 2 [.modeChanged s.mc.mode m, .calDone (s.calDone t .aborted (some why) none)] s.eu
        (changeMode m g s).eu := by
  have ended := ends.trans (abortTrial_alone why t (enterMode m g s) ht hq)
  obtain ⟨-, -, -, -, tcu, wsg, wgc, -, -⟩ := trialEnded_parts .aborted (some why) none t (enterMode m g s)
  have ct := trialEnded_restores .aborted (some why) t (enterMode m g s)
  have told := trialEnded_tells .aborted (some why) none t (enterMode m g s)
  rw [← ended] at tcu wsg wgc ct told
  have queue : (modeEntered m g s).wgc.queue = [] := by
    rw [wgc]
    exact hq
  rw [changeMode_tcu, changeMode_ct]
  exact ⟨tcu, ct, queue, wsg,
    changeMode_dark_tells m g s off told (Eu.Tells.of_eq (wgcModeReaction_empty_eu _ queue))⟩

theorem fault_aborts (s : State) (raw : RawCount) (t : Trial) (h : s.mon.inFlight = some .fmon)
    (on : (s.mon.windows.get Channel.fmon.index).enabled = true)
    (above : (s.mon.windows.get Channel.fmon.index).high < s.mon.correctedValue .fmon raw)
    (closed : s.wgc.gate ≠ .opened) (hm : s.mc.mode ≠ .fault) (ht : s.tcu.trial = some t) (hq : s.wgc.queue = []) :
    ∃ u, exec (.conversionComplete raw) s = .next u ∧ u.mc = { s.mc with mode := .fault, request := none } ∧
      u.tcu = { s.tcu with trial := none } ∧ u.ct = s.ct.putRecord t.key t.saved ∧ u.wgc.gate = .idle ∧
      u.wgc.user = none ∧
      (s.room 6 → Notice.calDone (s.calDone t .aborted (some .fault) none) ∈ u.eu.notices) := by
  obtain ⟨ps, w, mc, wgc, tcu, ct, told, stepped⟩ := exec_fmon_faults s raw h on above closed hm
  obtain ⟨gate, user, -, -, -⟩ := changeMode_fault_idle SelfTest.usual w
  obtain ⟨tcu', ct', -, -, tells⟩ := changeMode_aborts .fault .fault SelfTest.usual t w rfl
    (modeEntered_fault SelfTest.usual w) (by rw [tcu, ht]) (by rw [wgc, hq])
  have changed := changeMode_mc .fault SelfTest.usual w
  rw [mc] at changed
  rw [tcu] at tcu'
  rw [ct] at ct'
  have entered : Eu.Tells 3 [.modeChanged w.mc.mode .fault, .calDone (w.calDone t .aborted (some .fault) none)] w.eu
      (enterFault w).eu := (tells.trans (Eu.trigger_tells _ .faultEntered)).weaken le_rfl (by simp)
  rw [calDone_congr tcu] at entered
  have all := told.trans (following_tells ps enterFault w entered)
  refine ⟨_, stepped, changed, tcu', ct', gate, user, fun room => all.joins room ?_ _ (by simp)⟩
  exact (changeMode_depth .fault SelfTest.usual w).trans (by rw [mc])

theorem configure_aborts (s : State) (t : Trial) (h : s.takesFrames) (hm : s.mc.mode = .record)
    (ht : s.tcu.trial = some t) (hq : s.wgc.queue = []) :
    ∃ u, exec (.requestMode (ModeFields.bytes ⟨0, none⟩)) s = .next u ∧
      u.mc = { s.mc with mode := .configure, request := none } ∧ u.tcu = { s.tcu with trial := none } ∧
      u.ct = s.ct.putRecord t.key t.saved ∧ u.wgc.gate = .idle ∧ u.wgc.user = none ∧ u.ldu.driven = .read ∧
      u.wsg = s.wsg.stop ∧
      (s.room 2 → Notice.calDone (s.calDone t .aborted (some .mode) none) ∈ u.eu.notices ∧
        Notice.modeChanged .record .configure ∈ u.eu.notices) := by
  have legal : legalTarget s.mc.mode .configure = true := by rw [hm]; rfl
  have ready : s.targetReady .configure = true := by simp [targetReady_iff]
  have atOnce : deferred s.mc.mode .configure = false := by rw [hm]; rfl
  obtain ⟨l, done⟩ := exec_changes_plain h legal ready atOnce
  obtain ⟨tcu, ct, queue, wsg, tells⟩ := changeMode_aborts .configure .mode SelfTest.usual t (s.setCl l) rfl
    (modeEntered_configure SelfTest.usual (s.setCl l) hm) ht hq
  obtain ⟨-, gate, user, -⟩ := changeMode_flushed .configure SelfTest.usual (s.setCl l) (.inr rfl)
  obtain ⟨driven, -, -⟩ := changeMode_dark_ldu .configure SelfTest.usual (s.setCl l) rfl
  have changed := changeMode_mc .configure SelfTest.usual (s.setCl l)
  have depth := changeMode_depth .configure SelfTest.usual (s.setCl l)
  have stopped : (changeMode .configure SelfTest.usual (s.setCl l)).wsg = s.wsg.stop := by
    have mode : (modeEntered .configure SelfTest.usual (s.setCl l)).mc.mode = .configure := by
      rw [(modeEntered_frame .configure SelfTest.usual (s.setCl l)).1]
    rw [changeMode_wsg, wgcModeReaction_flush _ (.inr mode)]
    generalize modeEntered .configure SelfTest.usual (s.setCl l) = x at queue wsg
    rw [haltForMode_nil .mode (clearMarks x) queue, flushQueue_nil (shutGate none (clearMarks x)) queue]
    show x.wsg.stop = s.wsg.stop
    rw [wsg]
    rfl
  have source : (s.setCl l).mc.mode = .record := hm
  rw [source] at tells
  refine ⟨_, done, changed, tcu, ct, gate, user, driven, stopped, fun room => ⟨?_, ?_⟩⟩
  · exact tells.joins room depth _ (List.mem_cons_of_mem _ (List.mem_singleton_self _))
  · exact tells.joins room depth _ List.mem_cons_self

/-- Settles O26, cause by cause. -/
theorem abortsEndTheTrial : Obligations.AbortsEndTheTrial := by
  refine ⟨exec_abortCal_idle, fun s t h ht hr => ⟨abortCal_alone s t h ht hr, abortCal_behind s t h ht hr,
    abortCal_refuses s t h ht hr⟩, fun s t v f a why hm hr ht hq cause => ?_,
    fun s raw c t why hc h out hr ht hq => ?_, fault_aborts, configure_aborts⟩
  · rcases cause with ⟨rfl, lost⟩ | ⟨rfl, rfl, rfl, holds, rfl, marked, hs⟩
    · obtain ⟨u, stepped, ⟨tcu, ct, wgc, ldu, wsg, told⟩, keeps⟩ := position_aborts s t v f a hm hr ht hq lost
      exact ⟨u, stepped, tcu, ct, wgc, ldu, wsg, keeps, told⟩
    · obtain ⟨u, stepped, ⟨tcu, ct, wgc, ldu, wsg, told⟩, keeps⟩ := inhibit_aborts s t hm hr ht hq holds marked hs
      exact ⟨u, stepped, tcu, ct, wgc, ldu, wsg, keeps, told⟩
  · obtain ⟨u, stepped, mc, pt, pu, cl, cs, lines, aborts, stands⟩ := out_aborts s raw c t why hc h out hr ht hq
    refine ⟨u, stepped, mc, pt, pu, cl, cs, lines, fun hs => ?_, fun hs => stands ?_⟩
    · obtain ⟨tcu, ct, wgc, ldu, wsg, told⟩ := aborts (by rcases hs with hs | ⟨hs, rfl⟩ <;> simp [outAborts, hs])
      exact ⟨tcu, ct, wgc, ldu, wsg, told⟩
    · rcases hs with hs | hs | ⟨hs, rfl⟩ <;> simp [outAborts, hs]

end Sys2Proof.Machine
end

section
/-! SUPPORT. An exit from RECORD that completes, and the place of its notice (R8, R155, R177). -/

namespace Sys2Proof.Machine

/-- R8: the targets for which RECORD waits. -/
def isExit (m : Mode) : Prop := m = .read ∨ m = .standby

theorem flushQueue_tells (s : State) : Eu.Tells 1 [] s.eu (flushQueue s).eu := by
  cases hq : s.wgc.queue with
  | nil =>
    rw [flushQueue_nil s hq]
    exact (Eu.Tells.nothing s.eu).weaken (by decide) (List.Subset.refl _)
  | cons g rest =>
    rw [flushQueue_cons s g rest hq]
    exact (Eu.post_tells s.eu .wgc _).weaken le_rfl (by simp)

/-- R155: what WGC tells as the target of an exit is entered. -/
theorem wgcModeReaction_exit_tells (s : State) (h : isExit s.mc.mode) :
    Eu.Tells 2 [] s.eu (wgcModeReaction s).eu := by
  rcases h with h | h
  · rw [wgcModeReaction_stands s (.inl h)]
    exact (Eu.Tells.nothing s.eu).weaken (by decide) (List.Subset.refl _)
  · rw [wgcModeReaction_flush s (.inl h)]
    have halted := haltForMode_tells .mode (clearMarks s)
    exact (halted.trans (flushQueue_tells (shutGate none (haltForMode .mode (clearMarks s))))).weaken le_rfl (by simp)

section
variable {m : Mode} (hm : isExit m) {x : State}
include hm

/-- R29, R155: what the completion of an exit leaves, where no trial is in flight. -/
theorem changeMode_exit (idle : x.tcu.trial = none) :
    (changeMode m SelfTest.usual x).mc = { x.mc with mode := m, request := none } ∧
      (changeMode m SelfTest.usual x).pt.state = .lost ∧ (changeMode m SelfTest.usual x).tcu = x.tcu ∧
      (changeMode m SelfTest.usual x).ct = x.ct ∧ (changeMode m SelfTest.usual x).wgc.exitMark = false ∧
      (x.wgc.gate = .idle → (changeMode m SelfTest.usual x).wgc.gate = .idle) ∧
      (x.wgc.user = none → (changeMode m SelfTest.usual x).wgc.user = none) ∧
      (x.ldu.driven = .read → (changeMode m SelfTest.usual x).ldu.driven = .read) ∧
      (m = .standby → (changeMode m SelfTest.usual x).wgc.queue = []) ∧
      (m = .read → (changeMode m SelfTest.usual x).wgc.queue = x.wgc.queue) := by
  have entered := modeEntered_noTrial m SelfTest.usual x idle
  have tcu := changeMode_tcu m SelfTest.usual x
  have ct := changeMode_ct m SelfTest.usual x
  rw [entered] at tcu ct
  have lost : (changeMode m SelfTest.usual x).pt.state = .lost := by
    rw [changeMode_pt, ptModeReaction_usual]
  refine ⟨changeMode_mc m SelfTest.usual x, lost, tcu, ct, ?_⟩
  rcases hm with rfl | rfl
  · have wgc := changeMode_wgc .read SelfTest.usual x
    have reacts : wgcModeReaction (enterMode .read SelfTest.usual x) = clearMarks (enterMode .read SelfTest.usual x) :=
      wgcModeReaction_stands _ (.inl rfl)
    have ldu : (changeMode .read SelfTest.usual x).ldu.driven = x.ldu.driven := by
      rw [changeMode_reacts, entered, reacts]
      rfl
    rw [entered, reacts] at wgc
    rw [wgc, ldu]
    exact ⟨rfl, id, id, id, fun k => absurd k (by decide), fun _ => rfl⟩
  · obtain ⟨queue, gate, user, exit⟩ := changeMode_flushed .standby SelfTest.usual x (.inl rfl)
    obtain ⟨driven, -, -⟩ := changeMode_dark_ldu .standby SelfTest.usual x rfl
    exact ⟨exit, fun _ => gate, fun _ => user, fun _ => driven, fun _ => queue, fun k => absurd k (by decide)⟩

/-- R177: what the completion of an exit tells behind MODE_CHANGED. -/
theorem changeMode_exit_tells (idle : x.tcu.trial = none) :
    Eu.Tells 3 [] (enterMode m SelfTest.usual x).eu (changeMode m SelfTest.usual x).eu := by
  have entered := modeEntered_noTrial m SelfTest.usual x idle
  have wgc := wgcModeReaction_exit_tells (enterMode m SelfTest.usual x) hm
  rw [changeMode_reacts, entered]
  exact wgc.trans (lduModeReaction_tells _)

end

/-- R177: with no segment queued LDU alone may tell more. -/
theorem changeMode_exit_tells_empty (m : Mode) {x : State} (idle : x.tcu.trial = none) (hq : x.wgc.queue = []) :
    Eu.Tells 1 [] (enterMode m SelfTest.usual x).eu (changeMode m SelfTest.usual x).eu := by
  have entered := modeEntered_noTrial m SelfTest.usual x idle
  have wgc := wgcModeReaction_empty_eu (enterMode m SelfTest.usual x) hq
  rw [changeMode_reacts, entered, ← wgc]
  exact lduModeReaction_tells _

/-- R8, R30, R177: MODE_CHANGED joins behind a notice of the report that let the exit complete. -/
theorem conclude_order {s x : State} {m : Mode} {k : Nat} {p : Poster} {n : Notice} {a b : List Posted} {ps : List Poster}
    (hp : p ∈ reportPosters) (request : x.mc.request = some m) (stopped : x.stopped = true)
    (notices : x.eu.notices = s.eu.notices) (outbox : x.eu.outbox = a ++ ⟨p, ps, n⟩ :: b)
    (told : Eu.Tells k [] (enterMode m SelfTest.usual x).eu (changeMode m SelfTest.usual x).eu)
    (room : s.eu.notices.length + (a.length + b.length + 2 + k) ≤ x.mc.noticeDepth) :
    ∃ y z w, (conclude x).eu.notices = s.eu.notices ++ (y ++ n :: (z ++ .modeChanged x.mc.mode m :: w)) := by
  obtain ⟨kept, l, grown, few, -⟩ := told
  have depth := changeMode_depth m SelfTest.usual x
  have queue : (changeMode m SelfTest.usual x).eu.notices = s.eu.notices := kept.trans notices
  have entered : (enterMode m SelfTest.usual x).eu.outbox =
      (a ++ ⟨p, ps, n⟩ :: b) ++ [⟨.mc, [], .modeChanged x.mc.mode m⟩] := by
    rw [← outbox]
    rfl
  rw [entered] at grown
  rw [conclude_completes x m request stopped]
  generalize changeMode m SelfTest.usual x = y at *
  have held : (y.eu.hold x.eu.outbox.length reportPosters).outbox =
      a ++ ⟨p, ps, n⟩ :: (b ++ ⟨.mc, reportPosters ++ [], .modeChanged x.mc.mode m⟩ ::
        l.map (fun z => { z with after := reportPosters ++ z.after })) := by
    have split : y.eu.outbox = (a ++ ⟨p, ps, n⟩ :: b) ++ (⟨.mc, [], .modeChanged x.mc.mode m⟩ :: l) := by
      rw [grown]
      simp
    simp only [Eu.hold, outbox, split, List.take_left', List.drop_left', List.map_cons]
    simp
  have order := finish_order (y.setEu (y.eu.hold x.eu.outbox.length reportPosters)) ⟨p, ps, n⟩
    ⟨.mc, reportPosters ++ [], .modeChanged x.mc.mode m⟩ a b _ (Posted.waitsFor_of (.inr (List.mem_append_left _ hp)))
    ?_ held
  · obtain ⟨e, f, g, joined⟩ := order
    have same : (y.setEu (y.eu.hold x.eu.outbox.length reportPosters)).eu.notices = s.eu.notices := queue
    rw [same] at joined
    exact ⟨e, f, g, joined⟩
  · show y.eu.notices.length + (y.eu.hold x.eu.outbox.length reportPosters).outbox.length ≤ y.mc.noticeDepth
    rw [held, queue, depth]
    simp only [List.length_append, List.length_cons, List.length_map]
    omega

/-- R177: with room, MODE_CHANGED of an exit that completes joins. -/
theorem conclude_joins {s x : State} {m : Mode} {i k : Nat} (request : x.mc.request = some m) (stopped : x.stopped = true)
    (before : Eu.Tells i [] s.eu x.eu)
    (told : Eu.Tells k [] (enterMode m SelfTest.usual x).eu (changeMode m SelfTest.usual x).eu)
    (room : s.room (i + 1 + k)) (depth : x.mc.noticeDepth = s.mc.noticeDepth) :
    .modeChanged x.mc.mode m ∈ (conclude x).eu.notices := by
  have changed : Eu.Tells (1 + k) [.modeChanged x.mc.mode m] x.eu (changeMode m SelfTest.usual x).eu :=
    ((enterMode_tells m SelfTest.usual x).trans told).weaken le_rfl (by simp)
  have all := before.trans (changed.hold reportPosters)
  rw [conclude_completes x m request stopped]
  refine all.joins (t := (changeMode m SelfTest.usual x).setEu _) (by rwa [← Nat.add_assoc]) ?_ _ (by simp)
  exact (changeMode_depth m SelfTest.usual x).trans depth

/-- The mode and the other blocks that the end of a step leaves as the completed exit has left them. -/
theorem conclude_blocks {x : State} {m : Mode} (request : x.mc.request = some m) (stopped : x.stopped = true) :
    (conclude x).mc = (changeMode m SelfTest.usual x).mc ∧ (conclude x).pt = (changeMode m SelfTest.usual x).pt ∧
      (conclude x).ldu = (changeMode m SelfTest.usual x).ldu ∧ (conclude x).ct = (changeMode m SelfTest.usual x).ct ∧
      (conclude x).tcu = (changeMode m SelfTest.usual x).tcu ∧ (conclude x).wgc = (changeMode m SelfTest.usual x).wgc := by
  rw [conclude_completes x m request stopped]
  exact ⟨rfl, rfl, rfl, rfl, rfl, rfl⟩

end Sys2Proof.Machine
end

section
/-! SUPPORT. A request for an exit from RECORD, and its withdrawal (R8, R9, R110, R154). -/

namespace Sys2Proof.Machine

section
variable {s : State} {m : Mode} (h : s.takesFrames) (source : s.mc.mode = .record) (hm : isExit m)
include h source hm

/-- R7, R8: a request for an exit is legal and waits. -/
theorem exec_exit :
    ∃ l, exec (.requestMode (ModeFields.bytes ⟨m.code, none⟩)) s =
      .next ((finish (requestExit m (s.setCl l))).setCl (Cl.answered 1 (ModeFields.bytes ⟨m.code, none⟩) .pending false
        (modeBody (requestExit m (s.setCl l))))) := by
  have fits : ModeFields.fits ⟨m.code, none⟩ := ⟨m.code_lt.trans (by decide), by simp⟩
  have legal : legalTarget s.mc.mode m = true := by rcases hm with rfl | rfl <;> rw [source] <;> rfl
  have ready : s.targetReady m = true := by simp [targetReady_iff, source]
  have waits : deferred s.mc.mode m = true := (deferred_iff _ _).2 ⟨source, hm⟩
  obtain ⟨l, done⟩ := exec_request h fits
  have granted : grantMode m SelfTest.usual (s.setCl l) = finish (requestExit m (s.setCl l)) :=
    congrArg finish (if_pos waits)
  refine ⟨l, done (finish (requestExit m (s.setCl l))) .pending ?_ ?_⟩
  · rw [judgeMode_granted (s.setCl l) rfl (.inl rfl) legal ready rfl, granted]
  · exact (requestExit_frame m (s.setCl l)).2.2.1

/-- R8: a request that has to wait. -/
theorem exec_exit_waits {t : State} (settled : s.settled)
    (waits : ∀ l, requestExit m (s.setCl l) = t.setCl l) (eu : t.eu = s.eu)
    (mc : t.mc = { s.mc with request := some m }) :
    exec (.requestMode (ModeFields.bytes ⟨m.code, none⟩)) s =
      .next (t.setCl (Cl.answered 1 (ModeFields.bytes ⟨m.code, none⟩) .pending false
        (modeByte .record ++ [1] ++ modeByte m))) := by
  obtain ⟨l, done⟩ := exec_exit h source hm
  have body : modeBody (t.setCl l) = modeByte .record ++ [1] ++ modeByte m := by
    have pending : (t.setCl l).mc.request = some m := by
      rw [State.setCl_mc, mc]
    have mode : (t.setCl l).mc.mode = .record := by
      rw [State.setCl_mc, mc]
      exact source
    rw [modeBody_pending _ pending, mode]
  rw [done, waits, body, finish_settled (s := s) settled (t := t.setCl l) eu]
  rfl

/-- R8: a request that completes at once. -/
theorem exec_exit_completes {t : Cl → State} (completes : ∀ l, requestExit m (s.setCl l) =
      changeMode m SelfTest.usual (t l)) (mc : ∀ l, (t l).mc = { s.mc with request := some m }) :
    ∃ l, exec (.requestMode (ModeFields.bytes ⟨m.code, none⟩)) s =
      .next ((finish (changeMode m SelfTest.usual (t l))).setCl
        (Cl.answered 1 (ModeFields.bytes ⟨m.code, none⟩) .pending false (modeByte m ++ [0]))) ∧
      (finish (changeMode m SelfTest.usual (t l))).mc = { s.mc with mode := m, request := none } := by
  obtain ⟨l, done⟩ := exec_exit h source hm
  have changed : (changeMode m SelfTest.usual (t l)).mc = { s.mc with mode := m, request := none } := by
    rw [changeMode_mc, mc]
  have body : modeBody (changeMode m SelfTest.usual (t l)) = modeByte m ++ [0] := by
    rw [modeBody_idle _ (by rw [changed]), changed]
  rw [completes, body] at done
  exact ⟨l, done, changed⟩

end

/-! ### What WGC and TCU make of the first request -/

/-- MC with the exit pending and WGC with its mark set. -/
def exitAsked (m : Mode) (s : State) : State :=
  (s.setMc { s.mc with request := some m }).setWgc { s.wgc with exitMark := true }

theorem requestExit_first (m : Mode) (s : State) (h : s.mc.request = none) :
    requestExit m s = judgeExit (tcuExitPending (pauseHead .mode (exitAsked m s))) := by
  rw [requestExit, h, if_neg (by simp)]
  rfl

theorem requestExit_again (m : Mode) (s : State) (first : Mode) (h : s.mc.request = some first) :
    requestExit m s = judgeExit (s.setMc { s.mc with request := some m }) := by
  rw [requestExit, h, if_pos (by simp)]

theorem tcuExitPending_idle (s : State) (h : s.tcu.trial = none) : tcuExitPending s = s := by
  rw [tcuExitPending, h]

theorem pauseHead_nil (why : SegReason) (s : State) (h : s.wgc.queue = []) : pauseHead why s = s := by
  rw [pauseHead, h]

section
variable {s : State} {m : Mode} (hr : s.mc.request = none)
include hr

/-- R154: the exit waits for the block that the head writes. -/
theorem requestExit_writing (g : Segment) (rest : List Segment) (ht : s.tcu.trial = none) (hq : s.wgc.queue = g :: rest)
    (hs : g.state = .writing) :
    requestExit m s = (exitAsked m s).heads { g with state := .suspending, reason := some .mode } rest := by
  have paused := (pauseHead_cases .mode (exitAsked m s) g rest hq).1 hs
  have idle : (pauseHead .mode (exitAsked m s)).tcu.trial = none := by
    rw [paused]
    exact ht
  rw [requestExit_first m s hr, tcuExitPending_idle _ idle, paused]
  exact judgeExit_waits _ rfl

/-- R110: the exit waits for the trial. -/
theorem requestExit_trial (x : Trial) (ht : s.tcu.trial = some x) (hq : s.wgc.queue = []) :
    requestExit m s = setTrial { x with modeMark := true } (exitAsked m s) := by
  have trial : (exitAsked m s).tcu.trial = some x := ht
  have marked : tcuExitPending (exitAsked m s) = setTrial { x with modeMark := true } (exitAsked m s) := by
    rw [tcuExitPending, trial]
  rw [requestExit_first m s hr, pauseHead_nil .mode (exitAsked m s) hq, marked]
  exact judgeExit_waits _ (Bool.and_false _)

/-- R154: where nothing is recorded the head, if it does not stand already, is SUSPENDED, and the exit completes. -/
theorem requestExit_stopped (ht : s.tcu.trial = none) (stopped : s.stopped = true) :
    requestExit m s = changeMode m SelfTest.usual (pauseHead .mode (exitAsked m s)) ∧
      ∀ (g : Segment) (rest : List Segment), s.wgc.queue = g :: rest →
        (g.state = .queued ∨ g.state = .waiting → (pauseHead .mode (exitAsked m s)).wgc.queue =
          { g with state := .suspended, reason := some .mode } :: rest) ∧
        (g.state = .suspended ∨ g.state = .halted → (pauseHead .mode (exitAsked m s)).wgc.queue = s.wgc.queue) := by
  have quiet : s.wgc.queue.all (fun g => !g.state.writes) = true := by
    simpa [State.stopped, ht] using stopped
  have queue (g : Segment) (rest : List Segment) (hq : s.wgc.queue = g :: rest) :
      (g.state = .queued ∨ g.state = .waiting → (pauseHead .mode (exitAsked m s)).wgc.queue =
        { g with state := .suspended, reason := some .mode } :: rest) ∧
      (g.state = .suspended ∨ g.state = .halted → (pauseHead .mode (exitAsked m s)).wgc.queue = s.wgc.queue) := by
    obtain ⟨-, stands, waiting, queued⟩ := pauseHead_cases .mode (exitAsked m s) g rest hq
    refine ⟨fun hs => ?_, fun hs => ?_⟩
    · rcases hs with hs | hs
      · rw [queued hs]
        rfl
      · rw [waiting hs]
        rfl
    · rw [stands (.inr hs)]
      rfl
  have still : (pauseHead .mode (exitAsked m s)).wgc.queue.all (fun g => !g.state.writes) = true := by
    cases hq : s.wgc.queue with
    | nil =>
      rw [pauseHead_nil .mode (exitAsked m s) hq]
      exact quiet
    | cons g rest =>
      obtain ⟨suspends, stands⟩ := queue g rest hq
      rw [hq, List.all_cons, Bool.and_eq_true] at quiet
      obtain ⟨head, tail⟩ := quiet
      rcases g.state_cases with hs | hs | hs | hs
      · rw [suspends (.inr hs), List.all_cons, tail]
        rfl
      · rcases hs with hs | hs <;> simp [hs, SegState.writes] at head
      · rw [suspends (.inl hs), List.all_cons, tail]
        rfl
      · rw [stands hs, hq, List.all_cons, head, tail]
        rfl
  obtain ⟨mc, -, -, -, tcu, -⟩ := pauseHead_frame .mode (exitAsked m s)
  have idle : (pauseHead .mode (exitAsked m s)).tcu.trial = none := by
    rw [tcu]
    exact ht
  refine ⟨?_, queue⟩
  rw [requestExit_first m s hr, tcuExitPending_idle _ idle]
  refine judgeExit_completes _ m (by rw [mc]; rfl) ?_
  rw [State.stopped, still, idle]
  rfl

end

/-- R9, R110: the withdrawal removes the marks, and leaves the segment. -/
theorem withdrawExit_pending (s : State) (m : Mode) (h : s.mc.request = some m) :
    withdrawExit s = { s with
      mc := { s.mc with request := none }
      wgc := { s.wgc with exitMark := false }
      tcu := { s.tcu with trial := s.tcu.trial.map (fun x => { x with modeMark := false }) } } := by
  rw [withdrawExit, if_pos (by simp [h]), tcuExitWithdrawn]
  cases ht : s.tcu.trial with
  | none =>
    have trial : (wgcExitWithdrawn (s.setMc { s.mc with request := none })).tcu.trial = none := ht
    have same : s.tcu = { s.tcu with trial := none } := by rw [← ht]
    rw [trial]
    exact congrArg (fun x : Tcu => { s with
      mc := { s.mc with request := none }
      wgc := { s.wgc with exitMark := false }
      tcu := x }) same
  | some x =>
    have trial : (wgcExitWithdrawn (s.setMc { s.mc with request := none })).tcu.trial = some x := ht
    rw [trial]
    rfl

end Sys2Proof.Machine
end

section
/-! SUPPORT. The exits of O6, from the request to the boundary or the end of the trial that completes them. -/

namespace Sys2Proof.Machine

/-- The first clause of O6, with no exit pending. -/
theorem exit_first (s : State) (m : Mode) (h : s.takesFrames) (settled : s.settled) (source : s.mc.mode = .record)
    (hm : isExit m) (hr : s.mc.request = none) :
    (∀ (g : Segment) (rest : List Segment), s.tcu.trial = none → s.wgc.queue = g :: rest → g.state = .writing →
      exec (.requestMode (ModeFields.bytes ⟨m.code, none⟩)) s = .next { s with
        mc := { s.mc with request := some m }
        wgc := { s.wgc with
          exitMark := true, queue := { g with state := .suspending, reason := some .mode } :: rest }
        cl := Cl.answered 1 (ModeFields.bytes ⟨m.code, none⟩) .pending false
          (modeByte .record ++ [1] ++ modeByte m) }) ∧
    (∀ x : Trial, s.tcu.trial = some x → s.wgc.queue = [] →
      exec (.requestMode (ModeFields.bytes ⟨m.code, none⟩)) s = .next { s with
        mc := { s.mc with request := some m }
        wgc := { s.wgc with exitMark := true }
        tcu := { s.tcu with trial := some { x with modeMark := true } }
        cl := Cl.answered 1 (ModeFields.bytes ⟨m.code, none⟩) .pending false
          (modeByte .record ++ [1] ++ modeByte m) }) ∧
    (s.stopped = true → s.tcu.trial = none →
      ∃ t, exec (.requestMode (ModeFields.bytes ⟨m.code, none⟩)) s = .next t ∧
        t.mc = { s.mc with mode := m, request := none } ∧
        t.cl = Cl.answered 1 (ModeFields.bytes ⟨m.code, none⟩) .pending false (modeByte m ++ [0]) ∧
        (m = .standby → t.wgc.queue = []) ∧
        (m = .read → ∀ (g : Segment) (rest : List Segment), s.wgc.queue = g :: rest →
          (g.state = .queued ∨ g.state = .waiting →
            t.wgc.queue = { g with state := .suspended, reason := some .mode } :: rest) ∧
          (g.state = .suspended ∨ g.state = .halted → t.wgc.queue = s.wgc.queue))) := by
  refine ⟨fun g rest ht hq hs => ?_, fun x ht hq => ?_, fun stopped ht => ?_⟩
  · exact exec_exit_waits h source hm (t := (exitAsked m s).heads { g with
      state := .suspending
      reason := some .mode } rest) settled (fun l => requestExit_writing (s := s.setCl l) hr g rest ht hq hs) rfl rfl
  · exact exec_exit_waits h source hm (t := setTrial { x with modeMark := true } (exitAsked m s)) settled
      (fun l => requestExit_trial (s := s.setCl l) hr x ht hq) rfl rfl
  · have asked (l : Cl) := requestExit_stopped (s := s.setCl l) (m := m) hr ht stopped
    have mc (l : Cl) : (pauseHead .mode (exitAsked m (s.setCl l))).mc = { s.mc with request := some m } :=
      (pauseHead_frame .mode (exitAsked m (s.setCl l))).1
    obtain ⟨l, done, changed⟩ := exec_exit_completes h source hm (fun l => (asked l).1) mc
    obtain ⟨-, queue⟩ := asked l
    have idle : (pauseHead .mode (exitAsked m (s.setCl l))).tcu.trial = none := by
      rw [(pauseHead_frame .mode (exitAsked m (s.setCl l))).2.2.2.2.1]
      exact ht
    obtain ⟨-, -, -, -, -, -, -, -, flushed, kept⟩ := changeMode_exit hm idle
    refine ⟨_, done, changed, rfl, flushed, fun read g rest hq => ⟨fun hs => ?_, fun hs => ?_⟩⟩
    · exact (kept read).trans ((queue g rest hq).1 hs)
    · exact (kept read).trans ((queue g rest hq).2 hs)

/-- The first clause of O6, with an exit pending: the second target takes the place of the first. -/
theorem exit_again (s : State) (m first : Mode) (h : s.takesFrames) (settled : s.settled) (source : s.mc.mode = .record)
    (hm : isExit m) (hr : s.mc.request = some first) :
    (s.stopped = false →
      exec (.requestMode (ModeFields.bytes ⟨m.code, none⟩)) s = .next { s with
        mc := { s.mc with request := some m }
        cl := Cl.answered 1 (ModeFields.bytes ⟨m.code, none⟩) .pending false
          (modeByte .record ++ [1] ++ modeByte m) }) ∧
    (s.stopped = true →
      ∃ t, exec (.requestMode (ModeFields.bytes ⟨m.code, none⟩)) s = .next t ∧
        t.mc = { s.mc with mode := m, request := none } ∧
        t.cl = Cl.answered 1 (ModeFields.bytes ⟨m.code, none⟩) .pending false (modeByte m ++ [0])) := by
  refine ⟨fun going => ?_, fun stopped => ?_⟩
  · refine exec_exit_waits h source hm (t := s.setMc { s.mc with request := some m }) settled (fun l => ?_) rfl rfl
    rw [requestExit_again m (s.setCl l) first hr]
    exact judgeExit_waits _ going
  · obtain ⟨l, done, changed⟩ := exec_exit_completes h source hm
      (t := fun l => (s.setCl l).setMc { s.mc with request := some m }) (fun l => by
        rw [requestExit_again m (s.setCl l) first hr]
        exact judgeExit_completes _ m rfl stopped) (fun _ => rfl)
    exact ⟨_, done, changed, rfl⟩

/-- The second clause of O6. -/
theorem exit_withdrawn (s : State) (m : Mode) (h : s.takesFrames) (source : s.mc.mode = .record)
    (hr : s.mc.request = some m) :
    exec (.requestMode (ModeFields.bytes ⟨3, none⟩)) s = .next { s with
      mc := { s.mc with request := none }
      wgc := { s.wgc with exitMark := false }
      tcu := { s.tcu with trial := s.tcu.trial.map (fun x => { x with modeMark := false }) }
      cl := Cl.answered 1 (ModeFields.bytes ⟨3, none⟩) .ok false (modeByte .record ++ [0]) } := by
  have fits : ModeFields.fits ⟨Mode.record.code, none⟩ := ⟨by decide, by simp⟩
  obtain ⟨l, done⟩ := exec_request h fits
  have withdrawn := withdrawExit_pending (s.setCl l) m hr
  have body : modeBody (withdrawExit (s.setCl l)) = modeByte .record ++ [0] := by
    rw [modeBody_idle _ (by rw [withdrawn]), withdrawn, ← source]
    rfl
  have judged := judgeMode_current (f := ⟨Mode.record.code, none⟩) (s.setCl l) (m := .record) rfl (.inl rfl) (by decide)
    source.symm
  have answered := done _ _ judged (by rw [withdrawn]; rfl)
  rw [body, withdrawn] at answered
  exact answered

/-! ### The boundary that suspends the segment -/

theorem stopped_of {x : State} {g : Segment} {rest : List Segment} (hq : x.wgc.queue = g :: rest)
    (head : g.state.writes = false) (tail : ∀ h ∈ rest, h.state.writes = false) (ht : x.tcu.trial = none) :
    x.stopped = true := by
  rw [State.stopped, hq, ht]
  simpa [head] using tail

/-- R141: the boundary that suspends the segment: the block is counted, and the head gives the gate back. -/
theorem boundary_suspends (s : State) (g : Segment) (rest : List Segment) (why : SegReason) (valid : Bool)
    (ht : s.tcu.trial = none) (hq : s.wgc.queue = g :: rest) (hs : g.state = .suspending) (reason : g.reason = some why)
    (more : g.done + 1 < g.count) :
    ∃ x h, deliverBoundary s.pt.surface s.pt.predicted (boundaryKind valid) (passed valid s) =
        post .wgc (.segmentSuspended g.tag (g.next + 1) (g.count - (g.done + 1)) why) x ∧
      x.mc = s.mc ∧ x.tcu = s.tcu ∧ x.wgc.queue = h :: rest ∧ h.state = .suspended ∧ h.reason = some why ∧
      h.done = g.done + 1 ∧ x.wgc.gate = .idle ∧ x.wgc.user = none ∧ x.ldu.driven = .read ∧
      Eu.Tells 1 [] s.eu x.eu := by
  obtain ⟨h, head⟩ : ∃ h, (rpcUpdate (s.setWgc { s.wgc with
      append := some (g.surface, g.next), queue := { g with done := g.done + 1 } :: rest })).wgc.queue = h :: rest := by
    obtain ⟨_, _, head, -⟩ := rpcUpdate_wgc (s.setWgc { s.wgc with
      append := some (g.surface, g.next), queue := { g with done := g.done + 1 } :: rest }) _ rest rfl
    exact ⟨_, head⟩
  have e := blockEnded_of valid hq rfl head
  have taken : deliverBoundary s.pt.surface s.pt.predicted (boundaryKind valid) (passed valid s) =
      afterBlock s.pt.surface s.pt.predicted (blockEnded (passed valid s)) := by
    rw [deliverBoundary_noTrial _ _ _ (passed valid s) ht]
    exact wgcBoundary_ends _ _ _ (passed valid s) g rest hq (.inr hs)
  obtain ⟨tag, -, count, done, state, kept, next, -, remaining⟩ := e.counted
  have suspended := afterBlock_suspends (f := s.pt.surface) (a := s.pt.predicted) e.queue (by omega) (state.trans hs)
  rw [kept, reason, Option.getD_some, tag, next, remaining] at suspended
  exact ⟨_, _, taken.trans suspended, e.mc, e.tcu, rfl, rfl, rfl, done, rfl, rfl, rfl, e.told⟩

/-- The fourth clause of O6. -/
theorem exit_at_boundary (s : State) (m : Mode) (g : Segment) (rest : List Segment) (why : SegReason) (valid : Bool)
    (source : s.mc.mode = .record) (hr : s.mc.request = some m) (hm : isExit m) (ht : s.tcu.trial = none)
    (hq : s.wgc.queue = g :: rest) (hs : g.state = .suspending) (reason : g.reason = some why)
    (more : g.done + 1 < g.count) (others : ∀ h ∈ rest, h.state.writes = false) (hp : s.passesBoundary valid) :
    ∃ t, exec (.positionRecord valid s.pt.surface s.pt.predicted) s = .next t ∧
      t.mc = { s.mc with mode := m, request := none } ∧ t.pt.state = .lost ∧ t.wgc.gate = .idle ∧
      t.wgc.user = none ∧ t.wgc.exitMark = false ∧ t.ldu.driven = .read ∧
      (m = .standby → t.wgc.queue = []) ∧
      (m = .read → ∃ h, t.wgc.queue = h :: rest ∧ h.state = .suspended ∧ h.reason = some why ∧
        h.done = g.done + 1) ∧
      (s.room 6 → ∃ x y z, t.eu.notices = s.eu.notices ++
        (x ++ .segmentSuspended g.tag (g.next + 1) (g.count - (g.done + 1)) why ::
          (y ++ .modeChanged .record m :: z))) := by
  obtain ⟨x, h, taken, mc, tcu, queue, state, because, done, gate, user, driven, notices, l, outbox, few, -⟩ :=
    boundary_suspends s g rest why valid ht hq hs reason more
  have stepped := exec_boundary s valid source hp
  rw [taken] at stepped
  generalize hn : Notice.segmentSuspended g.tag (g.next + 1) (g.count - (g.done + 1)) why = n at *
  have request : (post .wgc n x).mc.request = some m := (congrArg Mc.request mc).trans hr
  have mode : (post .wgc n x).mc.mode = .record := (congrArg Mc.mode mc).trans source
  have idle : (post .wgc n x).tcu.trial = none := (congrArg Tcu.trial tcu).trans ht
  have stopped : (post .wgc n x).stopped = true := stopped_of (x := post .wgc n x) queue (by rw [state]; rfl) others idle
  obtain ⟨bmc, bpt, bldu, -, -, bwgc⟩ := conclude_blocks request stopped
  obtain ⟨cmc, lost, -, -, mark, cgate, cuser, cdriven, flushed, kept⟩ := changeMode_exit hm idle
  refine ⟨_, stepped, ?_, ?_, ?_, ?_, ?_, ?_, ?_, ?_, fun room => ?_⟩
  · rw [bmc, cmc, ← mc]
    rfl
  · rw [bpt, lost]
  · rw [bwgc, cgate gate]
  · rw [bwgc, cuser user]
  · rw [bwgc, mark]
  · rw [bldu, cdriven driven]
  · rw [bwgc]
    exact flushed
  · rw [bwgc]
    exact fun read => ⟨h, (kept read).trans queue, state, because, done⟩
  · obtain ⟨settled, free⟩ := room
    have empty : s.eu.outbox = [] := settled
    rw [empty, List.nil_append] at outbox
    have posted : (post .wgc n x).eu.outbox = l ++ ⟨.wgc, [], n⟩ :: [] := by
      show x.eu.outbox ++ _ = _
      rw [outbox]
    have order := conclude_order (by decide) request stopped (s := s) notices posted (changeMode_exit_tells hm idle) (by
      have depth : (post .wgc n x).mc.noticeDepth = s.mc.noticeDepth := congrArg Mc.noticeDepth mc
      rw [depth, List.length_nil]
      omega)
    rwa [mode] at order

/-! ### The end of the trial -/

section
variable {s c : State} {m : Mode} {t : Trial} {why : TrialReason} (hm : isExit m) (hr : s.mc.request = some m)
  (mc : c.mc = s.mc) (hq : c.wgc.queue = [])
include hm hr mc hq

/-- R8, R107: what an exit that completes at the end of a trial leaves. -/
theorem exit_after_trial :
    (conclude (trialEnded .aborted (some why) none t c)).mc = { s.mc with mode := m, request := none } ∧
      (conclude (trialEnded .aborted (some why) none t c)).tcu = { c.tcu with trial := none } ∧
      (conclude (trialEnded .aborted (some why) none t c)).ct = c.ct.putRecord t.key t.saved ∧
      (conclude (trialEnded .aborted (some why) none t c)).pt.state = .lost ∧
      (conclude (trialEnded .aborted (some why) none t c)).wgc.gate = .idle ∧
      (conclude (trialEnded .aborted (some why) none t c)).wgc.exitMark = false := by
  obtain ⟨emc, -, -, -, etcu, -, ewgc, -, -⟩ := trialEnded_parts .aborted (some why) none t c
  have ect := trialEnded_restores .aborted (some why) t c
  generalize trialEnded .aborted (some why) none t c = x at *
  have request : x.mc.request = some m := by rw [emc, mc, hr]
  have idle : x.tcu.trial = none := by rw [etcu]
  have stopped : x.stopped = true := by
    rw [State.stopped, idle, ewgc]
    simp [hq]
  obtain ⟨bmc, bpt, -, bct, btcu, bwgc⟩ := conclude_blocks request stopped
  obtain ⟨cmc, lost, ctcu, cct, mark, gate, -, -, -, -⟩ := changeMode_exit hm idle
  refine ⟨?_, ?_, ?_, ?_, ?_, ?_⟩
  · rw [bmc, cmc, emc, mc]
  · rw [btcu, ctcu, etcu]
  · rw [bct, cct, ect]
  · rw [bpt, lost]
  · rw [bwgc, gate (by rw [ewgc])]
  · rw [bwgc, mark]

end

/-- R177: CAL_DONE and behind it MODE_CHANGED. -/
theorem exit_after_trial_tells {s c : State} {m : Mode} {t : Trial} {why : TrialReason} (hr : s.mc.request = some m)
    (mc : c.mc = s.mc) (hq : c.wgc.queue = []) (source : s.mc.mode = .record) (eu : c.eu = s.eu) (room : s.room 4) :
    ∃ y z w, (conclude (trialEnded .aborted (some why) none t c)).eu.notices = s.eu.notices ++
      (y ++ .calDone (c.calDone t .aborted (some why) none) :: (z ++ .modeChanged .record m :: w)) := by
  obtain ⟨emc, -, -, -, etcu, -, ewgc, -, eeu⟩ := trialEnded_parts .aborted (some why) none t c
  generalize trialEnded .aborted (some why) none t c = x at *
  generalize c.calDone t .aborted (some why) none = n at *
  have request : x.mc.request = some m := by rw [emc, mc, hr]
  have mode : x.mc.mode = .record := by rw [emc, mc, source]
  have idle : x.tcu.trial = none := by rw [etcu]
  have empty : x.wgc.queue = [] := by
    rw [ewgc]
    exact hq
  have stopped : x.stopped = true := by
    rw [State.stopped, idle, empty]
    rfl
  obtain ⟨settled, free⟩ := room
  have quiet : s.eu.outbox = [] := settled
  have posted : x.eu.outbox = [] ++ ⟨.tcu, [], .calDone n⟩ :: [] := by
    rw [eeu, eu]
    simp [Eu.post, quiet]
  have notices : x.eu.notices = s.eu.notices := by rw [eeu, eu]; rfl
  have order := conclude_order (by decide) request stopped notices posted (changeMode_exit_tells_empty m idle empty) (by
    rw [emc, mc, List.length_nil]
    omega)
  rwa [mode] at order

/-- R110: the boundary at which a MODE mark ends the trial: in the state it meets, with the gate closed after the last
step, or with the step that is measured closed. -/
theorem tcuBoundary_ended (f : Surface) (a : Nat) (k : BoundaryKind) (s : State) (t : Trial) (ht : s.tcu.trial = some t)
    (marked : t.modeMark = true) (hi : t.sub = .measuring → t.index < t.steps.length) (hq : s.wgc.queue = []) :
    ∃ c x, tcuBoundary f a k s = trialEnded .aborted (some .mode) none x c ∧ c.mc = s.mc ∧ c.ct = s.ct ∧ c.eu = s.eu ∧
      c.wgc.queue = [] ∧ { c.tcu with trial := none } = { s.tcu with trial := none } ∧ x.key = t.key ∧
      x.saved = t.saved ∧ (t.sub ≠ .measuring → x = t ∧ c.tcu = s.tcu) := by
  have mark : t.mark = some .mode := by rw [Trial.mark, if_pos marked]
  have here : abortTrial .mode s = trialEnded .aborted (some .mode) none t s := abortTrial_alone .mode t s ht hq
  cases hs : t.sub with
  | writeWait =>
    refine ⟨s, t, ?_, rfl, rfl, rfl, hq, rfl, rfl, rfl, fun _ => ⟨rfl, rfl⟩⟩
    exact (tcuBoundary_marked f a k s t .mode ht mark (.inl hs)).trans here
  | writing =>
    by_cases last : t.index < t.steps.length
    · refine ⟨s, t, ?_, rfl, rfl, rfl, hq, rfl, rfl, rfl, fun _ => ⟨rfl, rfl⟩⟩
      exact (tcuBoundary_marked f a k s t .mode ht mark (.inr ⟨hs, last⟩)).trans here
    · refine ⟨shutGate (some .trial) s, t, ?_, rfl, rfl, rfl, hq, rfl, rfl, rfl, fun _ => ⟨rfl, rfl⟩⟩
      rw [tcuBoundary, ht]
      dsimp only
      rw [hs]
      dsimp only
      rw [trialWriting, if_neg last, trialWritten, if_pos mark]
      exact abortTrial_alone .mode t (shutGate (some .trial) s) ht hq
  | readWait =>
    refine ⟨s, t, ?_, rfl, rfl, rfl, hq, rfl, rfl, rfl, fun _ => ⟨rfl, rfl⟩⟩
    rw [tcuBoundary, ht]
    dsimp only
    rw [hs]
    dsimp only
    rw [trialReadWait, if_pos mark, here]
  | measuring =>
    refine ⟨setTrial (t.mapStep t.index TrialStep.close) s, t.mapStep t.index TrialStep.close, ?_, rfl, rfl, rfl, hq, rfl,
      rfl, rfl, fun k => absurd rfl k⟩
    rw [tcuBoundary_measuring f a k s t ht hs, trialMeasuring]
    refine (if_pos (hi hs)).trans ((if_pos mark).trans ?_)
    exact abortTrial_alone .mode _ (setTrial _ s) rfl hq

/-- The fifth clause of O6. -/
theorem exit_at_trial_boundary (s : State) (m : Mode) (x : Trial) (valid : Bool) (source : s.mc.mode = .record)
    (hr : s.mc.request = some m) (hm : isExit m) (ht : s.tcu.trial = some x) (marked : x.modeMark = true)
    (hi : x.sub = .measuring → x.index < x.steps.length) (hq : s.wgc.queue = []) (hp : s.passesBoundary valid) :
    ∃ t, exec (.positionRecord valid s.pt.surface s.pt.predicted) s = .next t ∧
      t.mc = { s.mc with mode := m, request := none } ∧ t.tcu = { s.tcu with trial := none } ∧
      t.ct = s.ct.putRecord x.key x.saved ∧ t.pt.state = .lost ∧ t.wgc.gate = .idle ∧ t.wgc.exitMark = false ∧
      (s.room 4 → Notice.modeChanged .record m ∈ t.eu.notices ∧
        (x.sub ≠ .measuring → ∃ y z w, t.eu.notices = s.eu.notices ++
          (y ++ .calDone (s.calDone x .aborted (some .mode) none) :: (z ++ .modeChanged .record m :: w)))) := by
  have stepped := exec_boundary s valid source hp
  obtain ⟨n, alone⟩ := deliverBoundary_trial s.pt.surface s.pt.predicted (boundaryKind valid) (passed valid s)
    (headOffGate_empty (passed valid s) hq) (.inl hq)
  obtain ⟨c, t, ended, mc, ct, eu, queue, tcu, key, saved, same⟩ := tcuBoundary_ended s.pt.surface s.pt.predicted
    (boundaryKind valid) ((passed valid s).setFree n) x ht marked hi hq
  rw [alone, ended] at stepped
  obtain ⟨emc, etcu, ect, lost, gate, mark⟩ := exit_after_trial (s := s) (t := t) (why := .mode) hm hr mc queue
  refine ⟨_, stepped, emc, etcu.trans tcu, ?_, lost, gate, mark, fun room => ?_⟩
  · rw [ect, ct, key, saved]
    rfl
  · obtain ⟨y, z, w, told⟩ := exit_after_trial_tells (s := s) (t := t) (why := .mode) hr mc queue source eu room
    refine ⟨?_, fun hs => ⟨y, z, w, ?_⟩⟩
    · rw [told]
      simp
    · obtain ⟨rfl, stands⟩ := same hs
      rw [told, calDone_congr stands]
      rfl

/-- The last clause of O6. -/
theorem exit_at_abort (s : State) (m : Mode) (x : Trial) (h : s.takesFrames) (hr : s.mc.request = some m)
    (hm : isExit m) (ht : s.tcu.trial = some x) (hq : s.wgc.queue = []) :
    ∃ t, exec (.abortCal []) s = .next t ∧ t.mc = { s.mc with mode := m, request := none } ∧ t.tcu.trial = none ∧
      t.pt.state = .lost ∧ t.wgc.gate = .idle ∧ t.wgc.exitMark = false := by
  obtain ⟨l, done⟩ := exec_abortCal_trial s x h ht
  rw [abortTrial_alone .command x (s.setCl l) ht hq] at done
  obtain ⟨mc, tcu, -, lost, gate, mark⟩ :=
    exit_after_trial (s := s) (t := x) (why := .command) (c := s.setCl l) hm hr rfl hq
  exact ⟨_, done, mc, congrArg Tcu.trial tcu, lost, gate, mark⟩

/-- Settles O6, from the request to what completes it. -/
theorem exitFromRecordWaitsAndIsWithdrawn : Obligations.ExitFromRecordWaitsAndIsWithdrawn :=
  ⟨fun s m h settled source hm => ⟨exit_first s m h settled source hm,
      fun first => exit_again s m first h settled source hm⟩,
    exit_withdrawn, fun _ => rfl, exit_at_boundary, exit_at_trial_boundary,
    fun s m x h _ => exit_at_abort s m x h⟩

end Sys2Proof.Machine
end
